-- ==== Sys2Proof/Word.lean ====
section
/-! DEFINITION. The words the manual treats as bits (bytes, addresses, tags, free-running counts) and the index types of
the part's fixed tables. -/

namespace Sys2Proof

/-- One byte of a slot, a record or a buffer. -/
abbrev Byte := BitVec 8

/-- A 64-bit host address, taken whole (R200). -/
abbrev Addr := BitVec 64

/-- A 32-bit register, tag or frame number. -/
abbrev Word32 := BitVec 32

/-- A free-running 16-bit count that wraps from 65535 to 0 (R143, R144, R162). -/
abbrev Count16 := BitVec 16

/-- A highway, H0 to H15. -/
abbrev HwyId := Fin 16

/-- A channel, C0 to C127. -/
abbrev ChanId := Fin 128

/-- A completion ring, 0 to 3. -/
abbrev RingId := Fin 4

/-- The slot bytes of one frame, slot 0 first. -/
abbrev Frame := List Byte

end Sys2Proof
end

