-- ==== Sys2Proof/Syntax.lean ====
section
/-! DEFINITION. The commands: one constructor per row of spec/opcode_table.json, with what the outside brings to it. -/

namespace Sys2Proof

/-- The two backplane reference inputs (section 6.3). -/
inductive RefInput where
  | refa
  | refb
  deriving DecidableEq, Repr

/-- The eighteen timing sources (section 6.3). -/
inductive Source where
  | hwy (h : HwyId)
  | ref (r : RefInput)
  deriving DecidableEq, Repr

/-- A request record as the fetch returns it, but for its kind byte, which the command's constructor gives: the header
fields of 10.3 and the 56 body bytes from record offset 0x08. -/
structure ReqRecord where
  /-- Flags at 0x01: bit 0 IMMEDIATE, bit 1 CLEAR. -/
  flags : Byte
  /-- Completion ring at 0x02. -/
  ring : Byte
  /-- Reserved byte at 0x03. -/
  reserved : Byte
  /-- Tag at 0x04. -/
  tag : Word32
  /-- Bytes 0x08 to 0x3F. -/
  body : List Byte
  deriving DecidableEq, Repr

/-- How a host memory read ends (R195). -/
inductive ReadEnd where
  | data (bytes : List Byte)
  | error
  | timeout
  deriving DecidableEq, Repr

/-- How a host memory write ends (R195). -/
inductive WriteEnd where
  | accepted
  | error
  | timeout
  deriving DecidableEq, Repr

/-- How any host memory operation ends (R195). -/
inductive OpEnd where
  | data (bytes : List Byte)
  | accepted
  | error
  | timeout
  deriving DecidableEq, Repr

/-- The choices the manual leaves open within one device frame event: which highways' losses by silence are taken before
the timing unit's work and in what order (R123), the order of the losses taken after it, and the orders in which the
completion writer takes the records of different sources (R172), at an apply those of the channels among themselves, which
stand in number order there (log entry 28), and then the apply's among the others'.  Highways that stand in neither list
lose after the timing unit's work, in number order (DESIGN CHOICE, log entries 8 and 9). -/
structure FrameOrder where
  /-- Losses by silence taken before the timing unit's work. -/
  before : List HwyId
  /-- Losses by silence taken first among those after it. -/
  after : List HwyId
  /-- For each record taken, which of the sources with a record left hands the next. -/
  picks : List Nat
  /-- The same among the channels that hand records at an apply. -/
  closes : List Nat := []
  deriving DecidableEq, Repr

/-- The commands of the part: the rows of spec/opcode_table.json, in its order. -/
inductive Instr where
  | powerOnReset
  | configurationSpaceWrite (busMaster messages : Bool) (vectors : Nat)
  | start
  | stop
  | reset
  | setupAddressWrite (high : Bool) (value : Word32)
  | requestTail (value : Word32)
  | ringHead (ring : RingId) (value : Word32)
  | registerWrite (offset len : Nat) (value : Word32)
  | setupReadEnd (e : ReadEnd)
  | requestFetch
  | requestFetchError (timeout : Bool)
  | badKind (kind : Byte) (r : ReqRecord)
  | nop (r : ReqRecord)
  | sethwy (r : ReqRecord)
  | connect (r : ReqRecord)
  | disconnect (r : ReqRecord)
  | openChannel (r : ReqRecord)
  | closeChannel (r : ReqRecord)
  | reslot (r : ReqRecord)
  | commit (r : ReqRecord)
  | discard (r : ReqRecord)
  | setref (r : ReqRecord)
  | qhwy (r : ReqRecord)
  | qchan (r : ReqRecord)
  | qslot (r : ReqRecord)
  | qtime (r : ReqRecord)
  | resultWriteEnd (e : WriteEnd)
  | deviceFrameEvent (o : FrameOrder)
  | apply (o : FrameOrder)
  | stopClearEvent (o : FrameOrder)
  /-- `sinceEnable` says that the frame's start mark followed the SETHWY that enabled the highway (log entry 20). -/
  | frameArrival (h : HwyId) (bytes : Frame) (sinceEnable : Bool)
  | hwySilence (h : HwyId) (o : FrameOrder)
  | hwyLost (h : HwyId) (o : FrameOrder)
  | referencePulse (r : RefInput)
  | referenceLoss (r : RefInput) (o : FrameOrder)
  | driftWindowEnd (src : Source) (o : FrameOrder)
  | candidateQualified (src : Source) (o : FrameOrder)
  | selectLocked (o : FrameOrder)
  | holdoverValid (o : FrameOrder)
  | holdoverLimit (o : FrameOrder)
  | waitToRestore (o : FrameOrder)
  | operationTimeout (id : Nat)
  | lateAnswer (id : Nat) (e : OpEnd)
  | descriptorReadEnd (id : Nat) (e : ReadEnd)
  | dataReadEnd (id : Nat) (e : ReadEnd)
  | dataWriteEnd (id : Nat) (e : WriteEnd)
  | writeBackEnd (id : Nat) (e : WriteEnd)
  | flushReadEnd (id : Nat) (e : ReadEnd)
  | staleOperationEnd (id : Nat) (e : OpEnd)
  | completionWriteEnd (id : Nat) (e : WriteEnd)
  | writeBackIssue (c : ChanId)
  | deferredLookaheadRead (c : ChanId)
  | primingRead (c : ChanId)
  | flushWalk (c : ChanId)
  | chanClosed (c : ChanId)
  | overflow (ring : RingId)
  | heldRecordPlaced (ring : RingId)
  | stoppingEnd
  | resettingEnd
  deriving DecidableEq, Repr

end Sys2Proof
end

