-- ==== Sys2Proof/Config.lean ====
section
/-! DEFINITION. The numbers the manual fixes for every SX416, and the one free value of the model. The orders the manual
leaves open are no constants: they are operands of the commands (`FrameOrder` in Syntax.lean). -/

namespace Sys2Proof.Config

/-- One second is 8000 device frames (00_scope.md, Conventions). -/
def framesPerSecond : Nat := 8000

/-- The acquire period and the locked run that sets holdover-valid (R126, R127). -/
def lockFrames : Nat := 8000

/-- The length of a drift window in device frame events (R120). -/
def windowFrames : Nat := 8000

/-- The slot budget of the enabled highways (R48). -/
def slotBudget : Nat := 1024

/-- The most entries the staging set holds (R21). -/
def stagingLimit : Nat := 256

/-- Where a 16-bit statistics counter or missed count saturates (R45, R162). -/
def max16 : Nat := 65535

/-- Where a 32-bit channel counter saturates (R68). -/
def max32 : Nat := 4294967295

/-- Where a candidate's qualified time saturates (R117). -/
def maxQualified : Nat := 2040000

/-- The most frames a valid descriptor asks for (R95). -/
def maxFrames : Nat := 4096

/-- Silence count at which a highway leaves ALIGNED (R54). -/
def silenceLimit : Nat := 4

/-- Search age at which a highway enters LOST (R54). -/
def searchLimit : Nat := 64

/-- Consecutive misframes that take a highway out of ALIGNED (R53). -/
def misframeLimit : Nat := 3

/-- Consecutive correct frames that align a highway (R52). -/
def alignRun : Nat := 2

/-- The pulse gap at which REFA or REFB is in loss (R119). -/
def gapLimit : Nat := 3

/-- The ID register: part code 0x0416, revision number 1 (R183). -/
def idRegister : Word32 := 0x00010416

/-- One more, up to a limit: the statistics counters saturate (00_scope.md, Conventions). -/
def satAdd (limit n : Nat) : Nat := if n < limit then n + 1 else n

/-- The byte a CONNECTION carries while its source slot is no input slot of an enabled highway, for the `k`-th device frame
event, the output slot, and the source slot.  The manual gives no such CONNECTION a byte (R4,
R59): a free value (DESIGN CHOICE, log entry 27). -/
opaque vanishedByte (k : Nat) (h : HwyId) (n : Nat) (hs : HwyId) (ss : Nat) : Byte

end Sys2Proof.Config
end

