-- ==== Sys2Proof/Machine/State.lean ====
section
/-! DEFINITION. The machine's state: every register, table, buffer, counter, mode and line the manual gives the SX416, as
plain data, with the queue of waiting commands, and the state after power-on reset. -/

namespace Sys2Proof.Machine

/-! ### The reasons a step can stop -/

/-- No step of this machine ends in a fault: the manual gives every event an effect. -/
inductive Fault where
  deriving DecidableEq, Repr

/-- A command without a meaning. -/
inductive Refusal where
  /-- Raised by no arm of `exec`: every row of the table has its meaning.  Safe. -/
  | notModelled (mnemonic : String)
  deriving DecidableEq, Repr

/-! ### The slot map (01_the_slot_map.md) -/

/-- What supplies an output slot's byte (R2). -/
inductive Driver where
  | none
  | connection (h : HwyId) (slot : Nat)
  | constant (b : Byte)
  | channel (c : ChanId)
  deriving DecidableEq, Repr

/-! ### Channels and descriptors (04_channels.md, 05_descriptor_rings.md) -/

inductive Dir where
  | rx
  | tx
  deriving DecidableEq, Repr

/-- The states of a channel (R68). -/
inductive ChanState where
  | closed
  | priming
  | running
  | starved
  | closing
  | faulted
  deriving DecidableEq, Repr

/-- The operations whose failure faults a channel (R86). -/
inductive ChanOpKind where
  | descriptorRead
  | dataRead
  | dataWrite
  | writeBack
  deriving DecidableEq, Repr

/-- The first failure that faulted a channel (R86, R88). -/
inductive FaultCause where
  | operation (k : ChanOpKind) (timeout : Bool)
  | deviceHalted
  deriving DecidableEq, Repr

/-- The statuses of a descriptor written back (R107). -/
inductive DescStatus where
  | done
  | short
  | flushed
  | bad
  deriving DecidableEq, Repr

/-- What the part takes from a device-owned descriptor it reads, with its index (R94). -/
structure Desc where
  index : Nat
  notify : Bool
  /-- Frames requested. -/
  frames : Nat
  buffer : Addr
  cookie : BitVec 64
  deriving DecidableEq, Repr

/-- The descriptor being moved (R68). -/
structure Current where
  desc : Desc
  moved : Nat
  late : Bool
  sourceLost : Bool
  firstFrame : Word32
  /-- Its data writes not yet accepted, which its write-back queue entry takes over (R68, R79). -/
  unaccepted : Nat
  deriving DecidableEq, Repr

/-- The descriptor after the current one, as last read; `none` is host-owned (R77). -/
structure Lookahead where
  index : Nat
  owned : Option Desc
  deriving DecidableEq, Repr

/-- One entry of the write-back queue, or the descriptor a flush walk writes back (R68, R106). -/
structure WbEntry where
  desc : Desc
  status : DescStatus
  /-- Frames actual. -/
  actual : Nat
  late : Bool
  sourceLost : Bool
  firstFrame : Word32
  /-- Its data writes not yet accepted. -/
  unaccepted : Nat
  deriving DecidableEq, Repr

/-- The flush walk of a CLOSING channel (R84). -/
inductive Walk where
  | notBegun
  /-- The walk has returned this many descriptors. -/
  | walking (visited : Nat)
  | ended
  deriving DecidableEq, Repr

/-- One record of the channel table (R68).  The channel's operations in flight are held once, by the link interface
(`Link.ops`).  `readSeq`, `due`, `deferred`, `walk` and `closeFailed` say what the manual tells of a channel's reads and
of its closing in words: which data read the frame due was asked for by (R76), that a lookahead read is deferred (R77),
where the flush walk stands (R84) and that the closing met a failure (R85) (log entry 22). -/
structure Chan where
  st : ChanState
  dir : Dir
  hwy : HwyId
  slots : List Nat
  idle : Byte
  ringBase : Addr
  ringSize : Nat
  complRing : RingId
  pos : Nat
  current : Option Current
  lookahead : Option Lookahead
  queue : List WbEntry
  ready : Option Frame
  starved : Nat
  late : Nat
  latch : Bool
  cause : Option FaultCause
  /-- Data reads issued in the present binding. -/
  readSeq : Nat
  /-- The data read whose frame is due next and has not been sent. -/
  due : Option Nat
  deferred : Bool
  walk : Walk
  closeFailed : Bool
  deriving DecidableEq, Repr

/-- The values after power-on reset and after a device reset (R68). -/
def Chan.reset : Chan where
  st := .closed
  dir := .rx
  hwy := 0
  slots := []
  idle := 0x00
  ringBase := 0
  ringSize := 2
  complRing := 0
  pos := 0
  current := none
  lookahead := none
  queue := []
  ready := none
  starved := 0
  late := 0
  latch := false
  cause := none
  readSeq := 0
  due := none
  deferred := false
  walk := .notBegun
  closeFailed := false

/-! ### Staging (02_staging_and_commit.md) -/

/-- An output slot, the key of a target entry (R21). -/
structure SlotRef where
  hwy : HwyId
  slot : Nat
  deriving DecidableEq, Repr

/-- The new driver of a target entry (R21). -/
inductive Target where
  | none
  | connection (h : HwyId) (slot : Nat)
  | constant (b : Byte)
  deriving DecidableEq, Repr

/-- Every parameter of an OPEN (R21). -/
structure OpenParams where
  dir : Dir
  hwy : HwyId
  slots : List Nat
  idle : Byte
  ringBase : Addr
  ringSize : Nat
  complRing : RingId
  deriving DecidableEq, Repr

/-- A channel entry of the staging set (R21). -/
inductive ChanEntry where
  | openEntry (p : OpenParams)
  | closeEntry
  | reslotEntry (h : HwyId) (slots : List Nat)
  deriving DecidableEq, Repr

/-- The map controller: the staging set, by its two key spaces, and the COMMIT-in-flight flag (R21, R31).  The entries have
no order among themselves (R21): each list is in one canonical form, its keys rising. -/
structure MapControl where
  targets : List (SlotRef × Target)
  entries : List (ChanId × ChanEntry)
  inFlight : Bool
  deriving DecidableEq, Repr

def MapControl.reset : MapControl where
  targets := []
  entries := []
  inFlight := false

/-! ### Highways (03_highways.md) -/

inductive Align where
  | disabled
  | searching
  | aligned
  | lost
  deriving DecidableEq, Repr

/-- A highway port (R45), with what its transmit side sends in the present device frame: `none` is a released line
(R62, R63).  The enable is not a field of its own: DISABLED is held exactly while the highway is not enabled (R45), and
`Highway.enabled` reads it from there. -/
structure Highway where
  align : Align
  slotCount : Nat
  subst : Byte
  idle : Byte
  correctRun : Nat
  misRun : Nat
  silence : Nat
  age : Nat
  unread : List Frame
  last : Option Frame
  deletes : Nat
  repeats : Nat
  misframes : Nat
  latch : Bool
  tx : Option Frame
  deriving DecidableEq, Repr

/-- The values after power-on reset (R45, R63). -/
def Highway.reset : Highway where
  align := .disabled
  slotCount := 32
  subst := 0xFF
  idle := 0xFF
  correctRun := 0
  misRun := 0
  silence := 0
  age := 0
  unread := []
  last := none
  deletes := 0
  repeats := 0
  misframes := 0
  latch := false
  tx := none

/-- A highway is enabled exactly while its alignment state is not DISABLED (R45). -/
abbrev Highway.enabled (p : Highway) : Prop := p.align ≠ .disabled

/-! ### Timing (06_frame_timing_and_reference_selection.md) -/

inductive CandState where
  | failed
  | qualifying
  | qualified
  deriving DecidableEq, Repr

/-- A running drift window (R120). -/
structure Window where
  events : Nat
  arrivals : Nat
  deriving DecidableEq, Repr

/-- A candidate record (R117).  Its priority is its place in the list. -/
structure Cand where
  src : Source
  st : CandState
  gap : Nat
  window : Option Window
  drift : Bool
  qualCount : Nat
  qualTime : Nat
  deriving DecidableEq, Repr

/-- The selector's states (R116). -/
inductive Selector where
  | freerun
  | acquiring (src : Source)
  | locked (src : Source)
  | holdover
  deriving DecidableEq, Repr

/-- The export selection (R116, R137). -/
inductive ExportSel where
  | none
  | device
  | source (src : Source)
  deriving DecidableEq, Repr

/-- The timing unit (R116).  `limitInForce` is the holdover limit a selector change is made with: SETREF's new limit comes
into force at the next device frame event (R134; log entry 22).  `presetTaken` says that a START has set the counter's start
value since power-on reset (R115).  `refout` counts the pulses the REFOUT line has given since power-on reset (R137; log
entry 18). -/
structure Timing where
  cands : List Cand
  revertive : Bool
  qualifyTime : Nat
  wtr : Nat
  holdLimit : Nat
  limitInForce : Nat
  driftLimit : Nat
  exportSel : ExportSel
  sel : Selector
  acquire : Nat
  lockedRun : Nat
  valid : Bool
  elapsed : Nat
  counter : Word32
  presetTaken : Bool
  refout : Nat
  deriving DecidableEq, Repr

/-- The values after power-on reset (R116, R141). -/
def Timing.reset : Timing where
  cands := []
  revertive := false
  qualifyTime := 10
  wtr := 60
  holdLimit := 0
  limitInForce := 0
  driftLimit := 16
  exportSel := .none
  sel := .freerun
  acquire := 0
  lockedRun := 0
  valid := false
  elapsed := 0
  counter := 0
  presetTaken := false
  refout := 0

/-! ### Completion records (08_completions_and_notification.md) -/

/-- The status of a REQUEST_DONE (R150). -/
inductive Status where
  | ok
  | staged
  | unstaged
  | applied
  | nothingStaged
  | badKind
  | badField
  | noHighway
  | noSlot
  | slotBusy
  | stagingFull
  | channelBusy
  | channelIdle
  | highwayInUse
  | budget
  | memoryError
  deriving DecidableEq, Repr

inductive FailCause where
  | loss
  | drift
  deriving DecidableEq, Repr

/-- The TIMING events (R138). -/
inductive TimingEvent where
  | candidateFailed (src : Source) (cause : FailCause)
  | candidateGood (src : Source)
  | selectAcquiring (src : Source)
  | selectLocked (src : Source)
  | selectHoldover
  | selectFreerun
  deriving DecidableEq, Repr

/-- The event kinds with their subjects and details (R167). -/
inductive Event where
  | hwyLost (h : HwyId)
  | hwyRecovered (h : HwyId)
  | hwySlip (h : HwyId)
  | chanStarved (c : ChanId)
  | chanFault (c : ChanId) (cause : FaultCause)
  | chanClosed (c : ChanId) (memoryError : Bool)
  | timing (e : TimingEvent)
  deriving DecidableEq, Repr

/-- The items of a REQUEST_DONE (R148). -/
structure ReqDone where
  status : Status
  consumed : Count16
  tag : Word32
  value : Nat
  /-- The frame number of the apply, for APPLIED; else 0 (R201). -/
  frame : Word32
  deriving DecidableEq, Repr

/-- The four record kinds with the items each carries (R166). -/
inductive Record where
  | requestDone (d : ReqDone)
  | bufferDone (c : ChanId) (index : Nat) (status : DescStatus) (cookie : BitVec 64)
  | event (e : Event) (frame : Word32)
  | overflow (missed : Nat) (frame : Word32)
  deriving DecidableEq, Repr

/-- One completion ring: its place in the layout and the state of R162.  Its writes in flight are held once, by the link
interface. -/
structure Ring where
  base : Addr
  size : Nat
  produced : Count16
  head : Count16
  armed : Bool
  missed : Nat
  held : Option ReqDone
  deriving DecidableEq, Repr

/-- A ring of no layout with the values of R162; its base and size are 0 (DESIGN CHOICE, log entry 15). -/
def Ring.reset : Ring where
  base := 0
  size := 0
  produced := 0
  head := 0
  armed := false
  missed := 0
  held := none

/-- The completion writer: ring count 0 is no layout (R161). -/
structure Completion where
  ringCount : Nat
  eventRing : RingId
  rings : Vector Ring 4
  deriving DecidableEq, Repr

def Completion.reset : Completion where
  ringCount := 0
  eventRing := 0
  rings := Vector.replicate 4 Ring.reset

/-! ### The request processor (07_requests.md) -/

/-- The processor's states (R145). -/
inductive ProcState where
  | stopped
  | idle
  | fetching
  | executing
  | waitingFrame
  | waitingMemory
  | waitingSpace
  deriving DecidableEq, Repr

/-- What is kept of the request in hand while it waits: where its REQUEST_DONE goes, its tag, and for a query the frame
number of its snapshot (R148, R152; log entry 22). -/
structure Hand where
  ring : RingId
  tag : Word32
  frame : Word32
  deriving DecidableEq, Repr

structure Processor where
  st : ProcState
  tail : Count16
  consumed : Count16
  ringBase : Addr
  ringSize : Nat
  hand : Option Hand
  deriving DecidableEq, Repr

/-- The values of R145 and R159; with no layout the ring is 0 (log entry 15). -/
def Processor.reset : Processor where
  st := .stopped
  tail := 0
  consumed := 0
  ringBase := 0
  ringSize := 0
  hand := none

/-! ### The link interface (09_start_up_control_and_faults.md) -/

/-- The operations of R195 by issuer, with what the issuer needs at the end. -/
inductive OpKind where
  | setupRead
  | requestFetch
  | resultWrite
  | recordWrite (n : RingId)
  | descRead (c : ChanId) (index : Nat)
  | dataRead (c : ChanId) (seq : Nat)
  | dataWrite (c : ChanId) (index : Nat)
  | writeBack (c : ChanId) (e : WbEntry) (flush : Bool)
  | flushRead (c : ChanId) (index : Nat)
  deriving DecidableEq, Repr

/-- How the end of an operation will be taken: by its issuer as live, discarded by its issuer as stale (R69, R178), or
discarded by the link interface after a device reset, when no issuer lists it any more (R196). -/
inductive OpMark where
  | live
  | stale
  | dropped
  deriving DecidableEq, Repr

/-- A host memory operation in flight (R195): `data` is what a write carries, `len` the number of bytes. -/
structure Op where
  id : Nat
  kind : OpKind
  mark : OpMark
  addr : Addr
  len : Nat
  data : List Byte
  deriving DecidableEq, Repr

/-- The link interface: the operations in flight in the order of issue, the identifier the next one gets (R195), and the
vectors on which message interrupts have been sent since power-on reset, oldest first (R198).  Identifiers and the list of
messages are the model's own (log entries 18 and 22). -/
structure Link where
  ops : List Op
  nextId : Nat
  messages : List Nat
  deriving DecidableEq, Repr

def Link.reset : Link where
  ops := []
  nextId := 0
  messages := []

/-- The three items of configuration space the link interface holds (R185). -/
structure ConfigSpace where
  busMaster : Bool
  messages : Bool
  vectors : Nat
  deriving DecidableEq, Repr

def ConfigSpace.reset : ConfigSpace where
  busMaster := false
  messages := false
  vectors := 1

inductive DeviceState where
  | offline
  | starting
  | online
  | stopping
  | halted
  | resetting
  deriving DecidableEq, Repr

/-- The cause field of STATUS (section 9.1). -/
inductive Cause where
  | none
  | setupError
  | setupInvalid
  | requestFetch
  | completionWrite
  deriving DecidableEq, Repr

/-- The last register error field of STATUS (section 9.1). -/
inductive RegError where
  | none
  | startState
  | stopState
  | tailRange
  | tailState
  | headRange
  | headState
  | setupState
  | controlInvalid
  | writeReserved
  | writeReadOnly
  | writeUnmapped
  | writeWidth
  | resetBusy
  deriving DecidableEq, Repr

/-- The device state and the register window's own fields (R182, R183). -/
structure Device where
  st : DeviceState
  stopPending : Bool
  cause : Cause
  lastError : RegError
  setupLow : Word32
  setupHigh : Word32
  deriving DecidableEq, Repr

def Device.reset : Device where
  st := .offline
  stopPending := false
  cause := .none
  lastError := .none
  setupLow := 0
  setupHigh := 0

/-! ### The state -/

structure State where
  dev : Device
  cfg : ConfigSpace
  link : Link
  proc : Processor
  comp : Completion
  mc : MapControl
  /-- The active slot map: for each highway the drivers of its slots, slot 0 first; empty while not enabled (R1). -/
  map : Vector (List Driver) 16
  hwys : Vector Highway 16
  chans : Vector Chan 128
  tim : Timing
  /-- Device frame events taken: the model's own, which numbers its free values (log entry 27). -/
  frames : Nat
  /-- The commands that wait, first in, first out: the model's own (log entry 1). -/
  pending : List Instr
  deriving DecidableEq, Repr

/-- The machine right after power-on reset (R185, and the block's own chapter for each value). -/
def State.reset : State where
  dev := .reset
  cfg := .reset
  link := .reset
  proc := .reset
  comp := .reset
  mc := .reset
  map := Vector.replicate 16 []
  hwys := Vector.replicate 16 .reset
  chans := Vector.replicate 128 .reset
  tim := .reset
  frames := 0
  pending := []

end Sys2Proof.Machine
end

