-- ==== Sys2Proof/Machine/Operands.lean ====
section
/-! DEFINITION. The record formats (10_record_formats.md): what the part takes from the records it reads, and the bytes of
the records it writes. -/

namespace Sys2Proof

/-- The source codes of 10.3. -/
def Source.code : Source → Nat
  | .hwy h => 0x10 + h.val
  | .ref .refa => 0x20
  | .ref .refb => 0x21

/-- The IMMEDIATE flag (10.3). -/
def ReqRecord.immediate (r : ReqRecord) : Bool := r.flags.getLsbD 0

/-- The CLEAR flag (10.3). -/
def ReqRecord.clear (r : ReqRecord) : Bool := r.flags.getLsbD 1

end Sys2Proof

namespace Sys2Proof.Machine

/-! ### Bytes -/

/-- Byte `i` of a record; past its end 0, which no well-formed command asks for (log entry 23). -/
def byteAt (bs : List Byte) (i : Nat) : Byte := bs.getD i 0

/-- A multi-byte field as one number, low byte first (R200). -/
def leField (bs : List Byte) (off : Nat) : Nat → Nat
  | 0 => 0
  | len + 1 => (byteAt bs off).toNat + 256 * leField bs (off + 1) len

/-- A field of a record the part writes: offset, size and value. -/
abbrev FieldVal := Nat × Nat × Nat

/-- The bytes of a record of `n` bytes from its fields, each little-endian; a byte no field assigns is 0 (R199, R203). -/
def layoutBytes (n : Nat) (fields : List FieldVal) : List Byte :=
  (List.range n).map fun i =>
    match fields.find? fun f => f.1 ≤ i && i < f.1 + f.2.1 with
    | some f => BitVec.ofNat 8 (f.2.2 / 256 ^ (i - f.1))
    | none => 0

/-- A flag as a number. -/
def bit (b : Bool) : Nat := if b then 1 else 0

/-! ### Codes -/

/-- The kind table of 10.3. -/
def kindKnown (k : Byte) : Bool := 0x01 ≤ k.toNat && k.toNat ≤ 0x0E

/-- The status codes of 10.4. -/
def Status.code : Status → Nat
  | .ok => 0x01
  | .staged => 0x02
  | .unstaged => 0x03
  | .applied => 0x04
  | .nothingStaged => 0x05
  | .badKind => 0x10
  | .badField => 0x11
  | .noHighway => 0x12
  | .noSlot => 0x13
  | .slotBusy => 0x14
  | .stagingFull => 0x15
  | .channelBusy => 0x16
  | .channelIdle => 0x17
  | .highwayInUse => 0x18
  | .budget => 0x19
  | .memoryError => 0x1A

/-- The descriptor status codes of 10.5. -/
def DescStatus.code : DescStatus → Nat
  | .done => 1
  | .short => 2
  | .flushed => 3
  | .bad => 4

/-- The source a code names, if any (10.3). -/
def sourceOfCode (n : Nat) : Option Source :=
  if 0x10 ≤ n ∧ n ≤ 0x1F then some (.hwy (Fin.ofNat 16 (n - 0x10)))
  else if n = 0x20 then some (.ref .refa)
  else if n = 0x21 then some (.ref .refb)
  else none

/-- The operation kinds of a fault cause code (10.4). -/
def ChanOpKind.code : ChanOpKind → Nat
  | .descriptorRead => 1
  | .dataRead => 2
  | .dataWrite => 3
  | .writeBack => 4

/-- The fault cause codes of 10.4: kind in bits 2:0, TIMEOUT in bit 3. -/
def FaultCause.code : FaultCause → Nat
  | .operation k t => k.code + 8 * bit t
  | .deviceHalted => 5

def FailCause.code : FailCause → Nat
  | .loss => 1
  | .drift => 2

/-- Event kind, subject, sub-kind and detail codes (10.4). -/
def Event.codes : Event → Nat × Nat × Nat × Nat
  | .hwyLost h => (1, h.val, 0, 0)
  | .hwyRecovered h => (2, h.val, 0, 0)
  | .hwySlip h => (3, h.val, 0, 0)
  | .chanStarved c => (4, c.val, 0, 0)
  | .chanFault c k => (5, c.val, 0, k.code)
  | .chanClosed c m => (6, c.val, 0, bit m)
  | .timing (.candidateFailed s k) => (7, s.code, 1, k.code)
  | .timing (.candidateGood s) => (7, s.code, 2, 0)
  | .timing (.selectAcquiring s) => (7, s.code, 3, 0)
  | .timing (.selectLocked s) => (7, s.code, 4, 0)
  | .timing .selectHoldover => (7, 0, 5, 0)
  | .timing .selectFreerun => (7, 0, 6, 0)

def DeviceState.code : DeviceState → Nat
  | .offline => 0
  | .starting => 1
  | .online => 2
  | .stopping => 3
  | .halted => 4
  | .resetting => 5

def ProcState.code : ProcState → Nat
  | .stopped => 0
  | .idle => 1
  | .fetching => 2
  | .executing => 3
  | .waitingFrame => 4
  | .waitingMemory => 5
  | .waitingSpace => 6

def Cause.code : Cause → Nat
  | .none => 0
  | .setupError => 1
  | .setupInvalid => 2
  | .requestFetch => 3
  | .completionWrite => 4

def RegError.code : RegError → Nat
  | .none => 0
  | .startState => 1
  | .stopState => 2
  | .tailRange => 3
  | .tailState => 4
  | .headRange => 5
  | .headState => 6
  | .setupState => 7
  | .controlInvalid => 8
  | .writeReserved => 9
  | .writeReadOnly => 10
  | .writeUnmapped => 11
  | .writeWidth => 12
  | .resetBusy => 13

def ChanState.code : ChanState → Nat
  | .closed => 0
  | .priming => 1
  | .running => 2
  | .starved => 3
  | .closing => 4
  | .faulted => 5

def Align.code : Align → Nat
  | .disabled => 0
  | .searching => 1
  | .aligned => 2
  | .lost => 3

def CandState.code : CandState → Nat
  | .failed => 1
  | .qualifying => 2
  | .qualified => 3

/-- Driver kind and its parameters A and B (10.6, QSLOT). -/
def Driver.codes : Driver → Nat × Nat × Nat
  | .none => (0, 0, 0)
  | .connection h n => (1, h.val, n)
  | .constant b => (2, b.toNat, 0)
  | .channel c => (3, c.val, 0)

/-- Export kind and source codes (10.3, 10.6). -/
def ExportSel.codes : ExportSel → Nat × Nat
  | .none => (0, 0)
  | .device => (1, 0)
  | .source s => (2, s.code)

/-! ### Completion records -/

/-- The phase of a record placed at produced count `c` of a ring of `size` records (R164). -/
def phaseOf (c : Count16) (size : Nat) : Bool := (c.toNat / size) % 2 == 0

/-- Byte 0x00 of every completion record: kind in bits 3:0, phase in bit 7 (10.4). -/
def recordHead (kind : Nat) (phase : Bool) : FieldVal := (0x00, 1, kind + 0x80 * bit phase)

/-- The 16 bytes of a completion record (R201). -/
def Record.bytes (phase : Bool) : Record → List Byte
  | .requestDone d => layoutBytes 16
      [recordHead 1 phase, (0x01, 1, d.status.code), (0x02, 2, d.consumed.toNat), (0x04, 4, d.tag.toNat),
       (0x08, 4, d.value), (0x0C, 4, d.frame.toNat)]
  | .bufferDone c i st cookie => layoutBytes 16
      [recordHead 2 phase, (0x01, 1, st.code), (0x02, 1, c.val), (0x04, 2, i), (0x08, 8, cookie.toNat)]
  | .event e f => layoutBytes 16
      [recordHead 3 phase, (0x01, 1, e.codes.1), (0x02, 1, e.codes.2.1), (0x03, 1, e.codes.2.2.1),
       (0x04, 1, e.codes.2.2.2), (0x08, 4, f.toNat)]
  | .overflow m f => layoutBytes 16 [recordHead 4 phase, (0x04, 2, m), (0x08, 4, f.toNat)]

/-! ### The setup block -/

/-- Whether a ring size is a power of two from 16 to 4096 (R188). -/
def ringSizeOk (n : Nat) : Bool := [16, 32, 64, 128, 256, 512, 1024, 2048, 4096].contains n

/-- The setup block (10.2). -/
structure SetupBlock where
  reqBase : Nat
  reqSize : Nat
  ringCount : Nat
  eventRing : Nat
  preset : Nat
  bases : List Nat
  sizes : List Nat
  reserved : Nat
  deriving DecidableEq, Repr

def parseSetup (bs : List Byte) : SetupBlock where
  reqBase := leField bs 0x00 8
  reqSize := leField bs 0x08 2
  ringCount := leField bs 0x0A 1
  eventRing := leField bs 0x0B 1
  preset := leField bs 0x0C 4
  bases := [leField bs 0x10 8, leField bs 0x18 8, leField bs 0x20 8, leField bs 0x28 8]
  sizes := [leField bs 0x30 2, leField bs 0x32 2, leField bs 0x34 2, leField bs 0x36 2]
  reserved := leField bs 0x38 8

/-- Whether completion ring `n` of the block is as its number asks: used below the ring count, zero at or above it
(R188, 10.2). -/
def setupRingOk (b : SetupBlock) (n : Nat) : Bool :=
  if n < b.ringCount then ringSizeOk (b.sizes.getD n 0) && b.bases.getD n 0 % 16 == 0
  else b.sizes.getD n 0 == 0 && b.bases.getD n 0 == 0

/-- The validity of a setup block (R188). -/
def setupOk (b : SetupBlock) : Bool :=
  ringSizeOk b.reqSize && b.reqBase % 64 == 0 && (1 ≤ b.ringCount && b.ringCount ≤ 4) &&
    (List.range 4).all (setupRingOk b) && b.eventRing < b.ringCount && b.reserved == 0

/-! ### Requests -/

/-- Byte at record offset `off` of a request's body, which begins at offset 0x08 (10.3). -/
def reqByte (r : ReqRecord) (off : Nat) : Nat := (byteAt r.body (off - 8)).toNat

/-- Multi-byte field at record offset `off` of a request's body. -/
def reqField (r : ReqRecord) (off len : Nat) : Nat := leField r.body (off - 8) len

/-- Whether every body byte outside the ranges (offset, size) a kind uses is 0 (R149, R199). -/
def reservedOk (r : ReqRecord) (used : List (Nat × Nat)) : Bool :=
  (List.range 56).all fun i =>
    used.any (fun u => u.1 ≤ i + 8 && i + 8 < u.1 + u.2) || byteAt r.body i == 0

/-- Whether the header's other flag bits and its reserved field are 0 (R149, step 4). -/
def headerOk (r : ReqRecord) : Bool := r.flags.toNat < 4 && r.reserved == 0

/-- The slot list of an OPEN or RESLOT body: the entries up to the slot count (10.3). -/
def reqSlots (r : ReqRecord) : List Nat :=
  (List.range (min (reqByte r 0x0B) 32)).map fun k => reqByte r (0x18 + k)

/-- The slot count and slot list checks of R70. -/
def slotListOk (r : ReqRecord) : Bool :=
  (1 ≤ reqByte r 0x0B && reqByte r 0x0B ≤ 32) && (reqSlots r).all (· ≤ 127) && decide (reqSlots r).Nodup &&
    (List.range 32).all fun k => k < reqByte r 0x0B || reqByte r (0x18 + k) == 0

/-! ### Descriptors -/

/-- Whether OWN is set in the 32 bytes of a descriptor (R94, R202). -/
def descOwned (bs : List Byte) : Bool := (byteAt bs 0x00).getLsbD 0

/-- What the part takes from a device-owned descriptor (R94, R202). -/
def parseDesc (index : Nat) (bs : List Byte) : Desc where
  index := index
  notify := (byteAt bs 0x00).getLsbD 1
  frames := leField bs 0x0C 2
  buffer := BitVec.ofNat 64 (leField bs 0x10 8)
  cookie := BitVec.ofNat 64 (leField bs 0x18 8)

/-- The descriptor a read returned: `none` when host-owned (R94). -/
def readDesc (index : Nat) (bs : List Byte) : Option Desc :=
  if descOwned bs then some (parseDesc index bs) else none

/-- A device-owned descriptor is valid when it asks for 1 to 4096 frames (R95). -/
def Desc.valid (d : Desc) : Bool := 1 ≤ d.frames && d.frames ≤ Config.maxFrames

/-- The 12 bytes of a write-back (R106, R202). -/
def WbEntry.bytes (e : WbEntry) : List Byte := layoutBytes 12
  [(0x00, 1, 2 * bit e.desc.notify), (0x01, 1, e.status.code), (0x02, 1, bit e.late + 2 * bit e.sourceLost),
   (0x04, 4, e.actual), (0x08, 4, e.firstFrame.toNat)]

end Sys2Proof.Machine
end

