-- ==== Sys2Proof/Machine/Ops.lean ====
section
/-! DEFINITION. The shared operations: issuing host memory operations and taking them out of flight, placing, dropping and
holding completion records, notifications, and what the request processor does when a request has ended. -/

namespace Sys2Proof.Machine

/-! ### Keyed collections

A keyed collection is a list in one canonical form, its keys strictly rising in a numbering of them: two collections with
the same entries are the same data, whatever the order in which the entries were put there (R21). -/

/-- The place of a channel's key among those of the staging set. -/
def chanRank (c : ChanId) : Nat := c.val

/-- The place of an output slot's key among those of the staging set: by slot, then by highway. -/
def SlotRef.rank (k : SlotRef) : Nat := 16 * k.slot + k.hwy.val

/-- The value under a key of a keyed collection. -/
def lookupKey {κ ν : Type} [DecidableEq κ] (k : κ) : List (κ × ν) → Option ν
  | [] => none
  | (k', v) :: r => if k' = k then some v else lookupKey k r

/-- The collection with `v` under `k`: in place of the entry under that key, or added at the key's place (R22). -/
def putKey {κ ν : Type} [DecidableEq κ] (rank : κ → Nat) (k : κ) (v : ν) : List (κ × ν) → List (κ × ν)
  | [] => [(k, v)]
  | (k', v') :: r =>
    if k' = k then (k, v) :: r
    else if rank k < rank k' then (k, v) :: (k', v') :: r
    else (k', v') :: putKey rank k v r

/-- The collection without the entries under `k`. -/
def eraseKey {κ ν : Type} [DecidableEq κ] (k : κ) (l : List (κ × ν)) : List (κ × ν) :=
  l.filter fun e => !decide (e.1 = k)

/-! ### Host memory operations -/

/-- The channel an operation was issued for, if any. -/
def OpKind.chan? : OpKind → Option ChanId
  | .descRead c _ => some c
  | .dataRead c _ => some c
  | .dataWrite c _ => some c
  | .writeBack c _ _ => some c
  | .flushRead c _ => some c
  | .setupRead => none
  | .requestFetch => none
  | .resultWrite => none
  | .recordWrite _ => none

/-- Whether an operation is a read. -/
def OpKind.isRead : OpKind → Bool
  | .setupRead => true
  | .requestFetch => true
  | .descRead _ _ => true
  | .dataRead _ _ => true
  | .flushRead _ _ => true
  | .resultWrite => false
  | .recordWrite _ => false
  | .dataWrite _ _ => false
  | .writeBack _ _ _ => false

def OpKind.isDescRead : OpKind → Bool
  | .descRead _ _ => true
  | _ => false

def OpKind.isWriteBack : OpKind → Bool
  | .writeBack _ _ _ => true
  | _ => false

/-- The kind of a channel's operation as the fault cause of its failure names it; a flush read has none (R85, R86). -/
def OpKind.cause? : OpKind → Option ChanOpKind
  | .descRead _ _ => some .descriptorRead
  | .dataRead _ _ => some .dataRead
  | .dataWrite _ _ => some .dataWrite
  | .writeBack _ _ _ => some .writeBack
  | .flushRead _ _ => none
  | .setupRead => none
  | .requestFetch => none
  | .resultWrite => none
  | .recordWrite _ => none

/-- Send an operation: it is in flight until its one end (R195).  With bus mastering disabled an operation is not sent, and
its issuer takes the end, an error, at the moment of issue: each place that issues one says what comes of it. -/
def Link.issue (k : OpKind) (addr : Addr) (len : Nat) (data : List Byte) (l : Link) : Link :=
  { l with
    ops := l.ops ++ [{ id := l.nextId, kind := k, mark := .live, addr := addr, len := len, data := data }]
    nextId := l.nextId + 1 }

/-- Send a read of `len` bytes. -/
def State.issueRead (k : OpKind) (addr : Addr) (len : Nat) (s : State) : State :=
  { s with link := s.link.issue k addr len [] }

/-- Send a write of `data`. -/
def State.issueWrite (k : OpKind) (addr : Addr) (data : List Byte) (s : State) : State :=
  { s with link := s.link.issue k addr data.length data }

/-- The operation in flight with an identifier. -/
def State.findOp (id : Nat) (s : State) : Option Op := s.link.ops.find? fun o => o.id == id

/-- The operation in flight with an identifier, if its end will be taken as live. -/
def State.liveOp (id : Nat) (s : State) : Option Op := s.link.ops.find? fun o => o.id == id && o.mark == .live

/-- The live operation of a kind that has no more than one in flight. -/
def State.liveOpOf (k : OpKind) (s : State) : Option Op := s.link.ops.find? fun o => o.kind == k && o.mark == .live

/-- An operation has ended (R195): it is in flight no more. -/
def State.endOp (id : Nat) (s : State) : State :=
  { s with link := { s.link with ops := s.link.ops.filter fun o => o.id != id } }

/-- Mark the operations of a kind of issuer. -/
def Link.mark (m : OpMark) (p : OpKind → Bool) (l : Link) : Link :=
  { l with ops := l.ops.map fun o => if p o.kind && o.mark == .live then { o with mark := m } else o }

/-- At entry to HALTED the end of every operation in flight is discarded when it comes (R192). -/
def Link.stale (l : Link) : Link := l.mark .stale fun _ => true

/-- After a device reset the link interface discards every end itself, and no issuer lists the operation (R196). -/
def Link.drop (l : Link) : Link := { l with ops := l.ops.map fun o => { o with mark := .dropped } }

/-! ### Registers -/

/-- An ignored register write: STATUS records its code (R182). -/
def State.regError (e : RegError) (s : State) : State := { s with dev := { s.dev with lastError := e } }

/-- Whether the device is ONLINE. -/
def State.isOnline (s : State) : Bool := decide (s.dev.st = .online)

/-- The frame number of the last device frame event (R115). -/
def State.now (s : State) : Word32 := s.tim.counter

/-! ### HALTED -/

/-- Entry to FAULTED: everything in flight becomes stale, the copies and the queue are dropped (R86). -/
def Chan.toFaulted (ch : Chan) (k : FaultCause) : Chan :=
  { ch with
    st := .faulted, cause := some k, current := none, lookahead := none, queue := [], ready := none, due := none,
    deferred := false, walk := .notBegun, closeFailed := false }

/-- Entry to HALTED (R88). -/
def Chan.halt (ch : Chan) : Chan :=
  match ch.st with
  | .priming => ch.toFaulted .deviceHalted
  | .running => ch.toFaulted .deviceHalted
  | .starved => ch.toFaulted .deviceHalted
  | .closing => ch.toFaulted .deviceHalted
  | .closed => ch
  | .faulted => ch

/-- The request processor becomes STOPPED with its counts kept (R158, R160). -/
def Processor.halted (p : Processor) : Processor := { p with st := .stopped, hand := none }

/-- Discard a ring's held record (R178). -/
def Ring.unheld (r : Ring) : Ring := { r with held := none }

/-- Entry to HALTED (R191): stop pending is cleared, the processor stops, a COMMIT in flight is withdrawn with the set
kept, channels become FAULTED, held records are discarded, and every end still to come is discarded. -/
def State.halt (cause : Cause) (s : State) : State :=
  { s with
    dev := { s.dev with st := .halted, stopPending := false, cause := cause }
    proc := s.proc.halted
    comp := { s.comp with rings := s.comp.rings.map Ring.unheld }
    mc := { s.mc with inFlight := false }
    chans := s.chans.map Chan.halt
    link := s.link.stale }

/-! ### The completion writer -/

/-- The unconsumed records of a ring (R165). -/
def Ring.unconsumed (r : Ring) : Nat := (r.produced - r.head).toNat

/-- A ring is full when its free space is 0 (R165). -/
def Ring.full (r : Ring) : Bool := r.size ≤ r.unconsumed

/-- The host address of the position of the produced count (R161, R163); it wraps modulo 2^64 (DESIGN CHOICE, log entry 30). -/
def Ring.nextAddr (r : Ring) : Addr := r.base + BitVec.ofNat 64 (16 * (r.produced.toNat % r.size))

/-- One more record dropped for want of space (R169). -/
def Ring.miss (r : Ring) : Ring := { r with missed := Config.satAdd Config.max16 r.missed }

def State.ring (n : RingId) (s : State) : Ring := s.comp.rings[n]

def State.setRing (n : RingId) (r : Ring) (s : State) : State :=
  { s with comp := { s.comp with rings := s.comp.rings.set n r } }

/-- Send the notification message of ring `n`: on vector n, or on vector 0 when fewer than n + 1 vectors are enabled; not
sent while message interrupts are disabled (R175, R198). -/
def State.notify (n : RingId) (s : State) : State :=
  if s.cfg.messages then
    { s with link := { s.link with
        messages := s.link.messages ++ [if s.cfg.vectors < n.val + 1 then 0 else n.val] } }
  else s

/-- Place a record in a ring: the produced count advances, an armed ring is disarmed, the write is issued and the message
follows it (R163, R164, R175).  With bus mastering disabled the write ends with error at that moment: the device is HALTED,
with the position claimed and no message sent (R178, R195; that the ring is disarmed is a DESIGN CHOICE, log entry 7). -/
def State.place (n : RingId) (rec : Record) (s : State) : State :=
  let r := s.ring n
  let s1 := s.setRing n { r with produced := r.produced + 1, armed := false }
  if s.cfg.busMaster then
    let s2 := s1.issueWrite (.recordWrite n) r.nextAddr (rec.bytes (phaseOf r.produced r.size))
    if r.armed then s2.notify n else s2
  else s1.halt .completionWrite

/-- Count a record dropped from a ring. -/
def State.miss (n : RingId) (s : State) : State := s.setRing n (s.ring n).miss

/-- Take a BUFFER_DONE or EVENT record: placed if the ring has free space, else dropped and counted (R168, R169); outside
ONLINE no record is offered (R178, R190). -/
def State.offer (n : RingId) (rec : Record) (s : State) : State :=
  if s.isOnline then if (s.ring n).full then s.miss n else s.place n rec else s

/-! ### The request processor -/

/-- Issue the read of the record at the consumed count's position (R142, R146; log entry 30); with bus mastering disabled
it ends with error at once, and the device is HALTED (R195). -/
def State.fetch (s : State) : State :=
  if s.cfg.busMaster then
    let s1 := s.issueRead .requestFetch
      (s.proc.ringBase + BitVec.ofNat 64 (64 * (s.proc.consumed.toNat % s.proc.ringSize))) 64
    { s1 with proc := { s1.proc with st := .fetching, hand := none } }
  else s.halt .requestFetch

/-- Empty the staging set (R39, R40, R41). -/
def MapControl.emptied (m : MapControl) : MapControl := { m with targets := [], entries := [] }

/-- The request in hand has handed its REQUEST_DONE onward: after a STOP the processor is STOPPED and the staging set is
emptied (R40, R158); otherwise it fetches, or enters IDLE when the counts are equal (R146, R147). -/
def State.procNext (s : State) : State :=
  if s.dev.stopPending then
    { s with proc := { s.proc with st := .stopped, hand := none }, mc := s.mc.emptied }
  else if s.proc.tail = s.proc.consumed then { s with proc := { s.proc with st := .idle, hand := none } }
  else s.fetch

/-- Place a REQUEST_DONE: the processor goes on, unless the placing has halted the device (R146, R160, R168). -/
def State.placeDone (n : RingId) (d : ReqDone) (s : State) : State :=
  let s1 := s.place n (.requestDone d)
  if s1.isOnline then s1.procNext else s1

/-- Hand a REQUEST_DONE to the completion writer: placed if its ring has free space (R168); in a full ring held (R170),
or after a STOP dropped and counted (R177).  A request whose execution has halted the device has none (R148, R191). -/
def State.handDone (n : RingId) (d : ReqDone) (s : State) : State :=
  if !s.isOnline then s
  else if !(s.ring n).full then s.placeDone n d
  else if s.dev.stopPending then (s.miss n).procNext
  else
    let s1 := s.setRing n { s.ring n with held := some d }
    { s1 with proc := { s1.proc with st := .waitingSpace, hand := none } }

/-- Complete the request in hand (R148). -/
def State.finishRequest (h : Hand) (st : Status) (value : Nat) (frame : Word32) (s : State) : State :=
  s.handDone h.ring { status := st, consumed := s.proc.consumed, tag := h.tag, value := value, frame := frame }

/-- Complete the request in hand with a failure status: the value is 0 (R150). -/
def State.failRequest (h : Hand) (st : Status) (s : State) : State := s.finishRequest h st 0 0

/-! ### Records handed together -/

/-- A record one source hands to the completion writer: `record none` goes to the event ring (R166); `done` is the
REQUEST_DONE of a COMMIT at its apply (R37). -/
inductive Post where
  | record (ring : Option RingId) (r : Record)
  | done (h : Hand) (status : Status) (value : Nat) (frame : Word32)
  deriving DecidableEq, Repr

def State.takePost (p : Post) (s : State) : State :=
  match p with
  | .record ring r => s.offer (ring.getD s.comp.eventRing) r
  | .done h st v f => s.finishRequest h st v f

/-- Take records in the order given. -/
def State.takePosts (ps : List Post) (s : State) : State := ps.foldl (fun s p => s.takePost p) s

/-- An EVENT record, handed only while the device is ONLINE (R167, R168). -/
def eventPost (online : Bool) (now : Word32) (e : Event) : List Post :=
  if online then [.record none (.event e now)] else []

/-- Take one record at a time from the sources that have one left, in the order of the picks: within a source the order
of its hand-over stands, between sources any order may (R163, R172). -/
def interleave {α : Type} : Nat → List Nat → List (List α) → List α
  | 0, _, _ => []
  | fuel + 1, picks, groups =>
    let live := groups.filter fun g => !g.isEmpty
    let k := picks.headD 0 % live.length
    match live[k]? with
    | some (x :: rest) => x :: interleave fuel picks.tail (live.set k rest)
    | _ => []

/-- All records of the sources, in one of the orders the manual allows. -/
def merge {α : Type} (picks : List Nat) (groups : List (List α)) : List α :=
  interleave groups.flatten.length picks groups

end Sys2Proof.Machine
end

