-- ==== Sys2Proof/Machine/SlotMap.lean ====
section
/-! DEFINITION. The slot map (01_the_slot_map.md) and the prospective map (2.2): drivers, send frames, and the staging of
target entries by CONNECT and DISCONNECT. -/

namespace Sys2Proof.Machine

/-! ### The active map -/

/-- The driver of an output slot in the active map, if the map has an entry for it (R1). -/
def State.activeDriver (s : State) (h : HwyId) (n : Nat) : Option Driver := s.map[h][n]?

/-- Whether a highway is enabled (R45). -/
def State.hwyEnabled (s : State) (h : HwyId) : Bool := decide s.hwys[h].enabled

/-- Every entry NONE, the entries themselves kept (R18). -/
def clearMap (m : Vector (List Driver) 16) : Vector (List Driver) 16 :=
  m.map fun ds => List.replicate ds.length Driver.none

/-- The slot counts of the enabled highways summed (R48). -/
def budgetUsed (hs : Vector Highway 16) : Nat :=
  ((List.finRange 16).map fun h => if hs[h].enabled then hs[h].slotCount else 0).sum

/-! ### The prospective map -/

/-- Which step of R23 gave a prospective driver (R156). -/
inductive ProspBy where
  | target
  | claim
  | release
  | active
  deriving DecidableEq, Repr

def ProspBy.code : ProspBy → Nat
  | .target => 1
  | .claim => 2
  | .release => 3
  | .active => 4

def Target.driver : Target → Driver
  | .none => .none
  | .connection h n => .connection h n
  | .constant b => .constant b

/-- Whether a channel entry claims an output slot: a staged OPEN or RESLOT of a transmit channel that lists it (R23). -/
def ChanEntry.claims (ch : Chan) (h : HwyId) (n : Nat) : ChanEntry → Bool
  | .openEntry p => p.dir == .tx && p.hwy == h && p.slots.contains n
  | .closeEntry => false
  | .reslotEntry h' l => ch.dir == .tx && h' == h && l.contains n

/-- Whether a channel entry releases an output slot (R23, step 3). -/
def ChanEntry.releases (ch : Chan) (h : HwyId) (n : Nat) : ChanEntry → Bool
  | .openEntry _ => false
  | .closeEntry => ch.dir == .tx && ch.hwy == h && ch.slots.contains n
  | .reslotEntry h' l =>
    ch.dir == .tx && ch.hwy == h && ch.slots.contains n && !(h' == h && l.contains n)

/-- The channel entries considered when channel `skip`'s own entry is left out (R25). -/
def State.entriesBut (s : State) (skip : Option ChanId) : List (ChanId × ChanEntry) :=
  s.mc.entries.filter fun e => !decide (some e.1 = skip)

/-- The prospective driver of an output slot and the step of R23 that gives it, with the channel entry of `skip` left
out. -/
def State.prospective (s : State) (skip : Option ChanId) (h : HwyId) (n : Nat) : Driver × ProspBy :=
  match lookupKey ⟨h, n⟩ s.mc.targets with
  | some t => (t.driver, .target)
  | none =>
    match (s.entriesBut skip).find? fun e => e.2.claims s.chans[e.1] h n with
    | some e => (.channel e.1, .claim)
    | none =>
      if (s.entriesBut skip).any fun e => e.2.releases s.chans[e.1] h n then (.none, .release)
      else ((s.activeDriver h n).getD .none, .active)

/-- The prospective map over the output slots of every enabled highway (R23). -/
def State.prospectiveMap (s : State) : Vector (List Driver) 16 :=
  Vector.ofFn fun h => (List.range s.map[h].length).map fun n => (s.prospective none h n).1

/-- The number of entries in the staging set (R21). -/
def MapControl.count (m : MapControl) : Nat := m.targets.length + m.entries.length

/-! ### Send frames -/

/-- The read frame a highway hands on at a device frame event (R58). -/
structure ReadFrame where
  bytes : Frame
  substitute : Bool
  deriving DecidableEq, Repr

/-- The byte a transmit channel supplies for an output slot: the k-th byte of its frame for the k-th slot of its list, or
its own idle byte when it offers none (R7, R75). -/
def Chan.txByte (ch : Chan) (n : Nat) : Byte :=
  if ch.st = .running then
    match ch.ready with
    | some f => if ch.slots.contains n then f.getD (ch.slots.idxOf n) ch.idle else ch.idle
    | none => ch.idle
  else ch.idle

/-- Whether a highway is enabled with the slot below its slot count: the input slots a CONNECTION may name (R4). -/
def State.isInput (s : State) (hs : HwyId) (ss : Nat) : Bool :=
  decide s.hwys[hs].enabled && decide (ss < s.hwys[hs].slotCount)

/-- The byte of an output slot by its driver (R2, R6, R7).  R4 says that the source of an active CONNECTION is an input slot of
an enabled highway, and that SETHWY refuses by the prospective map; while a staged entry replaces the CONNECTION, a SETHWY
that R47 does not refuse can take its source away.  The CONNECTION then stays in the active map until an apply, a STOP or a
reset takes it out, after a DISCARD or a halt too; what it sends the manual does not say: a free value, while the source is
no input slot of an enabled highway, and its source's byte again once it is one (DESIGN CHOICE, log entry 27). -/
def State.driverByte (s : State) (reads : Vector ReadFrame 16) (h : HwyId) (n : Nat) : Driver → Byte
  | .none => s.hwys[h].idle
  | .connection hs ss =>
    if s.isInput hs ss then byteAt reads[hs].bytes ss else Config.vanishedByte s.frames h n hs ss
  | .constant b => b
  | .channel c => s.chans[c].txByte n

/-- The send frame of one highway, slot 0 first; none for a highway that is not enabled, whose line is released
(R5, R63). -/
def State.sendFrame (s : State) (reads : Vector ReadFrame 16) (h : HwyId) : Option Frame :=
  if s.hwys[h].enabled then some (s.map[h].mapIdx fun n d => s.driverByte reads h n d) else none

/-- The slot switch hands each transmit side the send frame of the device frame that begins (R5, R62). -/
def State.sendFrames (reads : Vector ReadFrame 16) (s : State) : State :=
  { s with hwys := Vector.ofFn fun h => { s.hwys[h] with tx := s.sendFrame reads h } }

/-! ### Checks of named slots -/

/-- A highway must be enabled and a slot below its slot count (R13, R16, R71, R156). -/
def State.slotCheck (s : State) (h : HwyId) (n : Nat) : Option Status :=
  if ¬ s.hwys[h].enabled then some .noHighway
  else if s.hwys[h].slotCount ≤ n then some .noSlot
  else none

/-- The first failure of a list of checks, in order. -/
def firstFailure (cs : List (Option Status)) : Option Status := cs.findSome? id

/-- The prospective check and the capacity check of a target entry (R14, R16). -/
def State.targetCheck (s : State) (h : HwyId) (n : Nat) : Option Status :=
  match (s.prospective none h n).1 with
  | .channel _ => some .slotBusy
  | _ =>
    if (lookupKey ⟨h, n⟩ s.mc.targets).isNone ∧ Config.stagingLimit ≤ s.mc.count then some .stagingFull else none

/-! ### Completing a staging request -/

/-- A staging request has changed the set: without IMMEDIATE it completes with the entry count; with IMMEDIATE it takes a
COMMIT of the whole set, unless the set is empty (R30, R38). -/
def State.stagingDone (h : Hand) (immediate : Bool) (st : Status) (s : State) : State :=
  if immediate ∧ s.mc.count ≠ 0 then
    { s with mc := { s.mc with inFlight := true }, proc := { s.proc with st := .waitingFrame, hand := some h } }
  else s.finishRequest h st s.mc.count 0

/-- Stage a target entry (R15, R16, R22). -/
def State.stageTarget (h : HwyId) (n : Nat) (t : Target) (s : State) : State :=
  { s with mc := { s.mc with targets := putKey SlotRef.rank ⟨h, n⟩ t s.mc.targets } }

/-! ### CONNECT and DISCONNECT -/

/-- CONNECT's field checks (R12). -/
def connectFieldsOk (r : ReqRecord) : Bool :=
  reservedOk r [(0x08, 6)] && reqByte r 0x08 ≤ 15 && reqByte r 0x09 ≤ 127 &&
    (if reqByte r 0x0A = 1 then reqByte r 0x0B ≤ 15 && reqByte r 0x0C ≤ 127 && reqByte r 0x0D == 0
     else if reqByte r 0x0A = 2 then reqByte r 0x0B == 0 && reqByte r 0x0C == 0
     else false)

/-- A highway number field. -/
def reqHwy (r : ReqRecord) (off : Nat) : HwyId := Fin.ofNat 16 (reqByte r off)

/-- The driver a CONNECT names (R15). -/
def connectTarget (r : ReqRecord) : Target :=
  if reqByte r 0x0A = 1 then .connection (reqHwy r 0x0B) (reqByte r 0x0C)
  else .constant (BitVec.ofNat 8 (reqByte r 0x0D))

/-- CONNECT's checks against the highways, the prospective map and the staging set (R13, R14). -/
def State.connectCheck (s : State) (r : ReqRecord) : Option Status :=
  firstFailure
    [s.slotCheck (reqHwy r 0x08) (reqByte r 0x09),
     if reqByte r 0x0A = 1 then s.slotCheck (reqHwy r 0x0B) (reqByte r 0x0C) else none,
     s.targetCheck (reqHwy r 0x08) (reqByte r 0x09)]

/-- A CONNECT that passed its header checks (R12 to R15). -/
def connectBody (r : ReqRecord) (h : Hand) (s : State) : State :=
  if connectFieldsOk r then
    match s.connectCheck r with
    | some st => s.failRequest h st
    | none =>
      (s.stageTarget (reqHwy r 0x08) (reqByte r 0x09) (connectTarget r)).stagingDone h r.immediate .staged
  else s.failRequest h .badField

/-- DISCONNECT's checks (R16). -/
def State.disconnectCheck (s : State) (r : ReqRecord) : Option Status :=
  firstFailure
    [s.slotCheck (reqHwy r 0x08) (reqByte r 0x09), s.targetCheck (reqHwy r 0x08) (reqByte r 0x09)]

/-- A DISCONNECT that passed its header checks (R16). -/
def disconnectBody (r : ReqRecord) (h : Hand) (s : State) : State :=
  if reservedOk r [(0x08, 2)] && reqByte r 0x08 ≤ 15 && reqByte r 0x09 ≤ 127 then
    match s.disconnectCheck r with
    | some st => s.failRequest h st
    | none => (s.stageTarget (reqHwy r 0x08) (reqByte r 0x09) .none).stagingDone h r.immediate .staged
  else s.failRequest h .badField

end Sys2Proof.Machine
end

