-- ==== Sys2Proof/Machine/Timing.lean ====
section
/-! DEFINITION. The timing unit (06_frame_timing_and_reference_selection.md): candidates, drift windows, the selector, its
work at a device frame event, reference pulses, and SETREF. -/

namespace Sys2Proof.Machine

/-! ### What happens to the timing unit -/

/-- What comes about in the timing unit: the occurrences the manual names, in the order they come. -/
inductive TimOcc where
  /-- The pulse gap of REFA or REFB has reached 3 (R119). -/
  | refLoss (r : RefInput)
  /-- A drift window has ended and been judged (R120). -/
  | windowEnd (src : Source)
  | failed (src : Source) (cause : FailCause)
  | good (src : Source)
  | qualified (src : Source)
  /-- A higher candidate is taken back (R130). -/
  | restore (src : Source)
  | acquiring (src : Source)
  | locked (src : Source)
  /-- The locked run has reached 8000 (R127). -/
  | holdoverValid
  | holdover
  /-- The holdover elapsed count has reached the holdover limit (R129). -/
  | holdoverLimit
  | freerun
  deriving DecidableEq, Repr

/-- The TIMING event an occurrence posts, if it posts one (R138). -/
def TimOcc.event? : TimOcc → Option TimingEvent
  | .failed s c => some (.candidateFailed s c)
  | .good s => some (.candidateGood s)
  | .acquiring s => some (.selectAcquiring s)
  | .locked s => some (.selectLocked s)
  | .holdover => some .selectHoldover
  | .freerun => some .selectFreerun
  | .refLoss _ => none
  | .windowEnd _ => none
  | .qualified _ => none
  | .restore _ => none
  | .holdoverValid => none
  | .holdoverLimit => none

/-- The records the timing unit hands on for its occurrences, in their order (R138). -/
def timingPosts (online : Bool) (now : Word32) (occs : List TimOcc) : List Post :=
  (occs.filterMap TimOcc.event?).flatMap fun e => eventPost online now (.timing e)

/-! ### Candidates -/

/-- Whether a candidate is in loss (R118, R119); `aligned` says which highways are ALIGNED. -/
def Cand.inLoss (aligned : HwyId → Bool) (c : Cand) : Bool :=
  match c.src with
  | .hwy h => !aligned h
  | .ref _ => Config.gapLimit ≤ c.gap

/-- A candidate is good when it is not in loss and its drift fault is clear (R121). -/
def Cand.good (aligned : HwyId → Bool) (c : Cand) : Bool := !c.inLoss aligned && !c.drift

/-- A candidate enters FAILED (R123). -/
def Cand.fail (c : Cand) : Cand := { c with st := .failed, qualCount := 0, qualTime := 0 }

/-- Loss begins: the drift window is abandoned and the candidate is FAILED (R120, R123). -/
def Cand.lose (c : Cand) : Cand := { c.fail with window := none }

/-- An arrival counts in a running window (R120). -/
def Cand.arrive (c : Cand) : Cand :=
  { c with window := c.window.map fun w => { w with arrivals := Config.satAdd Config.max16 w.arrivals } }

/-- Loss ends at an arrival, the first of the new window (R120). -/
def Cand.endLoss (c : Cand) : Cand := { c with gap := 0, window := some { events := 0, arrivals := 1 } }

/-- The record of a listed source. -/
def Timing.cand? (src : Source) (t : Timing) : Option Cand := t.cands.find? fun c => c.src == src

/-- Change the record of a listed source. -/
def Timing.modCand (src : Source) (f : Cand → Cand) (t : Timing) : Timing :=
  { t with cands := t.cands.map fun c => if c.src = src then f c else c }

/-- The QUALIFIED candidate of highest priority of a list (R125, R128). -/
def bestQualified (cs : List Cand) : Option Cand := cs.find? fun c => c.st == .qualified

/-- Whether a source is listed and not FAILED (R137). -/
def Timing.passes (src : Source) (t : Timing) : Bool :=
  match t.cand? src with
  | some c => c.st != .failed
  | none => false

/-! ### The selector -/

/-- The selected candidate (section 6.4). -/
def Timing.selected? (t : Timing) : Option Source :=
  match t.sel with
  | .freerun => none
  | .acquiring s => some s
  | .locked s => some s
  | .holdover => none

/-- Leaving LOCKED sets the locked run to 0 (R127). -/
def Timing.leave (t : Timing) : Timing :=
  match t.sel with
  | .locked _ => { t with lockedRun := 0 }
  | .freerun => t
  | .acquiring _ => t
  | .holdover => t

/-- Enter ACQUIRING (R126). -/
def Timing.toAcquiring (src : Source) (t : Timing) : Timing :=
  { t.leave with sel := .acquiring src, acquire := 0 }

/-- Enter FREERUN, which clears the holdover-valid flag (R127). -/
def Timing.toFreerun (t : Timing) : Timing := { t.leave with sel := .freerun, valid := false }

/-- Enter HOLDOVER (R128, R129). -/
def Timing.toHoldover (t : Timing) : Timing := { t.leave with sel := .holdover, elapsed := 0 }

/-- The selector's change when its candidate has failed or been removed, with the holdover limit in use (R128, R134). -/
def Timing.fallback (limit : Nat) (t : Timing) : Timing × List TimOcc :=
  match bestQualified t.cands with
  | some c => (t.toAcquiring c.src, [.acquiring c.src])
  | none =>
    if t.valid ∧ 0 < limit then (t.toHoldover, [.holdover]) else (t.toFreerun, [.freerun])

/-- Whether the selected candidate is listed and QUALIFIED (R124). -/
def Timing.selectedQualified (src : Source) (t : Timing) : Bool :=
  match t.cand? src with
  | some c => c.st == .qualified
  | none => false

/-- Take the failure of the selected candidate, if it has come, with the holdover limit in force (R128, R134). -/
def Timing.checkSelected (t : Timing) : Timing × List TimOcc :=
  match t.selected? with
  | some src => if t.selectedQualified src then (t, []) else t.fallback t.limitInForce
  | none => (t, [])

/-- The failure occurrence of a candidate: one already FAILED does not fail again (R123). -/
def failOcc (cause : FailCause) (c : Cand) : List TimOcc :=
  if c.st = .failed then [] else [.failed c.src cause]

/-- Loss of a listed source begins, the selector not yet moved (R118, R123). -/
def Timing.lose (src : Source) (t : Timing) : Timing × List TimOcc :=
  match t.cand? src with
  | some c => (t.modCand src Cand.lose, failOcc .loss c)
  | none => (t, [])

/-- Loss of a source begins between the timing unit's works: the candidate fails and the selector takes it at the same
moment (R123, R128). -/
def Timing.loseNow (src : Source) (t : Timing) : Timing × List TimOcc :=
  let (t1, o1) := t.lose src
  let (t2, o2) := t1.checkSelected
  (t2, o1 ++ o2)

/-! ### REFOUT -/

/-- One pulse on REFOUT. -/
def Timing.pulse (t : Timing) : Timing := { t with refout := t.refout + 1 }

/-- REFOUT carries an arrival of the exported source while its candidate, as the arrival leaves it, is not FAILED (R137;
DEDUCED, log entry 10). -/
def Timing.exportArrival (src : Source) (t : Timing) : Timing :=
  if t.exportSel = .source src ∧ t.passes src then t.pulse else t

/-- REFOUT carries each device frame event under DEVICE export (R137). -/
def Timing.exportFrame (t : Timing) : Timing := if t.exportSel = .device then t.pulse else t

/-! ### Arrivals -/

/-- A frame arrival taken by a highway, offered to the timing unit (R51, R117, R118, R120): it may end or begin the loss of
the highway's candidate, or count in its window. -/
def Timing.hwyArrival (h : HwyId) (was now : Bool) (t : Timing) : Timing × List TimOcc :=
  let (t1, o1) :=
    match was, now with
    | true, false => t.loseNow (.hwy h)
    | false, true => (t.modCand (.hwy h) Cand.endLoss, [])
    | true, true => (t.modCand (.hwy h) Cand.arrive, [])
    | false, false => (t, [])
  (t1.exportArrival (.hwy h), o1)

/-- A reference pulse sets the pulse gap to 0; it ends a loss, or counts in the running window (R119, R120). -/
def Cand.refPulse (c : Cand) : Cand :=
  if Config.gapLimit ≤ c.gap then c.endLoss else { c.arrive with gap := 0 }

/-- A pulse on REFA or REFB (R119, R120, R137). -/
def Timing.refPulse (r : RefInput) (t : Timing) : Timing :=
  (t.modCand (.ref r) Cand.refPulse).exportArrival (.ref r)

/-! ### The work of a device frame event (R131) -/

/-- Step 1: the pulse gap of a REFA or REFB candidate advances (R119). -/
def Cand.gapTick (c : Cand) : Cand :=
  match c.src with
  | .hwy _ => c
  | .ref _ => { c with gap := Config.satAdd Config.gapLimit c.gap }

/-- The pulse gap has reached 3 at this event (R119). -/
def gapOcc (c : Cand) : List TimOcc :=
  match c.src with
  | .hwy _ => []
  | .ref r => if c.gap < Config.gapLimit ∧ Config.gapLimit ≤ c.gapTick.gap then [.refLoss r] else []

/-- Whether a candidate's window ends at this event (R120). -/
def Cand.windowEnds (aligned : HwyId → Bool) (c : Cand) : Bool :=
  !c.inLoss aligned &&
    match c.window with
    | some w => Config.windowFrames ≤ w.events + 1
    | none => false

/-- Whether a count of arrivals differs from 8000 by more than the drift limit (R120). -/
def drifted (limit arrivals : Nat) : Bool :=
  limit < (arrivals - Config.windowFrames) + (Config.windowFrames - arrivals)

/-- Step 2: the drift window of a candidate not in loss advances, and one that ends is judged (R120). -/
def Cand.windowTick (aligned : HwyId → Bool) (limit : Nat) (c : Cand) : Cand :=
  if c.inLoss aligned then { c with window := none }
  else
    match c.window with
    | some w =>
      if Config.windowFrames ≤ w.events + 1 then
        { c with drift := drifted limit w.arrivals, window := some { events := 0, arrivals := 0 } }
      else { c with window := some { w with events := w.events + 1 } }
    | none => c

def windowOcc (aligned : HwyId → Bool) (c : Cand) : List TimOcc :=
  if c.windowEnds aligned then [.windowEnd c.src] else []

/-- Step 3, failures: a candidate that has become bad is FAILED (R123). -/
def Cand.failTick (aligned : HwyId → Bool) (c : Cand) : Cand :=
  if c.st ≠ .failed ∧ c.good aligned = false then c.fail else c

def failTickOcc (aligned : HwyId → Bool) (c : Cand) : List TimOcc :=
  if c.st ≠ .failed ∧ c.good aligned = false then
    [.failed c.src (if c.inLoss aligned then .loss else .drift)]
  else []

/-- Step 3, the rest: a FAILED candidate that is good enters QUALIFYING and its window restarts (R121); a QUALIFYING one
counts and may enter QUALIFIED; a QUALIFIED one counts its qualified time (R122).  The qualify count stands on entry to
QUALIFIED (DEDUCED, log entry 14). -/
def Cand.stateTick (aligned : HwyId → Bool) (qualifyTime : Nat) (c : Cand) : Cand :=
  match c.st with
  | .failed =>
    if c.good aligned then
      { c with st := .qualifying, qualCount := 0, window := some { events := 0, arrivals := 0 } }
    else c
  | .qualifying =>
    if qualifyTime * Config.framesPerSecond ≤ c.qualCount + 1 then
      { c with st := .qualified, qualCount := c.qualCount + 1, qualTime := 0 }
    else { c with qualCount := c.qualCount + 1 }
  | .qualified => { c with qualTime := Config.satAdd Config.maxQualified c.qualTime }

def stateOcc (aligned : HwyId → Bool) (qualifyTime : Nat) (c : Cand) : List TimOcc :=
  match c.st with
  | .failed => if c.good aligned then [.good c.src] else []
  | .qualifying =>
    if qualifyTime * Config.framesPerSecond ≤ c.qualCount + 1 then [.qualified c.src] else []
  | .qualified => []

/-- Steps 1 to 3: the candidates after the event (R131). -/
def Cand.frameTick (aligned : HwyId → Bool) (driftLimit qualifyTime : Nat) (c : Cand) : Cand :=
  (((c.gapTick).windowTick aligned driftLimit).failTick aligned).stateTick aligned qualifyTime

/-- Steps 1 to 3: what comes about, step by step, in list order within a step (R131; DESIGN CHOICE,
log entry 11). -/
def candOccs (aligned : HwyId → Bool) (driftLimit qualifyTime : Nat) (cs : List Cand) : List TimOcc :=
  let c1 := cs.map Cand.gapTick
  let c2 := c1.map (Cand.windowTick aligned driftLimit)
  let c3 := c2.map (Cand.failTick aligned)
  cs.flatMap gapOcc ++ c1.flatMap (windowOcc aligned) ++ c2.flatMap (failTickOcc aligned) ++
    c3.flatMap (stateOcc aligned qualifyTime)

/-- The candidates of higher priority than a source (R130). -/
def Timing.above (src : Source) (t : Timing) : List Cand := t.cands.takeWhile fun c => c.src != src

/-- The candidate a revertive selector takes back (R130). -/
def Timing.restoring (src : Source) (t : Timing) : Option Cand :=
  if t.revertive then
    (t.above src).find? fun c => c.st == .qualified && t.wtr * Config.framesPerSecond ≤ c.qualTime
  else none

/-- Step 4: the selector's move at a device frame event (R125 to R131). -/
def Timing.selectorTick (t : Timing) : Timing × List TimOcc :=
  match t.sel with
  | .freerun =>
    match bestQualified t.cands with
    | some c => (t.toAcquiring c.src, [.acquiring c.src])
    | none => (t, [])
  | .holdover =>
    let t1 := { t with elapsed := t.elapsed + 1 }
    match bestQualified t.cands with
    | some c => (t1.toAcquiring c.src, [.acquiring c.src])
    | none =>
      if t.limitInForce * Config.framesPerSecond ≤ t1.elapsed then (t1.toFreerun, [.holdoverLimit, .freerun])
      else (t1, [])
  | .acquiring src =>
    if t.selectedQualified src then
      match t.restoring src with
      | some c => (t.toAcquiring c.src, [.restore c.src, .acquiring c.src])
      | none =>
        if Config.lockFrames ≤ t.acquire + 1 then
          ({ t with sel := .locked src, acquire := t.acquire + 1, lockedRun := 0 }, [.locked src])
        else ({ t with acquire := t.acquire + 1 }, [])
    else t.fallback t.limitInForce
  | .locked src =>
    if t.selectedQualified src then
      match t.restoring src with
      | some c => (t.toAcquiring c.src, [.restore c.src, .acquiring c.src])
      | none =>
        if Config.lockFrames ≤ t.lockedRun + 1 then
          ({ t with lockedRun := Config.lockFrames, valid := true },
           if t.lockedRun < Config.lockFrames then [.holdoverValid] else [])
        else ({ t with lockedRun := t.lockedRun + 1 }, [])
    else t.fallback t.limitInForce

/-- The timing unit's own work at a device frame event, after the counter has advanced (R131). -/
def Timing.frameWork (aligned : HwyId → Bool) (t : Timing) : Timing × List TimOcc :=
  let t1 := { t with cands := t.cands.map (Cand.frameTick aligned t.driftLimit t.qualifyTime) }
  let (t2, o2) := t1.selectorTick
  (t2.exportFrame, candOccs aligned t.driftLimit t.qualifyTime t.cands ++ o2)

/-- Losses of highways taken one after the other. -/
def Timing.loseAll (hs : List HwyId) (t : Timing) : Timing × List TimOcc :=
  hs.foldl (fun a h => let r := a.1.loseNow (.hwy h); (r.1, a.2 ++ r.2)) (t, [])

/-- Losses of highways taken before the timing unit's work at a device frame event: the candidates fail, and the selector
moves in the work, where the candidates that qualify at the event count (R123, R128, R131). -/
def Timing.loseBefore (hs : List HwyId) (t : Timing) : Timing × List TimOcc :=
  hs.foldl (fun a h => let r := a.1.lose (.hwy h); (r.1, a.2 ++ r.2)) (t, [])

/-- The holdover limit last written comes into force at the first device frame event after its SETREF (R134). -/
def Timing.enforce (t : Timing) : Timing := { t with limitInForce := t.holdLimit }

/-- The whole of a device frame event for the timing unit: the limit written comes into force, losses by silence taken
before its work, its work, and the losses taken after it (R123, R131, R134).  `aligned` says which highways are ALIGNED before
the event. -/
def Timing.frameEvent (aligned : HwyId → Bool) (before after : List HwyId) (t : Timing) : Timing × List TimOcc :=
  let (t1, o1) := t.enforce.loseBefore before
  let (t2, o2) := t1.frameWork fun h => aligned h && !before.contains h
  let (t3, o3) := t2.loseAll after
  (t3, o1 ++ o2 ++ o3)

/-! ### Resets and highways -/

/-- A highway candidate enters loss at a device reset; REFA and REFB are not touched (R140). -/
def Cand.hwyReset (c : Cand) : Cand :=
  match c.src with
  | .hwy _ => c.lose
  | .ref _ => c

/-- Every highway becomes DISABLED at a device reset: its listed candidates fail, then the selector moves (R140). -/
def Timing.deviceReset (t : Timing) : Timing :=
  let t1 : Timing := { t with cands := t.cands.map Cand.hwyReset }
  t1.checkSelected.1

/-- Take a change of the timing unit between device frame events and hand on its events (R138). -/
def State.withTiming (r : Timing × List TimOcc) (s : State) : State :=
  ({ s with tim := r.1 }).takePosts (timingPosts s.isOnline s.now r.2)

/-! ### SETREF -/

/-- The source codes of a SETREF's reference list (10.3). -/
def setrefCodes (r : ReqRecord) : List Nat :=
  (List.range (min (reqByte r 0x08) 4)).map fun k => reqByte r (0x14 + k)

def setrefSources (r : ReqRecord) : List Source := (setrefCodes r).filterMap sourceOfCode

/-- SETREF's export checks (R132). -/
def setrefExportOk (r : ReqRecord) : Bool :=
  if reqByte r 0x0F = 2 then (setrefCodes r).contains (reqByte r 0x10)
  else reqByte r 0x0F ≤ 1 && reqByte r 0x10 == 0

/-- SETREF's field checks (R132). -/
def setrefFieldsOk (r : ReqRecord) : Bool :=
  reservedOk r [(0x08, 9), (0x14, 4)] && reqByte r 0x08 ≤ 4 && reqByte r 0x09 ≤ 1 &&
    ((setrefCodes r).all fun k => (sourceOfCode k).isSome) && decide (setrefCodes r).Nodup &&
    ((List.range 4).all fun k => k < reqByte r 0x08 || reqByte r (0x14 + k) == 0) &&
    reqByte r 0x0A != 0 && (1 ≤ reqByte r 0x0E && reqByte r 0x0E ≤ 64) && setrefExportOk r

def setrefExport (r : ReqRecord) : ExportSel :=
  if reqByte r 0x0F = 1 then .device
  else if reqByte r 0x0F = 2 then
    match sourceOfCode (reqByte r 0x10) with
    | some s => .source s
    | none => .none
  else .none

/-- The record of a source new in the list (R133). -/
def newCand (aligned : HwyId → Bool) (src : Source) : Cand :=
  let c : Cand :=
    { src := src, st := .failed, gap := (match src with | .hwy _ => 0 | .ref _ => Config.gapLimit),
      window := none, drift := false, qualCount := 0, qualTime := 0 }
  if c.inLoss aligned then c else { c with window := some { events := 0, arrivals := 0 } }

/-- The record of a source of the new list: the old record kept whole, or a new one (R133). -/
def Timing.relist (aligned : HwyId → Bool) (t : Timing) (src : Source) : Cand :=
  match t.cand? src with
  | some c => c
  | none => newCand aligned src

/-- SETREF's replacement of list and configuration, with the selector's change if the selected candidate is removed
(R133 to R135).  That change is made with the new holdover limit; any other before the next device frame event is made with
the limit that was in force (R134). -/
def Timing.setref (aligned : HwyId → Bool) (r : ReqRecord) (t : Timing) : Timing × List TimOcc :=
  let t1 : Timing := { t with
    cands := (setrefSources r).map (t.relist aligned)
    revertive := reqByte r 0x09 == 1
    qualifyTime := reqByte r 0x0A
    wtr := reqByte r 0x0B
    holdLimit := reqField r 0x0C 2
    driftLimit := reqByte r 0x0E
    exportSel := setrefExport r }
  match t.selected? with
  | some src => if (setrefSources r).contains src then (t1, []) else t1.fallback t1.holdLimit
  | none => (t1, [])

/-- Which highways are ALIGNED. -/
def State.aligned (s : State) (h : HwyId) : Bool := decide (s.hwys[h].align = .aligned)

/-- A SETREF that passed its header checks (R132 to R136). -/
def setrefBody (r : ReqRecord) (h : Hand) (s : State) : State :=
  if setrefFieldsOk r then
    (s.withTiming (s.tim.setref s.aligned r)).finishRequest h .ok (setrefSources r).length 0
  else s.failRequest h .badField

end Sys2Proof.Machine
end

