-- ==== Sys2Proof/Machine/Highways.lean ====
section
/-! DEFINITION. The highway ports (03_highways.md): receive alignment, the slip buffer, read frames, frame arrivals, and
SETHWY. -/

namespace Sys2Proof.Machine

/-! ### One port -/

/-- Leaving ALIGNED: the unread list is emptied, the last read frame forgotten, the misframe run and silence count set to
0 (R55). -/
def Highway.unaligned (p : Highway) : Highway := { p with unread := [], last := none, misRun := 0, silence := 0 }

/-- Enter SEARCHING with correct run 0 and search age 0 (R49, R53, R54). -/
def Highway.toSearching (p : Highway) : Highway := { p with align := .searching, correctRun := 0, age := 0 }

/-- Enter ALIGNED (R52). -/
def Highway.toAligned (p : Highway) : Highway :=
  { p with align := .aligned, unread := [], last := none, correctRun := 0, misRun := 0, silence := 0, age := 0 }

/-- Whether a slip posts HWY_SLIP: only in ONLINE, with the latch clear (R56, R60). -/
def Highway.slipPosts (online : Bool) (p : Highway) : Bool := online && !p.latch

/-- A slip in ONLINE leaves the latch set: it was set, or the slip has posted (R60).  It has posted in the port's own work,
whether or not the record is then handed (DESIGN CHOICE, log entry 6). -/
def Highway.slipLatch (online : Bool) (p : Highway) : Highway := { p with latch := p.latch || online }

/-- The substitute frame (R58). -/
def Highway.substituteFrame (p : Highway) : ReadFrame :=
  { bytes := List.replicate p.slotCount p.subst, substitute := true }

/-- What one device frame event does on the receive side of a port. -/
structure HwyTick where
  port : Highway
  /-- The read frame handed on; of no use for a highway that is not enabled (R59). -/
  frame : ReadFrame
  /-- The highway has left ALIGNED for silence. -/
  silent : Bool
  events : List Event
  deriving DecidableEq, Repr

/-- The read frame of an ALIGNED highway (R58). -/
def Highway.readAligned (online : Bool) (h : HwyId) (p : Highway) : HwyTick :=
  match p.unread with
  | f :: rest =>
    { port := { p with unread := rest, last := some f }, frame := { bytes := f, substitute := false },
      silent := false, events := [] }
  | [] =>
    match p.last with
    | some f =>
      { port := { p with repeats := Config.satAdd Config.max16 p.repeats }.slipLatch online,
        frame := { bytes := f, substitute := false }, silent := false,
        events := if p.slipPosts online then [.hwySlip h] else [] }
    | none => { port := p, frame := p.substituteFrame, silent := false, events := [] }

/-- Whether this device frame event brings the silence count of an ALIGNED highway to 4 (R54). -/
def Highway.fallsSilent (p : Highway) : Bool :=
  decide (p.align = .aligned) && Config.silenceLimit ≤ p.silence + 1

/-- Whether this device frame event brings the search age of a SEARCHING highway to 64 (R54). -/
def Highway.getsLost (p : Highway) : Bool :=
  decide (p.align = .searching) && Config.searchLimit ≤ p.age + 1

/-- A device frame event on the receive side: the alignment counts advance, then the read frame is chosen (R54, R58).  The
search age stands at 64 in LOST (DEDUCED, log entry 14).  A highway that is not enabled hands on no read frame (R59): the
empty one stands for none, and a CONNECTION left with such a source does not read it (log entry 27). -/
def Highway.frameTick (online : Bool) (h : HwyId) (p : Highway) : HwyTick :=
  match p.align with
  | .disabled => { port := p, frame := { bytes := [], substitute := false }, silent := false, events := [] }
  | .aligned =>
    if p.fallsSilent then
      { port := p.unaligned.toSearching, frame := p.substituteFrame, silent := true, events := [] }
    else { p with silence := p.silence + 1 }.readAligned online h
  | .searching =>
    if p.getsLost then
      { port := { p with align := .lost, age := p.age + 1 }, frame := p.substituteFrame, silent := false,
        events := if online then [.hwyLost h] else [] }
    else { port := { p with age := p.age + 1 }, frame := p.substituteFrame, silent := false, events := [] }
  | .lost => { port := p, frame := p.substituteFrame, silent := false, events := [] }

/-- What a frame arrival does on a port, and the highway events it posts (R51 to R53, R57). -/
structure HwyArrival where
  port : Highway
  events : List Event
  deriving DecidableEq, Repr

/-- A correct frame on an ALIGNED highway joins the unread list; on a full list the oldest is discarded, a delete slip
(R57). -/
def Highway.queueFrame (online : Bool) (h : HwyId) (f : Frame) (p : Highway) : HwyArrival :=
  if p.unread.length < 2 then { port := { p with unread := p.unread ++ [f] }, events := [] }
  else
    { port := { p with
        unread := p.unread.tail ++ [f]
        deletes := Config.satAdd Config.max16 p.deletes }.slipLatch online,
      events := if p.slipPosts online then [.hwySlip h] else [] }

/-- A frame arrival taken by the receive side of an enabled highway (R51 to R53). -/
def Highway.arrive (online : Bool) (h : HwyId) (f : Frame) (p : Highway) : HwyArrival :=
  let good := f.length == p.slotCount
  let q : Highway := if good then p else { p with misframes := Config.satAdd Config.max16 p.misframes }
  match p.align with
  | .disabled => { port := p, events := [] }
  | .aligned =>
    if good then { q with silence := 0, misRun := 0 }.queueFrame online h f
    else if Config.misframeLimit ≤ q.misRun + 1 then { port := q.unaligned.toSearching, events := [] }
    else { port := { q with silence := 0, misRun := q.misRun + 1 }, events := [] }
  | .searching =>
    if good then
      if Config.alignRun ≤ q.correctRun + 1 then { port := q.toAligned, events := [] }
      else { port := { q with correctRun := q.correctRun + 1 }, events := [] }
    else { port := { q with correctRun := 0 }, events := [] }
  | .lost =>
    if good then
      if Config.alignRun ≤ q.correctRun + 1 then
        { port := q.toAligned, events := if online then [.hwyRecovered h] else [] }
      else { port := { q with correctRun := q.correctRun + 1 }, events := [] }
    else { port := { q with correctRun := 0 }, events := [] }

/-- A device reset: every field of R45 returns to its reset value; the frame being sent goes on to its end (R63, R65). -/
def Highway.deviceReset (p : Highway) : Highway := { Highway.reset with tx := p.tx }

/-! ### FRAME_ARRIVAL -/

def State.setHwy (h : HwyId) (p : Highway) (s : State) : State := { s with hwys := s.hwys.set h p }

/-- A frame arrival on a highway: taken by the port, then offered to the timing unit (R51).  A frame whose start mark did
not follow the SETHWY that enabled the highway is not taken (log entry 20). -/
def State.arrival (h : HwyId) (f : Frame) (sinceEnable : Bool) (s : State) : State :=
  if s.hwys[h].enabled ∧ sinceEnable then
    let a := s.hwys[h].arrive s.isOnline h f
    let s1 := (s.setHwy h a.port).takePosts (a.events.flatMap fun e => eventPost s.isOnline s.now e)
    s1.withTiming (s1.tim.hwyArrival h (s.aligned h) (decide (a.port.align = .aligned)))
  else s

/-! ### SETHWY -/

/-- SETHWY's field checks (R46). -/
def sethwyFieldsOk (r : ReqRecord) : Bool :=
  reservedOk r [(0x08, 5)] && reqByte r 0x08 ≤ 15 && reqByte r 0x09 ≤ 1 && [32, 64, 128].contains (reqByte r 0x0A)

/-- The kinds of change of a SETHWY (R46). -/
inductive HwyChange where
  | stored
  | enable
  | disable
  | bytesOnly
  | resize
  deriving DecidableEq, Repr

/-- A SETHWY classed by the enable and slot count in force and requested (R46). -/
def hwyChange (p : Highway) (r : ReqRecord) : HwyChange :=
  if p.enabled then
    if reqByte r 0x09 = 0 then .disable
    else if reqByte r 0x0A = p.slotCount then .bytesOnly
    else .resize
  else if reqByte r 0x09 = 0 then .stored
  else .enable

/-- The prospective highway of a channel that is prospectively open or faulted (R24). -/
def State.prospectiveHwy (s : State) (c : ChanId) : Option HwyId :=
  match lookupKey c s.mc.entries with
  | some (.openEntry p) => some p.hwy
  | some .closeEntry => none
  | some (.reslotEntry h _) => some h
  | none =>
    match s.chans[c].st with
    | .closed => none
    | .closing => none
    | .priming => some s.chans[c].hwy
    | .running => some s.chans[c].hwy
    | .starved => some s.chans[c].hwy
    | .faulted => some s.chans[c].hwy

/-- Whether a driver, as an output slot of `h'` holds it, uses highway `h` (R47, items 1 and 2). -/
def Driver.uses (h h' : HwyId) : Driver → Bool
  | .none => false
  | .connection hs _ => h' == h || hs == h
  | .constant _ => false
  | .channel _ => h' == h

/-- Whether a target entry names highway `h` by its slot or its source (R47, item 4). -/
def targetNames (h : HwyId) (e : SlotRef × Target) : Bool :=
  e.1.hwy == h ||
    match e.2 with
    | .connection hs _ => hs == h
    | .none => false
    | .constant _ => false

/-- Whether a channel entry names highway `h` (R47, item 5). -/
def entryNames (s : State) (h : HwyId) (e : ChanId × ChanEntry) : Bool :=
  match e.2 with
  | .openEntry p => p.hwy == h
  | .closeEntry => s.chans[e.1].hwy == h
  | .reslotEntry h' _ => h' == h || s.chans[e.1].hwy == h

/-- Whether a highway is in use in the prospective map: the five uses that R47 lists, and no other.  R4, R10 and R32 ask of
the prospective map too; what comes of a CONNECTION in the active map alone, whose source a SETHWY may then take away, is log
entry 27. -/
def State.hwyInUse (s : State) (h : HwyId) : Bool :=
  ((List.finRange 16).any fun h' =>
      (List.range s.map[h'].length).any fun n => (s.prospective none h' n).1.uses h h') ||
    ((List.finRange 128).any fun c => s.prospectiveHwy c == some h) ||
    s.mc.targets.any (targetNames h) || s.mc.entries.any (entryNames s h)

/-- The sum of the slot counts with highway `h` at `n` slots in place of what it has (R48). -/
def State.budgetWith (s : State) (h : HwyId) (n : Nat) : Nat :=
  budgetUsed s.hwys - (if s.hwys[h].enabled then s.hwys[h].slotCount else 0) + n

/-- SETHWY's checks after its fields: use, then budget (R46 to R48). -/
def State.sethwyCheck (s : State) (h : HwyId) (n : Nat) : HwyChange → Option Status
  | .stored => none
  | .enable => if Config.slotBudget < s.budgetWith h n then some .budget else none
  | .disable => if s.hwyInUse h then some .highwayInUse else none
  | .bytesOnly => none
  | .resize =>
    if s.hwyInUse h then some .highwayInUse
    else if Config.slotBudget < s.budgetWith h n then some .budget else none

/-- The configuration a SETHWY carries (R49). -/
def Highway.configure (r : ReqRecord) (p : Highway) : Highway :=
  { p with
    slotCount := reqByte r 0x0A
    subst := BitVec.ofNat 8 (reqByte r 0x0B)
    idle := BitVec.ofNat 8 (reqByte r 0x0C) }

/-- The highway side of a change (R49, R55). -/
def Highway.change (r : ReqRecord) (p : Highway) : HwyChange → Highway
  | .stored => p.configure r
  | .enable => (p.configure r).toSearching
  | .disable => { (p.configure r).unaligned with align := .disabled, correctRun := 0, age := 0 }
  | .bytesOnly => { p with subst := BitVec.ofNat 8 (reqByte r 0x0B), idle := BitVec.ofNat 8 (reqByte r 0x0C) }
  | .resize =>
    if p.align = .lost then { (p.configure r).unaligned with correctRun := 0 }
    else (p.configure r).unaligned.toSearching

/-- The map side of a change (R10). -/
def changeDrivers (n : Nat) (ds : List Driver) : HwyChange → List Driver
  | .stored => ds
  | .enable => List.replicate n .none
  | .disable => []
  | .bytesOnly => ds
  | .resize => List.replicate n .none

/-- Carry out a change: the highway, its map entries, and the loss of alignment that a Disable or Resize of an ALIGNED
highway is for the timing unit (R10, R49, R118). -/
def State.changeHwy (h : HwyId) (r : ReqRecord) (k : HwyChange) (s : State) : State :=
  let p := s.hwys[h].change r k
  let s1 := { s with hwys := s.hwys.set h p, map := s.map.set h (changeDrivers (reqByte r 0x0A) s.map[h] k) }
  if s.aligned h ∧ p.align ≠ .aligned then s1.withTiming (s1.tim.loseNow (.hwy h)) else s1

/-- A SETHWY that passed its header checks (R46 to R49). -/
def sethwyBody (r : ReqRecord) (h : Hand) (s : State) : State :=
  if sethwyFieldsOk r then
    let hw := reqHwy r 0x08
    let k := hwyChange s.hwys[hw] r
    match s.sethwyCheck hw (reqByte r 0x0A) k with
    | some st => s.failRequest h st
    | none =>
      let s1 := s.changeHwy hw r k
      s1.finishRequest h .ok (budgetUsed s1.hwys) 0
  else s.failRequest h .badField

end Sys2Proof.Machine
end

