-- ==== Sys2Proof/Machine/Channels.lean ====
section
/-! DEFINITION. The channel engine (04_channels.md, 05_descriptor_rings.md): what one channel does at a device frame event,
at an apply, and at the end of each of its host memory operations. -/

namespace Sys2Proof.Machine

/-! ### One channel and its surroundings -/

/-- What a channel sees of the rest: its number, whether the device is ONLINE, whether operations are sent (R195), the
frame number, and which of its operations are in flight (R69). -/
structure ChanEnv where
  id : ChanId
  online : Bool
  sent : Bool
  now : Word32
  /-- A live descriptor read is in flight. -/
  liveDesc : Bool
  /-- A live write-back is in flight. -/
  liveWb : Bool
  /-- Some operation, live or stale, is in flight. -/
  anyOp : Bool
  deriving DecidableEq, Repr

/-- An operation a channel issues: a read of `len` bytes, or a write of `data`. -/
inductive OpReq where
  | read (k : OpKind) (addr : Addr) (len : Nat)
  | write (k : OpKind) (addr : Addr) (data : List Byte)
  deriving DecidableEq, Repr

def OpReq.kind : OpReq → OpKind
  | .read k _ _ => k
  | .write k _ _ => k

/-- Which operations in flight a channel's step makes stale (R69). -/
inductive Stales where
  | none
  | reads
  | all
  deriving DecidableEq, Repr

/-- What a channel's step gives: the record, the operations it makes stale and then those it issues, and the records it
hands on. -/
structure ChanOut where
  ch : Chan
  stales : Stales
  ops : List OpReq
  posts : List Post
  deriving DecidableEq, Repr

/-- A step that changes the record alone. -/
def Chan.only (ch : Chan) : ChanOut := { ch := ch, stales := .none, ops := [], posts := [] }

/-- A channel event, handed in ONLINE (R89). -/
def ChanEnv.post (env : ChanEnv) (e : Event) : List Post := eventPost env.online env.now e

/-- The index after another, modulo the ring size (R93). -/
def Chan.nextIndex (ch : Chan) (i : Nat) : Nat := (i + 1) % ch.ringSize

/-- The host address of descriptor `i` (R93).  An address past the last wraps modulo 2^64 (DESIGN CHOICE, log entry 30). -/
def Chan.descAddr (ch : Chan) (i : Nat) : Addr := ch.ringBase + BitVec.ofNat 64 (32 * i)

/-- A descriptor read (R94). -/
def Chan.descRead (ch : Chan) (env : ChanEnv) (i : Nat) : OpReq := .read (.descRead env.id i) (ch.descAddr i) 32

/-- The host address of frame `k` of a buffer (R102).  An address past the last wraps modulo 2^64 (DESIGN CHOICE,
log entry 30). -/
def Chan.frameAddr (ch : Chan) (d : Desc) (k : Nat) : Addr := d.buffer + BitVec.ofNat 64 ((k - 1) * ch.slots.length)

/-- The data read of frame `k` of a descriptor (R75, R104). -/
def Chan.dataRead (ch : Chan) (env : ChanEnv) (d : Desc) (k : Nat) : OpReq :=
  .read (.dataRead env.id ch.readSeq) (ch.frameAddr d k) ch.slots.length

/-- The write-back of an entry (R106, R202). -/
def Chan.writeBack (ch : Chan) (env : ChanEnv) (e : WbEntry) (flush : Bool) : OpReq :=
  .write (.writeBack env.id e flush) (ch.descAddr e.desc.index) e.bytes

/-- The data read just issued is of the frame due next. -/
def Chan.awaitData (ch : Chan) : Chan := { ch with readSeq := ch.readSeq + 1, due := some ch.readSeq, ready := none }

/-- A current copy with frames moved 0 and no flags (R72, R108). -/
def Current.fresh (d : Desc) : Current :=
  { desc := d, moved := 0, late := false, sourceLost := false, firstFrame := 0, unaccepted := 0 }

/-- The write-back queue entry of a descriptor whose moving has ended (R78, R82). -/
def Current.entry (cur : Current) (st : DescStatus) : WbEntry :=
  { desc := cur.desc, status := st, actual := cur.moved, late := cur.late, sourceLost := cur.sourceLost,
    firstFrame := cur.firstFrame, unaccepted := cur.unaccepted }

/-- The entry of a descriptor returned BAD or FLUSHED: 0 frames, no flags, first-frame number 0 (R107). -/
def Desc.unmoved (d : Desc) (st : DescStatus) : WbEntry :=
  { desc := d, status := st, actual := 0, late := false, sourceLost := false, firstFrame := 0, unaccepted := 0 }

/-- Entering STARVED posts CHAN_STARVED when the latch is clear and the device ONLINE, and posting sets the latch (R81).  It
posts in the channel's own work, whether or not the record is then handed (DESIGN CHOICE, log entry 6). -/
def Chan.enterStarved (ch : Chan) (env : ChanEnv) : Chan × List Post :=
  if env.online && !ch.latch then ({ ch with st := .starved, latch := true }, env.post (.chanStarved env.id))
  else ({ ch with st := .starved }, [])

/-! ### Failures, and the issue of operations -/

/-- A live operation of an open channel has failed (R86). -/
def Chan.fault (ch : Chan) (env : ChanEnv) (k : ChanOpKind) (timeout : Bool) : ChanOut :=
  { ch := ch.toFaulted (.operation k timeout), stales := .all, ops := [],
    posts := env.post (.chanFault env.id (.operation k timeout)) }

/-- A live operation of a CLOSING channel has failed: the closing ends with MEMORY_ERROR (R85). -/
def Chan.failClosing (ch : Chan) : Chan := { ch with closeFailed := true, queue := [], walk := .ended }

/-- The failure of a live operation, by the channel's state (R85, R86); `none` is a flush read. -/
def Chan.failure (ch : Chan) (env : ChanEnv) (k : Option ChanOpKind) (timeout : Bool) : ChanOut :=
  match ch.st with
  | .closing => ch.failClosing.only
  | .closed => ch.only
  | .faulted => ch.only
  | .priming => match k with | some k => ch.fault env k timeout | none => ch.only
  | .running => match k with | some k => ch.fault env k timeout | none => ch.only
  | .starved => match k with | some k => ch.fault env k timeout | none => ch.only

/-- Whether a CLOSING channel becomes CLOSED now (R85). -/
def Chan.canClose (ch : Chan) (env : ChanEnv) : Bool :=
  decide (ch.st = .closing) && ch.queue.isEmpty && decide (ch.walk = .ended) && !env.anyOp

/-- A CLOSING channel becomes CLOSED and posts CHAN_CLOSED (R85). -/
def Chan.finishClose (ch : Chan) (env : ChanEnv) : ChanOut :=
  { ch := { ch with st := .closed }, stales := .none, ops := [],
    posts := env.post (.chanClosed env.id ch.closeFailed) }

/-- An operation of the channel has been issued with bus mastering disabled: its end, an error, is taken at that moment, and
a CLOSING channel with nothing else in flight is CLOSED (R85, R86, R195). -/
def Chan.unsent (ch : Chan) (env : ChanEnv) (k : OpKind) : ChanOut :=
  let o := ch.failure env k.cause? false
  if o.ch.canClose env then { o.ch.finishClose env with stales := o.stales } else o

/-- The channel issues an operation, and its step goes on with `rest`; or the operation is not sent, and its failure ends
the step (R195). -/
def Chan.issue (ch : Chan) (env : ChanEnv) (r : OpReq) (rest : ChanOut) : ChanOut :=
  if env.sent then { rest with ops := r :: rest.ops } else ch.unsent env r.kind

/-- The same for an operation that is issued or not. -/
def Chan.issue? (ch : Chan) (env : ChanEnv) (r : Option OpReq) (rest : ChanOut) : ChanOut :=
  match r with
  | some r => ch.issue env r rest
  | none => rest

/-! ### What a channel goes on to by itself -/

/-- A descriptor read has brought a device-owned, valid descriptor to a PRIMING or STARVED channel (R73). -/
def Chan.takeDesc (ch : Chan) (env : ChanEnv) (d : Desc) : ChanOut :=
  let ch1 : Chan :=
    { ch with st := .running, current := some (.fresh d), lookahead := none, deferred := false }
  match ch.dir with
  | .rx => ch1.only
  | .tx => ch1.awaitData.issue env (ch.dataRead env d 1) ch1.awaitData.only

/-- Whether the oldest write-back queue entry may have its write-back issued now (R79, R85). -/
def Chan.canWriteBack (ch : Chan) (env : ChanEnv) : Bool :=
  !env.liveWb &&
    (match ch.st with
     | .priming => true
     | .running => true
     | .starved => true
     | .closing => !ch.closeFailed
     | .closed => false
     | .faulted => false) &&
    (match ch.queue with
     | e :: _ => e.unaccepted == 0
     | [] => false)

/-- Issue the write-back of the oldest entry (R79). -/
def Chan.issueWriteBack (ch : Chan) (env : ChanEnv) : ChanOut :=
  match ch.queue with
  | e :: _ => ch.issue env (ch.writeBack env e false) ch.only
  | [] => ch.only

/-- Whether a PRIMING channel issues its descriptor read now (R72). -/
def Chan.canPrime (ch : Chan) (env : ChanEnv) : Bool :=
  decide (ch.st = .priming) && ch.queue.isEmpty && !env.liveDesc && ch.current.isNone

/-- The PRIMING read (R72). -/
def Chan.issuePriming (ch : Chan) (env : ChanEnv) : ChanOut :=
  ch.issue env (ch.descRead env ch.pos) ch.only

/-- A flush read of the descriptor at the ring position (R84). -/
def Chan.flushRead (ch : Chan) (env : ChanEnv) : OpReq := .read (.flushRead env.id ch.pos) (ch.descAddr ch.pos) 32

/-- Whether a CLOSING channel begins its flush walk now (R84). -/
def Chan.canWalk (ch : Chan) : Bool :=
  decide (ch.st = .closing) && ch.queue.isEmpty && decide (ch.walk = .notBegun) && !ch.closeFailed

/-- Begin the flush walk (R84). -/
def Chan.beginWalk (ch : Chan) (env : ChanEnv) : ChanOut :=
  let ch1 : Chan := { ch with walk := .walking 0 }
  ch1.issue env (ch.flushRead env) ch1.only

/-- What a channel goes on to at the moment an event has made it possible: the write-back of the oldest entry, the
PRIMING read, the flush walk, or CLOSED.  No more than one of them is possible (R72, R79, R84, R85). -/
def Chan.pump (ch : Chan) (env : ChanEnv) : ChanOut :=
  if ch.canWriteBack env then ch.issueWriteBack env
  else if ch.canPrime env then ch.issuePriming env
  else if ch.canWalk then ch.beginWalk env
  else if ch.canClose env then ch.finishClose env
  else ch.only

/-! ### The device frame event -/

/-- The lookahead index is still in the write-back queue (R77). -/
def Chan.inQueue (ch : Chan) (i : Nat) : Bool := ch.queue.any fun e => e.desc.index == i

/-- The lookahead read of the event that moves frame `k` (R77): issued or deferred at frame 1; a host-owned lookahead is
read again while frames are left and no read is in flight. -/
def Chan.lookaheadRead? (ch : Chan) (env : ChanEnv) (cur : Current) (k : Nat) : Option OpReq :=
  let i := ch.nextIndex cur.desc.index
  if k = 1 then if ch.inQueue i then none else some (ch.descRead env i)
  else
    match ch.lookahead with
    | some { index := j, owned := none } =>
      if k < cur.desc.frames ∧ env.liveDesc = false then some (ch.descRead env j) else none
    | _ => none

/-- The bytes a receive channel takes from a read frame, in slot-list order (R74). -/
def Chan.rxBytes (ch : Chan) (rf : ReadFrame) : List Byte := ch.slots.map fun n => byteAt rf.bytes n

/-- The current copy after one more frame, the `k`-th (R74 to R77). -/
def Current.move (cur : Current) (env : ChanEnv) (late lost : Bool) (writes : Nat) : Current :=
  { cur with
    moved := cur.moved + 1
    firstFrame := if cur.moved = 0 then env.now else cur.firstFrame
    late := cur.late || late
    sourceLost := cur.sourceLost || lost
    unaccepted := cur.unaccepted + writes }

/-- The event that moves a descriptor's last frame ends it: the lookahead takes over, or the channel starves (R78). -/
def Chan.endDesc (ch : Chan) (env : ChanEnv) (cur : Current) : ChanOut :=
  let ch1 : Chan :=
    { ch with queue := ch.queue ++ [cur.entry .done], current := none, lookahead := none, deferred := false }
  match ch.lookahead with
  | some { index := _, owned := some d } =>
    if d.valid then
      let ch2 : Chan := { ch1 with current := some (.fresh d) }
      match ch.dir with
      | .rx => ch2.only
      | .tx => ch2.awaitData.issue env (ch.dataRead env d 1) ch2.awaitData.only
    else
      let r := { ch1 with queue := ch1.queue ++ [d.unmoved .bad] }.enterStarved env
      { ch := r.1, stales := .none, ops := [], posts := r.2 }
  | some { index := _, owned := none } =>
    let r := ch1.enterStarved env
    { ch := r.1, stales := .none, ops := [], posts := r.2 }
  | none =>
    let r := ch1.enterStarved env
    { ch := r.1, stales := .none, ops := [], posts := r.2 }

/-- After a frame of the current descriptor has moved: its end, or the work on its next frame (R75, R78). -/
def Chan.afterFrame (ch : Chan) (env : ChanEnv) (cur : Current) : ChanOut :=
  if cur.desc.frames ≤ cur.moved then ch.endDesc env cur
  else
    let ch1 : Chan := { ch with current := some cur }
    match ch.dir with
    | .rx => ch1.only
    | .tx => ch1.awaitData.issue env (ch.dataRead env cur.desc (cur.moved + 1)) ch1.awaitData.only

/-- A RUNNING channel moves one frame (R74 to R78).  The manual gives no order between the operations that one channel
issues at one event: a receive channel issues its data write and then the lookahead read, a transmit channel the lookahead
read and then the data read, and a write-back that has become possible follows them (DESIGN CHOICE, log entry 29). -/
def Chan.moveFrame (ch : Chan) (env : ChanEnv) (rf : ReadFrame) (cur : Current) : ChanOut :=
  let k := cur.moved + 1
  let look := ch.lookaheadRead? env cur k
  let defer := if k = 1 then ch.inQueue (ch.nextIndex cur.desc.index) else ch.deferred
  match ch.dir with
  | .rx =>
    let w := OpReq.write (.dataWrite env.id cur.desc.index) (ch.frameAddr cur.desc k) (ch.rxBytes rf)
    let ch1 : Chan := { ch with deferred := defer }
    ch1.issue env w (ch1.issue? env look (ch1.afterFrame env (cur.move env false rf.substitute 1)))
  | .tx =>
    let isLate := ch.ready.isNone
    let ch1 : Chan :=
      { ch with
        ready := none
        due := none
        deferred := defer
        late := if isLate then Config.satAdd Config.max32 ch.late else ch.late }
    ch1.issue? env look (ch1.afterFrame env (cur.move env isLate false 0))

/-- A STARVED channel counts a starved frame and reads the descriptor at its ring position (R80). -/
def Chan.starvedFrame (ch : Chan) (env : ChanEnv) : ChanOut :=
  let ch1 : Chan := { ch with starved := Config.satAdd Config.max32 ch.starved }
  ch1.issue? env (if ch.queue.isEmpty && !env.liveDesc then some (ch.descRead env ch.pos) else none) ch1.only

/-- A channel's work at a device frame event, by its state (R72, R74, R75, R80, R83, R86). -/
def Chan.frame (ch : Chan) (env : ChanEnv) (rf : ReadFrame) : ChanOut :=
  match ch.st with
  | .running =>
    match ch.current with
    | some cur => ch.moveFrame env rf cur
    | none => ch.only
  | .starved => ch.starvedFrame env
  | .closed => ch.only
  | .priming => ch.only
  | .closing => ch.only
  | .faulted => ch.only

/-! ### The apply and the STOP clear event -/

/-- The current copy joins the queue SHORT if it has moved a frame, and is dropped otherwise (R82, R83). -/
def Chan.shortCurrent (ch : Chan) : List WbEntry :=
  match ch.current with
  | some cur => if 1 ≤ cur.moved then ch.queue ++ [cur.entry .short] else ch.queue
  | none => ch.queue

/-- The copies and ready data are dropped (R82, R83). -/
def Chan.dropCopies (ch : Chan) : Chan :=
  { ch with queue := ch.shortCurrent, current := none, lookahead := none, ready := none, due := none, deferred := false }

/-- The apply of an OPEN (R34, R68, R72). -/
def Chan.applyOpen (p : OpenParams) : ChanOut :=
  { ch := { Chan.reset with
      st := .priming, dir := p.dir, hwy := p.hwy, slots := p.slots, idle := p.idle,
      ringBase := p.ringBase, ringSize := p.ringSize, complRing := p.complRing },
    stales := .all, ops := [], posts := [] }

/-- An open channel enters CLOSING (R83). -/
def Chan.toClosing (ch : Chan) : ChanOut :=
  { ch := { ch.dropCopies with st := .closing, slots := [], walk := .notBegun, closeFailed := false },
    stales := .reads, ops := [], posts := [] }

/-- A CLOSE applied to a channel, or the STOP clear event (R35, R83, R87, R90); the CHAN_CLOSED of a FAULTED channel says
OK (DEDUCED, log entry 12). -/
def Chan.close (ch : Chan) (env : ChanEnv) : ChanOut :=
  match ch.st with
  | .priming => ch.toClosing
  | .running => ch.toClosing
  | .starved => ch.toClosing
  | .faulted =>
    { ch := { ch with st := .closed, slots := [] }, stales := .none, ops := [],
      posts := env.post (.chanClosed env.id false) }
  | .closed => ch.only
  | .closing => ch.only

/-- A RESLOT applied to an open channel (R36, R82). -/
def Chan.toPriming (ch : Chan) (h : HwyId) (l : List Nat) : ChanOut :=
  { ch := { ch.dropCopies with st := .priming, hwy := h, slots := l }, stales := .reads, ops := [], posts := [] }

/-- The apply of a RESLOT (R36). -/
def Chan.applyReslot (ch : Chan) (h : HwyId) (l : List Nat) : ChanOut :=
  match ch.st with
  | .priming => ch.toPriming h l
  | .running => ch.toPriming h l
  | .starved => ch.toPriming h l
  | .faulted => { ch with hwy := h, slots := l }.only
  | .closed => ch.only
  | .closing => ch.only

/-- The apply of a channel entry (R34 to R36). -/
def Chan.applyEntry (ch : Chan) (e : ChanEntry) (env : ChanEnv) : ChanOut :=
  match e with
  | .openEntry p => Chan.applyOpen p
  | .closeEntry => ch.close env
  | .reslotEntry h l => ch.applyReslot h l

/-- A STOP taken in HALTED makes every channel CLOSED (R90). -/
def Chan.stopHalted (ch : Chan) : Chan := { ch with st := .closed, slots := [] }

/-! ### The ends of live operations -/

/-- An invalid descriptor joins the queue with status BAD and 0 frames (R72, R80). -/
def Chan.queueBad (ch : Chan) (d : Desc) : ChanOut := { ch with queue := ch.queue ++ [d.unmoved .bad] }.only

/-- The PRIMING read has ended with data (R72). -/
def Chan.primingEnd (ch : Chan) (env : ChanEnv) (got : Option Desc) : ChanOut :=
  match got with
  | some d => if d.valid then ch.takeDesc env d else ch.queueBad d
  | none =>
    let r := ch.enterStarved env
    { ch := r.1, stales := .none, ops := [], posts := r.2 }

/-- A descriptor read has ended with data in STARVED (R80). -/
def Chan.starvedEnd (ch : Chan) (env : ChanEnv) (got : Option Desc) : ChanOut :=
  match got with
  | some d => if d.valid then ch.takeDesc env d else ch.queueBad d
  | none => ch.only

/-- The lookahead read has ended with data: held as read, valid or not (R77). -/
def Chan.lookaheadEnd (ch : Chan) (index : Nat) (got : Option Desc) : ChanOut :=
  { ch with lookahead := some { index := index, owned := got } }.only

/-- A live descriptor read has ended with data (R72, R77, R80). -/
def Chan.descEnd (ch : Chan) (env : ChanEnv) (index : Nat) (bytes : List Byte) : ChanOut :=
  match ch.st with
  | .priming => ch.primingEnd env (readDesc index bytes)
  | .running => ch.lookaheadEnd index (readDesc index bytes)
  | .starved => ch.starvedEnd env (readDesc index bytes)
  | .closed => ch.only
  | .closing => ch.only
  | .faulted => ch.only

/-- A live data read has ended with data: it fills the ready data while its frame has not been sent, and is discarded
otherwise (R75, R76). -/
def Chan.dataEnd (ch : Chan) (seq : Nat) (bytes : List Byte) : ChanOut :=
  if ch.due = some seq then { ch with ready := some bytes, due := none }.only else ch.only

/-- One data write of a queue entry has been accepted. -/
def WbEntry.accept (i : Nat) (e : WbEntry) : WbEntry :=
  if e.desc.index = i then { e with unaccepted := e.unaccepted - 1 } else e

/-- A live data write has been accepted: counted against the descriptor it belongs to (R74, R79). -/
def Chan.dataAccepted (ch : Chan) (i : Nat) : ChanOut :=
  match ch.current with
  | some cur =>
    if cur.desc.index = i then { ch with current := some { cur with unaccepted := cur.unaccepted - 1 } }.only
    else { ch with queue := ch.queue.map (WbEntry.accept i) }.only
  | none => { ch with queue := ch.queue.map (WbEntry.accept i) }.only

/-- The BUFFER_DONE of an accepted write-back whose copy carried NOTIFY (R110). -/
def Chan.bufferDone (ch : Chan) (env : ChanEnv) (e : WbEntry) : List Post :=
  if env.online && e.desc.notify then
    [.record (some ch.complRing) (.bufferDone env.id e.desc.index e.status e.desc.cookie)]
  else []

/-- The ring position advances (R97). -/
def Chan.advance (ch : Chan) : Chan := { ch with pos := ch.nextIndex ch.pos }

/-- Whether a deferred lookahead read waits for the write-back of index `i` (R77). -/
def Chan.lookaheadWaits (ch : Chan) (i : Nat) : Bool :=
  ch.deferred && decide (ch.st = .running) &&
    match ch.current with
    | some cur => ch.nextIndex cur.desc.index == i
    | none => false

/-- Issue the deferred lookahead read (R77). -/
def Chan.issueDeferred (ch : Chan) (env : ChanEnv) : ChanOut :=
  match ch.current with
  | some cur =>
    let ch1 : Chan := { ch with deferred := false }
    ch1.issue env (ch.descRead env (ch.nextIndex cur.desc.index)) ch1.only
  | none => ch.only

/-- The write-back of a queue entry has been accepted (R79, R109).  A lookahead read that waited for it is issued before the
write-back of the next entry; the manual gives no order between the two (DESIGN CHOICE, log entry 29). -/
def Chan.wroteBack (ch : Chan) (env : ChanEnv) (e : WbEntry) : ChanOut :=
  let ch1 : Chan := { ch with queue := ch.queue.tail }.advance
  let o := if ch1.lookaheadWaits e.desc.index then ch1.issueDeferred env else ch1.only
  { o with posts := ch.bufferDone env e ++ o.posts }

/-- The flush walk after a FLUSHED write-back has been accepted: it goes on, or it has visited the whole ring (R84). -/
def Chan.flushed (ch : Chan) (env : ChanEnv) (e : WbEntry) : ChanOut :=
  let ch1 := ch.advance
  let posts := ch.bufferDone env e
  match ch.walk with
  | .walking n =>
    if ch.ringSize ≤ n + 1 then
      { ch := { ch1 with walk := .ended }, stales := .none, ops := [], posts := posts }
    else
      let ch2 : Chan := { ch1 with walk := .walking (n + 1) }
      let o := ch2.issue env (ch1.flushRead env) ch2.only
      { o with posts := posts ++ o.posts }
  | .notBegun => { ch := ch1, stales := .none, ops := [], posts := posts }
  | .ended => { ch := ch1, stales := .none, ops := [], posts := posts }

/-- A live write-back has been accepted (R109), after a failed closing too (DEDUCED, log entry 13). -/
def Chan.writeBackAccepted (ch : Chan) (env : ChanEnv) (e : WbEntry) (flush : Bool) : ChanOut :=
  if flush then ch.flushed env e else ch.wroteBack env e

/-- A flush read has ended with data (R84). -/
def Chan.flushEnd (ch : Chan) (env : ChanEnv) (index : Nat) (bytes : List Byte) : ChanOut :=
  match readDesc index bytes with
  | some d => ch.issue env (ch.writeBack env (d.unmoved .flushed) true) ch.only
  | none => { ch with walk := .ended }.only

/-! ### Channels in the machine -/

/-- Whether an operation in flight is one of channel `c`'s. -/
def Op.isOf (c : ChanId) (o : Op) : Bool := o.kind.chan? == some c && o.mark != .dropped

/-- A channel's view of the rest (R69). -/
def State.chanEnv (s : State) (c : ChanId) : ChanEnv where
  id := c
  online := s.isOnline
  sent := s.cfg.busMaster
  now := s.now
  liveDesc := s.link.ops.any fun o => o.isOf c && o.mark == .live && o.kind.isDescRead
  liveWb := s.link.ops.any fun o => o.isOf c && o.mark == .live && o.kind.isWriteBack
  anyOp := s.link.ops.any fun o => o.isOf c

def Link.staleChan (c : ChanId) (st : Stales) (l : Link) : Link :=
  match st with
  | .none => l
  | .reads => l.mark .stale fun k => k.chan? == some c && k.isRead
  | .all => l.mark .stale fun k => k.chan? == some c

def State.issueReq (r : OpReq) (s : State) : State :=
  match r with
  | .read k a n => s.issueRead k a n
  | .write k a d => s.issueWrite k a d

/-- A channel's step takes effect: its record, its stale operations, its new operations in order. -/
def State.chanStep (c : ChanId) (o : ChanOut) (s : State) : State :=
  o.ops.foldl (fun s r => s.issueReq r) { s with chans := s.chans.set c o.ch, link := s.link.staleChan c o.stales }

/-- A channel goes on by itself as far as its state allows. -/
def State.chanPump (c : ChanId) (s : State) : State × List Post :=
  let o := s.chans[c].pump (s.chanEnv c)
  (s.chanStep c o, o.posts)

/-- A channel's step and what it goes on to at the same moment, with the records it hands on: what the step itself issues
comes first, and what it goes on to last (DESIGN CHOICE, log entry 29). -/
def State.chanAct (c : ChanId) (o : ChanOut) (s : State) : State × List Post :=
  let r := (s.chanStep c o).chanPump c
  (r.1, o.posts ++ r.2)

/-- A channel's step outside a device frame event, its records taken after it (DESIGN CHOICE, log entry 6). -/
def State.chanEvent (c : ChanId) (o : ChanOut) (s : State) : State :=
  let r := s.chanAct c o
  r.1.takePosts r.2

end Sys2Proof.Machine
end

