-- ==== Sys2Proof/Machine/Staging.lean ====
section
/-! DEFINITION. The map controller (02_staging_and_commit.md): OPEN, CLOSE, RESLOT, COMMIT and DISCARD, and the apply of the
staging set. -/

namespace Sys2Proof.Machine

/-! ### Staging a channel entry -/

/-- The staged channel entry of a channel (R24). -/
def State.chanEntry (s : State) (c : ChanId) : Option ChanEntry := lookupKey c s.mc.entries

/-- Put a channel entry under its key (R22). -/
def State.stageChan (c : ChanId) (e : ChanEntry) (s : State) : State :=
  { s with mc := { s.mc with entries := putKey chanRank c e s.mc.entries } }

/-- A transmit OPEN or RESLOT absorbs the target entries keyed by its new slots (R25). -/
def absorbTargets (d : Dir) (h : HwyId) (l : List Nat) (ts : List (SlotRef × Target)) : List (SlotRef × Target) :=
  match d with
  | .rx => ts
  | .tx => ts.filter fun e => !(e.1.hwy == h && l.contains e.1.slot)

/-- Stage an OPEN or RESLOT entry and absorb target entries (R25, R27, R29). -/
def State.stageSlots (c : ChanId) (e : ChanEntry) (d : Dir) (h : HwyId) (l : List Nat) (s : State) : State :=
  let s1 := s.stageChan c e
  { s1 with mc := { s1.mc with targets := absorbTargets d h l s1.mc.targets } }

/-- The claim test of one slot: its prospective driver, with the channel's own entry left out, is NONE or CHANNEL of the
channel (R25). -/
def State.claimPasses (s : State) (c : ChanId) (h : HwyId) (n : Nat) : Bool :=
  match (s.prospective (some c) h n).1 with
  | .none => true
  | .channel c' => c' == c
  | .connection _ _ => false
  | .constant _ => false

/-- The highway and slot checks of OPEN and RESLOT (R71). -/
def State.slotsCheck (s : State) (c : ChanId) (d : Dir) (h : HwyId) (l : List Nat) : Option Status :=
  if ¬ s.hwys[h].enabled then some .noHighway
  else if l.any fun n => s.hwys[h].slotCount ≤ n then some .noSlot
  else if decide (d = .tx) && !(l.all fun n => s.claimPasses c h n) then some .slotBusy
  else none

/-- The capacity check of a request that adds a key (R22, R26). -/
def State.capacityCheck (s : State) : Option Status :=
  if Config.stagingLimit ≤ s.mc.count then some .stagingFull else none

/-- The channel a request names. -/
def reqChan (r : ReqRecord) : ChanId := Fin.ofNat 128 (reqByte r 0x08)

/-! ### OPEN -/

/-- OPEN's field checks (R70). -/
def openFieldsOk (ringCount : Nat) (r : ReqRecord) : Bool :=
  reservedOk r [(0x08, 48)] && reqByte r 0x08 ≤ 127 && (reqByte r 0x09 == 1 || reqByte r 0x09 == 2) &&
    reqByte r 0x0A ≤ 15 && slotListOk r && (2 ≤ reqField r 0x0E 2 && reqField r 0x0E 2 ≤ 1024) &&
    reqField r 0x10 8 % 32 == 0 && reqByte r 0x0D < ringCount && (reqByte r 0x09 == 2 || reqByte r 0x0C == 0)

/-- The parameters of an OPEN (R21). -/
def openParams (r : ReqRecord) : OpenParams where
  dir := if reqByte r 0x09 = 2 then .tx else .rx
  hwy := reqHwy r 0x0A
  slots := reqSlots r
  idle := BitVec.ofNat 8 (reqByte r 0x0C)
  ringBase := BitVec.ofNat 64 (reqField r 0x10 8)
  ringSize := reqField r 0x0E 2
  complRing := Fin.ofNat 4 (reqByte r 0x0D)

/-- OPEN's checks after its fields: the channel's state, highway and slots, room (R26, R27). -/
def State.openCheck (s : State) (c : ChanId) (p : OpenParams) : Option Status :=
  firstFailure
    [if (s.chanEntry c).isNone ∧ s.chans[c].st = .closed then none else some .channelBusy,
     s.slotsCheck c p.dir p.hwy p.slots, s.capacityCheck]

/-- An OPEN that passed its header checks (R26, R27). -/
def openBody (r : ReqRecord) (h : Hand) (s : State) : State :=
  if openFieldsOk s.comp.ringCount r then
    let p := openParams r
    match s.openCheck (reqChan r) p with
    | some st => s.failRequest h st
    | none =>
      (s.stageSlots (reqChan r) (.openEntry p) p.dir p.hwy p.slots).stagingDone h r.immediate .staged
  else s.failRequest h .badField

/-! ### CLOSE -/

/-- Whether a channel in a state may have a CLOSE staged: PRIMING, RUNNING, STARVED or FAULTED (R28). -/
def ChanState.closable : ChanState → Bool
  | .priming => true
  | .running => true
  | .starved => true
  | .faulted => true
  | .closed => false
  | .closing => false

/-- A CLOSE by the channel's prospective state (R28). -/
def State.closeChan (c : ChanId) (h : Hand) (immediate : Bool) (s : State) : State :=
  match s.chanEntry c with
  | some (.openEntry _) =>
    ({ s with mc := { s.mc with entries := eraseKey c s.mc.entries } }).stagingDone h immediate .unstaged
  | some (.reslotEntry _ _) => (s.stageChan c .closeEntry).stagingDone h immediate .staged
  | some .closeEntry => s.failRequest h .channelIdle
  | none =>
    if s.chans[c].st.closable then
      match s.capacityCheck with
      | some st => s.failRequest h st
      | none => (s.stageChan c .closeEntry).stagingDone h immediate .staged
    else s.failRequest h .channelIdle

/-- A CLOSE that passed its header checks (R28, R70). -/
def closeBody (r : ReqRecord) (h : Hand) (s : State) : State :=
  if reservedOk r [(0x08, 1)] && reqByte r 0x08 ≤ 127 then s.closeChan (reqChan r) h r.immediate
  else s.failRequest h .badField

/-! ### RESLOT -/

/-- RESLOT's field checks (R70). -/
def reslotFieldsOk (r : ReqRecord) : Bool :=
  reservedOk r [(0x08, 1), (0x0A, 2), (0x18, 32)] && reqByte r 0x08 ≤ 127 && reqByte r 0x0A ≤ 15 && slotListOk r

/-- A RESLOT of an open channel with no entry adds a key (R29, R71). -/
def State.reslotOpen (c : ChanId) (hw : HwyId) (l : List Nat) (h : Hand) (immediate : Bool) (s : State) : State :=
  match firstFailure [s.slotsCheck c s.chans[c].dir hw l, s.capacityCheck] with
  | some st => s.failRequest h st
  | none => (s.stageSlots c (.reslotEntry hw l) s.chans[c].dir hw l).stagingDone h immediate .staged

/-- A RESLOT by the channel's prospective state (R29, R71). -/
def State.reslotChan (c : ChanId) (hw : HwyId) (l : List Nat) (h : Hand) (immediate : Bool) (s : State) : State :=
  match s.chanEntry c with
  | some (.openEntry p) =>
    match s.slotsCheck c p.dir hw l with
    | some st => s.failRequest h st
    | none =>
      (s.stageSlots c (.openEntry { p with hwy := hw, slots := l }) p.dir hw l).stagingDone h immediate .staged
  | some (.reslotEntry _ _) =>
    match s.slotsCheck c s.chans[c].dir hw l with
    | some st => s.failRequest h st
    | none => (s.stageSlots c (.reslotEntry hw l) s.chans[c].dir hw l).stagingDone h immediate .staged
  | some .closeEntry => s.failRequest h .channelIdle
  | none =>
    match s.chans[c].st with
    | .closed => s.failRequest h .channelIdle
    | .closing => s.failRequest h .channelIdle
    | .faulted => s.failRequest h .channelBusy
    | .priming => s.reslotOpen c hw l h immediate
    | .running => s.reslotOpen c hw l h immediate
    | .starved => s.reslotOpen c hw l h immediate

/-- A RESLOT that passed its header checks (R29, R70, R71). -/
def reslotBody (r : ReqRecord) (h : Hand) (s : State) : State :=
  if reslotFieldsOk r then s.reslotChan (reqChan r) (reqHwy r 0x0A) (reqSlots r) h r.immediate
  else s.failRequest h .badField

/-! ### COMMIT and DISCARD -/

/-- A COMMIT that passed its header checks (R31). -/
def commitBody (r : ReqRecord) (h : Hand) (s : State) : State :=
  if reservedOk r [] then
    if s.mc.count = 0 then s.finishRequest h .nothingStaged 0 0
    else { s with mc := { s.mc with inFlight := true }, proc := { s.proc with st := .waitingFrame, hand := some h } }
  else s.failRequest h .badField

/-- A DISCARD that passed its header checks (R39). -/
def discardBody (r : ReqRecord) (h : Hand) (s : State) : State :=
  if reservedOk r [] then ({ s with mc := s.mc.emptied }).finishRequest h .ok s.mc.count 0
  else s.failRequest h .badField

/-! ### The apply -/

/-- Every channel entry takes effect in the channel table; with each channel the records it hands on (R34 to R36).  The
list of entries has its keys rising, so that the order in which they were staged has no effect (R21).  The manual gives no
order between the channels of an apply: they issue their operations in number order (DESIGN CHOICE, log entry 28). -/
def State.applyEntries (es : List (ChanId × ChanEntry)) (s : State) : State × List (List Post) :=
  es.foldl
    (fun a e =>
      let r := a.1.chanAct e.1 (a.1.chans[e.1].applyEntry e.2 (a.1.chanEnv e.1))
      (r.1, a.2 ++ [r.2]))
    (s, [])

/-- The apply at a device frame event: the active map becomes the prospective map, the channel entries take effect, the
set is emptied and the flag cleared; the COMMIT's APPLIED record is handed on after every record that the apply itself
hands, those of the channels among them (R11, R32, R35, R37, R148). -/
def State.applySet (o : FrameOrder) (s : State) : State × List Post :=
  let n := s.mc.count
  let r := ({ s with map := s.prospectiveMap }).applyEntries s.mc.entries
  let done := match s.proc.hand with
    | some h => [Post.done h .applied n s.now]
    | none => []
  ({ r.1 with mc := .reset }, merge o.closes r.2 ++ done)

/-! ### The STOP clear event -/

/-- Every channel closes: an open one enters CLOSING, a FAULTED one becomes CLOSED, one already CLOSING goes on (R90).  The
manual gives no order between the channels of a STOP: they issue their write-backs and flush reads in number order (DESIGN
CHOICE, log entry 28). -/
def State.closeAll (s : State) : State :=
  ((List.finRange 128).filter fun c => s.chans[c].st.closable).foldl
    (fun s c => s.chanEvent c (s.chans[c].close (s.chanEnv c))) s

/-- Whether a device frame event is the STOP clear event: the first after the request in hand has ended (R18, R189). -/
def State.stopClearDue (s : State) : Bool :=
  decide (s.dev.st = .online) && s.dev.stopPending && decide (s.proc.st = .stopped) && !s.mc.inFlight

/-- The STOP clear event: stop pending is cleared, the device enters STOPPING, the map is cleared, the channels close
(R18, R90, R189). -/
def State.stopClear (s : State) : State :=
  let s1 := { s with dev := { s.dev with st := .stopping, stopPending := false }, map := clearMap s.map }
  s1.closeAll

end Sys2Proof.Machine
end

