-- ==== Sys2Proof/Machine/Requests.lean ====
section
/-! DEFINITION. The request processor (07_requests.md): the end of a fetch, the header checks, NOP, and the queries with
their result records (10.6). -/

namespace Sys2Proof.Machine

/-! ### The end of a fetch -/

/-- A fetch has ended with data: the consumed count advances, and the record becomes the request in hand, EXECUTING
(R144, R146).  `none` when no fetch is in flight. -/
def State.fetched (s : State) : Option State :=
  match s.liveOpOf .requestFetch with
  | some op =>
    if s.proc.st = .fetching then
      let s1 := s.endOp op.id
      some { s1 with proc := { s1.proc with consumed := s1.proc.consumed + 1, st := .executing } }
    else none
  | none => none

/-- Whether a request's completion ring number is below the ring count (R149, step 1). -/
def State.ringOk (s : State) (r : ReqRecord) : Bool := r.ring.toNat < s.comp.ringCount

/-- Where the REQUEST_DONE goes: the ring the header names, or ring 0 when it names none (R148, R149). -/
def State.replyHand (s : State) (r : ReqRecord) : Hand where
  ring := if s.ringOk r then Fin.ofNat 4 r.ring.toNat else 0
  tag := r.tag
  frame := 0

/-- A fetched request of a known kind: the header checks of R149 after the kind, then the kind's own meaning. -/
def State.request (r : ReqRecord) (body : ReqRecord → Hand → State → State) (s : State) : State :=
  match s.fetched with
  | none => s
  | some s1 =>
    if s1.ringOk r && headerOk r then body r (s1.replyHand r) s1
    else s1.failRequest (s1.replyHand r) .badField

/-- A fetched request whose kind code names no kind (R149, step 2). -/
def State.unknownKind (kind : Byte) (r : ReqRecord) (s : State) : State :=
  if kindKnown kind then s
  else
    match s.fetched with
    | none => s
    | some s1 => s1.failRequest (s1.replyHand r) .badKind

/-! ### NOP -/

/-- A NOP that passed its header checks (R151). -/
def nopBody (r : ReqRecord) (h : Hand) (s : State) : State :=
  if reservedOk r [] then s.finishRequest h .ok 0 0 else s.failRequest h .badField

/-! ### Queries -/

/-- The result address of a query (10.3). -/
def resultAddr (r : ReqRecord) : Nat := reqField r 0x10 8

/-- The checks every query shares: reserved fields, and a result address that is a multiple of 64 (R152). -/
def queryOk (r : ReqRecord) (used : Nat) : Bool := reservedOk r [(0x08, used), (0x10, 8)] && resultAddr r % 64 == 0

/-- Issue the result write and wait for its end (R152); with bus mastering disabled it ends with error at once, and the
query completes with MEMORY_ERROR (R195). -/
def State.writeResult (r : ReqRecord) (h : Hand) (bytes : List Byte) (s : State) : State :=
  if s.cfg.busMaster then
    let s1 := s.issueWrite .resultWrite (BitVec.ofNat 64 (resultAddr r)) bytes
    { s1 with proc := { s1.proc with st := .waitingMemory, hand := some { h with frame := s.now } } }
  else s.failRequest h .memoryError

/-- The QHWY result (R154, R203). -/
def qhwyBytes (s : State) (h : HwyId) : List Byte :=
  let p := s.hwys[h]
  layoutBytes 64
    [(0x00, 1, h.val), (0x01, 1, bit (s.hwyEnabled h)), (0x02, 1, p.slotCount), (0x03, 1, p.align.code),
     (0x04, 4, s.now.toNat), (0x08, 1, p.subst.toNat), (0x09, 1, p.idle.toNat), (0x0A, 1, p.correctRun),
     (0x0B, 1, p.misRun), (0x0C, 1, p.silence), (0x0D, 1, p.age), (0x0E, 1, p.unread.length),
     (0x0F, 1, bit p.last.isSome + 2 * bit p.latch), (0x10, 2, p.deletes), (0x12, 2, p.repeats),
     (0x14, 2, p.misframes), (0x16, 2, budgetUsed s.hwys)]

/-- QHWY's clearing (R60, R61). -/
def Highway.clear (p : Highway) : Highway := { p with deletes := 0, repeats := 0, misframes := 0, latch := false }

/-- A QHWY that passed its header checks (R152, R154). -/
def qhwyBody (r : ReqRecord) (h : Hand) (s : State) : State :=
  if queryOk r 1 && reqByte r 0x08 ≤ 15 then
    let hw := reqHwy r 0x08
    let s1 := if r.clear then s.setHwy hw s.hwys[hw].clear else s
    s1.writeResult r h (qhwyBytes s hw)
  else s.failRequest h .badField

/-- The live and the stale operations of a channel in flight. -/
def State.opCount (s : State) (c : ChanId) (m : OpMark) : Nat :=
  s.link.ops.countP fun o => o.kind.chan? == some c && o.mark == m

/-- The staged entry code of QCHAN (10.6). -/
def entryCode : Option ChanEntry → Nat
  | none => 0
  | some (.openEntry _) => 1
  | some .closeEntry => 2
  | some (.reslotEntry _ _) => 3

/-- The lookahead code of QCHAN: none, host-owned, device-owned (10.6). -/
def lookaheadCode : Option Lookahead → Nat
  | none => 0
  | some l => if l.owned.isSome then 2 else 1

/-- The fault cause code of QCHAN, 0 for none (10.4). -/
def causeCode : Option FaultCause → Nat
  | none => 0
  | some k => k.code

/-- A field of the current copy, 0 when none is held (10.6). -/
def curField (f : Current → Nat) : Option Current → Nat
  | none => 0
  | some cur => f cur

/-- The fields of a channel record that precede its slot list (R155, R203). -/
def qchanFields (s : State) (c : ChanId) : List FieldVal :=
  let ch := s.chans[c]
  [(0x00, 1, c.val + 0x80 * bit (decide (ch.dir = .tx))),
   (0x01, 1, ch.st.code + 8 * entryCode (s.chanEntry c) + 32 * lookaheadCode ch.lookahead),
   (0x02, 1, bit ch.current.isSome + 2 * curField (fun k => bit k.late) ch.current +
      4 * curField (fun k => bit k.sourceLost) ch.current + 8 * bit ch.latch + 16 * causeCode ch.cause),
   (0x03, 1, ch.hwy.val + 16 * ch.complRing.val), (0x04, 4, s.now.toNat), (0x08, 1, ch.idle.toNat),
   (0x09, 1, min 15 (s.opCount c .live) + 16 * min 15 (s.opCount c .stale)),
   (0x0A, 2, min 1023 ch.queue.length + 1024 * ch.slots.length), (0x0C, 2, ch.ringSize), (0x0E, 2, ch.pos),
   (0x10, 2, curField (fun k => k.desc.index) ch.current), (0x12, 2, curField (fun k => k.desc.frames) ch.current),
   (0x14, 2, curField (fun k => k.moved) ch.current),
   (0x16, 2, match ch.lookahead with | some l => l.index | none => 0), (0x18, 4, ch.starved), (0x1C, 4, ch.late)]

/-- The QCHAN result: the fields, then the slot list laid out as in the OPEN body (R155, R203). -/
def qchanBytes (s : State) (c : ChanId) : List Byte :=
  layoutBytes 0x20 (qchanFields s c) ++ (List.range 32).map fun k => BitVec.ofNat 8 (s.chans[c].slots.getD k 0)

/-- QCHAN's clearing (R81). -/
def Chan.clear (ch : Chan) : Chan := { ch with starved := 0, late := 0, latch := false }

def State.setChan (c : ChanId) (ch : Chan) (s : State) : State := { s with chans := s.chans.set c ch }

/-- A QCHAN that passed its header checks (R152, R155). -/
def qchanBody (r : ReqRecord) (h : Hand) (s : State) : State :=
  if queryOk r 1 && reqByte r 0x08 ≤ 127 then
    let c := reqChan r
    let s1 := if r.clear then s.setChan c s.chans[c].clear else s
    s1.writeResult r h (qchanBytes s c)
  else s.failRequest h .badField

/-- The QSLOT result (R156, R203). -/
def qslotBytes (s : State) (h : HwyId) (n : Nat) : List Byte :=
  let a := ((s.activeDriver h n).getD .none).codes
  let p := s.prospective none h n
  layoutBytes 64
    [(0x00, 1, h.val), (0x01, 1, n), (0x02, 1, p.2.code), (0x04, 4, s.now.toNat), (0x08, 1, a.1), (0x09, 1, a.2.1),
     (0x0A, 1, a.2.2), (0x0C, 1, p.1.codes.1), (0x0D, 1, p.1.codes.2.1), (0x0E, 1, p.1.codes.2.2),
     (0x10, 2, s.mc.count)]

/-- A QSLOT that passed its header checks (R152, R156).  The manual does not order R152's check of the result address against
R156's checks of highway and slot: BAD_FIELD comes first (DESIGN CHOICE, log entry 31). -/
def qslotBody (r : ReqRecord) (h : Hand) (s : State) : State :=
  if queryOk r 2 && reqByte r 0x08 ≤ 15 && reqByte r 0x09 ≤ 127 then
    match s.slotCheck (reqHwy r 0x08) (reqByte r 0x09) with
    | some st => s.failRequest h st
    | none => s.writeResult r h (qslotBytes s (reqHwy r 0x08) (reqByte r 0x09))
  else s.failRequest h .badField

/-- The selector's code and selected source code (10.6, QTIME). -/
def Selector.codes : Selector → Nat × Nat
  | .freerun => (0, 0)
  | .acquiring s => (1, s.code)
  | .locked s => (2, s.code)
  | .holdover => (3, 0)

/-- A candidate entry of the STATE view at an offset (10.6); the pulse gap of a highway candidate is 0. -/
def candFields (off : Nat) (c : Cand) : List FieldVal :=
  let gap := match c.src with | .hwy _ => 0 | .ref _ => c.gap
  let w := c.window.getD { events := 0, arrivals := 0 }
  [(off, 1, c.src.code + 64 * c.st.code), (off + 1, 1, gap + 4 * bit c.drift + 8 * bit c.window.isSome),
   (off + 2, 2, w.events), (off + 4, 2, w.arrivals), (off + 6, 3, c.qualCount), (off + 9, 3, c.qualTime)]

/-- The QTIME STATE view (R157, R203). -/
def qtimeStateBytes (t : Timing) : List Byte :=
  layoutBytes 64
    ([(0x00, 1, 1), (0x01, 1, t.sel.codes.1), (0x02, 1, t.sel.codes.2), (0x03, 1, t.cands.length + 0x80 * bit t.valid),
      (0x04, 4, t.counter.toNat), (0x08, 2, t.acquire), (0x0A, 2, t.lockedRun), (0x0C, 4, t.elapsed)] ++
      (t.cands.mapIdx fun k c => candFields (0x10 + 12 * k) c).flatten)

/-- The QTIME CONFIG view (R157, R203). -/
def qtimeConfigBytes (t : Timing) : List Byte :=
  layoutBytes 64
    ([(0x00, 1, 2), (0x01, 1, t.cands.length), (0x02, 1, bit t.revertive), (0x04, 4, t.counter.toNat),
      (0x08, 1, t.qualifyTime), (0x09, 1, t.wtr), (0x0A, 2, t.holdLimit), (0x0C, 1, t.driftLimit),
      (0x0D, 1, t.exportSel.codes.1), (0x0E, 1, t.exportSel.codes.2)] ++
      t.cands.mapIdx fun k c => (0x10 + k, 1, c.src.code))

/-- A QTIME that passed its header checks (R152, R157). -/
def qtimeBody (r : ReqRecord) (h : Hand) (s : State) : State :=
  if queryOk r 1 && (reqByte r 0x08 == 1 || reqByte r 0x08 == 2) then
    s.writeResult r h (if reqByte r 0x08 = 1 then qtimeStateBytes s.tim else qtimeConfigBytes s.tim)
  else s.failRequest h .badField

/-- The end of a query's result write (R152). -/
def State.resultEnd (accepted : Bool) (s : State) : State :=
  match s.proc.hand with
  | some h =>
    if accepted then s.finishRequest h .ok h.frame.toNat 0 else s.failRequest h .memoryError
  | none => s

end Sys2Proof.Machine
end

