-- ==== Sys2Proof/Machine/Completions.lean ====
section
/-! DEFINITION. The completion writer's side of a RING_HEAD write (08_completions_and_notification.md): the head count, the
records that fill returned space, and arming. -/

namespace Sys2Proof.Machine

/-! ### The tests of every register write -/

/-- A write of all four bytes of a writable register other than CONTROL: it is ignored while the device is RESETTING, or
when a bit outside `legal` is set, and is taken by its rule otherwise (R181, tests 1 and 5). -/
def State.regWrite (legal value : Word32) (rule : State → State) (s : State) : State :=
  if s.dev.st = .resetting then s.regError .resetBusy
  else if value &&& ~~~legal ≠ 0 then s.regError .writeReserved
  else rule s

/-! ### Returned space -/

/-- The OVERFLOW record takes the first returned position: it carries the missed count, which is set to 0 (R171). -/
def State.placeOverflow (n : RingId) (s : State) : State :=
  if 0 < (s.ring n).missed ∧ (s.ring n).full = false then
    (s.setRing n { s.ring n with missed := 0 }).place n (.overflow (s.ring n).missed s.now)
  else s

/-- A held REQUEST_DONE takes the next: the processor goes on as after an accepted record (R171). -/
def State.placeHeld (n : RingId) (s : State) : State :=
  match (s.ring n).held with
  | some d =>
    if (s.ring n).full then s
    else (s.setRing n { s.ring n with held := none }).placeDone n d
  | none => s

/-- The completion writer fills the space that has returned to a ring, for as long as it lasts (R171). -/
def State.fillSpace (n : RingId) (s : State) : State := (s.placeOverflow n).placeHeld n

/-! ### Head writes -/

/-- The bits of a RING_HEAD value that may be set: the head count and ARM (section 9.1). -/
def headBits : Word32 := 0x0001FFFF

/-- The head count a RING_HEAD value carries. -/
def headCount (value : Word32) : Count16 := value.setWidth 16

/-- The ARM flag of a RING_HEAD value. -/
def headArm (value : Word32) : Bool := value.getLsbD 16

/-- How far a head write moves the head count (R173). -/
def Ring.advance (r : Ring) (value : Word32) : Nat := (headCount value - r.head).toNat

/-- A head write carrying ARM: with nothing unconsumed the ring becomes armed; otherwise its notification is sent at once
and it is left disarmed (R175). -/
def State.judgeArm (n : RingId) (s : State) : State :=
  if (s.ring n).unconsumed = 0 then s.setRing n { s.ring n with armed := true }
  else (s.setRing n { s.ring n with armed := false }).notify n

/-- An accepted head write: the head count, the returned space, then ARM, unless the records placed have halted the device
(R174, R178). -/
def State.takeHead (n : RingId) (value : Word32) (s : State) : State :=
  let s1 := s.setRing n { s.ring n with head := headCount value }
  let s2 := if (s.ring n).advance value = 0 then s1 else s1.fillSpace n
  if headArm value && s2.isOnline then s2.judgeArm n else s2

/-- Whether a head write is refused in ONLINE: the register names no ring, or the advance goes past the unconsumed
records (R173). -/
def State.headRefused (n : RingId) (value : Word32) (s : State) : Bool :=
  s.comp.ringCount ≤ n.val || (s.ring n).unconsumed < (s.ring n).advance value

/-- A RING_HEAD write by its own rule (R173, R174). -/
def State.headRule (n : RingId) (value : Word32) (s : State) : State :=
  if s.dev.st ≠ .online then s.regError .headState
  else if s.headRefused n value then s.regError .headRange
  else s.takeHead n value

/-- A RING_HEAD write (R173 to R175, R181). -/
def State.ringHeadWrite (n : RingId) (value : Word32) (s : State) : State :=
  s.regWrite headBits value (State.headRule n value)

/-! ### The two fillings as steps of their own -/

/-- OVERFLOW: the record is placed when the ring has space and a missed count (R171). -/
def State.overflowStep (n : RingId) (s : State) : State := if s.isOnline then s.placeOverflow n else s

/-- HELD_RECORD_PLACED: the held record is placed when the ring has space left after the OVERFLOW (R171). -/
def State.heldStep (n : RingId) (s : State) : State :=
  if s.isOnline ∧ (s.ring n).missed = 0 then s.placeHeld n else s

end Sys2Proof.Machine
end

