-- ==== Sys2Proof/Machine/Device.lean ====
section
/-! DEFINITION. The device states and the register window (09_start_up_control_and_faults.md): START, STOP, RESET, power-on
reset, the end of the setup read, entry to HALTED, register reads and writes, and the ends of STOPPING and RESETTING. -/

namespace Sys2Proof.Machine

/-! ### The processor and the rings at the device's changes -/

/-- A STOP drops a held REQUEST_DONE and counts it (R177). -/
def Ring.stopHeld (r : Ring) : Ring := if r.held.isSome then r.unheld.miss else r

/-! ### START -/

/-- The setup block address (R183). -/
def Device.setupAddr (d : Device) : Addr := d.setupHigh ++ d.setupLow

/-- A START has failed: OFFLINE with its cause, nothing taken (R188). -/
def State.startFails (c : Cause) (s : State) : State :=
  if s.dev.st = .starting then { s with dev := { s.dev with st := .offline, cause := c } } else s

/-- START: the setup read is issued; with bus mastering disabled it ends with error at once (R184, R187, R195). -/
def State.startRule (s : State) : State :=
  if s.dev.st ≠ .offline then s.regError .startState
  else if s.dev.setupAddr.toNat % 64 = 0 then
    let s1 : State := { s with dev := { s.dev with st := .starting, cause := .none, lastError := .none } }
    if s.cfg.busMaster then s1.issueRead .setupRead s.dev.setupAddr 64 else s1.startFails .setupError
  else { s with dev := { s.dev with cause := .setupInvalid, lastError := .none } }

/-- A ring of the layout with the values of R162 (R180). -/
def SetupBlock.ring (b : SetupBlock) (n : Nat) : Ring :=
  { Ring.reset with base := BitVec.ofNat 64 (b.bases.getD n 0), size := b.sizes.getD n 0 }

/-- The first START after power-on reset that reaches ONLINE sets the counter's start value (R115). -/
def Timing.takePreset (preset : Nat) (t : Timing) : Timing :=
  if t.presetTaken then t else { t with counter := t.counter + BitVec.ofNat 32 preset, presetTaken := true }

/-- A valid setup block makes the device ONLINE (R188). -/
def State.goOnline (b : SetupBlock) (s : State) : State :=
  { s with
    dev := { s.dev with st := .online }
    proc := { st := .idle, tail := 0, consumed := 0, ringBase := BitVec.ofNat 64 b.reqBase, ringSize := b.reqSize,
              hand := none }
    comp := { ringCount := b.ringCount, eventRing := Fin.ofNat 4 b.eventRing, rings := Vector.ofFn fun n => b.ring n.val }
    tim := s.tim.takePreset b.preset }

/-- The setup read has ended with data, which only STARTING takes (R188; DEDUCED, log entry 24). -/
def State.setupData (bytes : List Byte) (s : State) : State :=
  if s.dev.st = .starting ∧ setupOk (parseSetup bytes) = true then s.goOnline (parseSetup bytes)
  else s.startFails .setupInvalid

/-! ### STOP -/

/-- The request processor at a STOP taken in ONLINE: in IDLE and in WAITING_SPACE the request in hand ends at once, and
with it the staging set is emptied; a held REQUEST_DONE is dropped and counted (R40, R158, R177). -/
def State.stopProcessor (s : State) : State :=
  match s.proc.st with
  | .idle => { s with proc := s.proc.halted, mc := s.mc.emptied }
  | .waitingSpace =>
    { s with proc := s.proc.halted, mc := s.mc.emptied,
             comp := { s.comp with rings := s.comp.rings.map Ring.stopHeld } }
  | .stopped => s
  | .fetching => s
  | .executing => s
  | .waitingFrame => s
  | .waitingMemory => s

/-- A STOP taken in ONLINE (R189). -/
def State.stopOnline (s : State) : State :=
  ({ s with dev := { s.dev with stopPending := true } }).stopProcessor

/-- A STOP taken in HALTED (R192). -/
def State.stopHalted (s : State) : State :=
  { s with
    dev := { s.dev with st := .stopping }
    mc := s.mc.emptied
    map := clearMap s.map
    chans := s.chans.map Chan.stopHalted }

/-- STOP (R184). -/
def State.stopRule (s : State) : State :=
  match s.dev.st with
  | .online => if s.dev.stopPending then s.regError .stopState else s.stopOnline
  | .halted => s.stopHalted
  | .offline => s.regError .stopState
  | .starting => s.regError .stopState
  | .stopping => s.regError .stopState
  | .resetting => s.regError .stopState

/-! ### RESET and power-on reset -/

/-- A device reset (R193). -/
def State.deviceReset (s : State) : State :=
  { s with
    dev := { s.dev with st := .resetting, stopPending := false, cause := .none, lastError := .none }
    link := s.link.drop
    proc := .reset
    comp := .reset
    mc := .reset
    map := Vector.replicate 16 []
    hwys := s.hwys.map Highway.deviceReset
    chans := Vector.replicate 128 .reset
    tim := s.tim.deviceReset }

/-- Power-on reset: every block at its power-on values; the commands that wait and the number of the free values, both the
model's own, stay (R185; log entries 1 and 27). -/
def State.powerOn (s : State) : State := { State.reset with pending := s.pending, frames := s.frames }

/-! ### Configuration space and the setup registers -/

/-- A host write to configuration space changes the three items the link interface holds (R185). -/
def State.configWrite (busMaster messages : Bool) (vectors : Nat) (s : State) : State :=
  { s with cfg := { busMaster := busMaster, messages := messages, vectors := vectors } }

/-- A SETUP_LOW or SETUP_HIGH write by its own rule (R183). -/
def State.setupRule (high : Bool) (value : Word32) (s : State) : State :=
  if s.dev.st ≠ .offline then s.regError .setupState
  else if high then { s with dev := { s.dev with setupHigh := value } }
  else { s with dev := { s.dev with setupLow := value } }

/-- A SETUP_LOW or SETUP_HIGH write: no bit of either is marked zero (R181, R183). -/
def State.setupWrite (high : Bool) (value : Word32) (s : State) : State :=
  s.regWrite 0xFFFFFFFF value (State.setupRule high value)

/-! ### REQUEST_TAIL -/

/-- The outstanding records of a tail count (R143). -/
def Processor.outstanding (p : Processor) (tail : Count16) : Nat := (tail - p.consumed).toNat

/-- Whether a tail write is refused in ONLINE (R143). -/
def Processor.tailRefused (p : Processor) (tail : Count16) : Bool :=
  p.ringSize < p.outstanding tail || p.outstanding tail < p.outstanding p.tail

/-- Whether the processor issues a fetch by itself now: IDLE, no STOP taken, and the counts differ (R146, R158). -/
def State.canFetch (s : State) : Bool :=
  s.isOnline && decide (s.proc.st = .idle) && !s.dev.stopPending && decide (s.proc.tail ≠ s.proc.consumed)

/-- REQUEST_FETCH: the fetch is issued when the processor is ready for it (R146). -/
def State.fetchStep (s : State) : State := if s.canFetch then s.fetch else s

/-- An accepted tail write: the tail count, and in IDLE the fetch it starts (R143, R146). -/
def State.takeTail (tail : Count16) (s : State) : State :=
  ({ s with proc := { s.proc with tail := tail } }).fetchStep

/-- A REQUEST_TAIL write by its own rule (R143). -/
def State.tailRule (value : Word32) (s : State) : State :=
  if s.dev.st ≠ .online then s.regError .tailState
  else if s.proc.tailRefused (value.setWidth 16) then s.regError .tailRange
  else s.takeTail (value.setWidth 16)

/-- A REQUEST_TAIL write (R143, R181). -/
def State.tailWrite (value : Word32) (s : State) : State := s.regWrite 0x0000FFFF value (State.tailRule value)

/-! ### The window -/

/-- A CONTROL write that passes tests 2 to 4: a bit outside bits 2:0, no command or more than one is CONTROL_INVALID
(R181, R184). -/
def State.controlWrite (value : Word32) (s : State) : State :=
  if value = 1 then s.startRule
  else if value = 2 then s.stopRule
  else if value = 4 then s.deviceReset
  else s.regError .controlInvalid

/-- Whether a write touches no register but CONTROL (R181, test 1; DEDUCED, log entry 16). -/
def controlOnly (offset len : Nat) : Bool := 4 ≤ offset && offset + len ≤ 8

/-- Whether a write covers all four bytes of one register of the window and nothing else (R181, test 2; DEDUCED, log entry 16). -/
def coversRegister (offset len : Nat) : Bool := len == 4 && offset % 4 == 0

/-- A write to the window, tested in order and then taken by the rule of its register (R181). -/
def State.windowWrite (offset len : Nat) (value : Word32) (s : State) : State :=
  if s.dev.st = .resetting ∧ controlOnly offset len = false then s.regError .resetBusy
  else if coversRegister offset len = false then s.regError .writeWidth
  else if 0x024 < offset then s.regError .writeUnmapped
  else if offset = 0x000 ∨ offset = 0x008 then s.regError .writeReadOnly
  else if offset = 0x004 then s.controlWrite value
  else if offset = 0x00C then s.setupWrite false value
  else if offset = 0x010 then s.setupWrite true value
  else if offset = 0x014 then s.tailWrite value
  else s.ringHeadWrite (Fin.ofNat 4 ((offset - 0x018) / 4)) value

/-- STATUS (section 9.1, R182). -/
def State.statusReg (s : State) : Word32 :=
  BitVec.ofNat 32 (s.dev.st.code + 0x8 * bit s.dev.stopPending + 0x10 * s.proc.st.code + 0x80 * s.dev.cause.code +
    0x400 * s.dev.lastError.code + 0x10000 * s.proc.consumed.toNat)

/-- What the 32-bit register at an offset reads as (R181, R183).  A read has no effect on the part. -/
def State.readReg (s : State) (offset : Nat) : Word32 :=
  if offset = 0x000 then Config.idRegister
  else if offset = 0x008 then s.statusReg
  else if offset = 0x00C then s.dev.setupLow
  else if offset = 0x010 then s.dev.setupHigh
  else 0

/-- What a read of the window returns, for a read of any width: the bytes at the offset, lowest first (R181). -/
def State.readWindow (s : State) (offset len : Nat) : List Byte :=
  (List.range len).map fun i =>
    BitVec.ofNat 8 ((s.readReg (4 * ((offset + i) / 4))).toNat / 256 ^ ((offset + i) % 4))

/-! ### The ends of STOPPING and RESETTING -/

/-- Whether no operation of any block, live or stale, is in flight. -/
def State.quiet (s : State) : Bool := s.link.ops.isEmpty

def State.allClosed (s : State) : Bool := s.chans.all fun ch => decide (ch.st = .closed)

/-- STOPPING ends when every channel is CLOSED and nothing is in flight; the cause is kept (R190). -/
def State.stoppingEnd (s : State) : State :=
  if s.dev.st = .stopping ∧ s.allClosed = true ∧ s.quiet = true then { s with dev := { s.dev with st := .offline } }
  else s

/-- RESETTING ends when nothing is in flight (R194). -/
def State.resettingEnd (s : State) : State :=
  if s.dev.st = .resetting ∧ s.quiet = true then { s with dev := { s.dev with st := .offline } } else s

end Sys2Proof.Machine
end

