-- ==== Sys2Proof/Machine/Ends.lean ====
section
/-! DEFINITION. The ends of host memory operations (section 9.3), each taken by its issuer, and what a command's work ends
with: the ends of STOPPING and RESETTING. -/

namespace Sys2Proof.Machine

/-! ### Failures -/

/-- A channel takes the failure of one of its live operations (R85, R86). -/
def State.chanFails (c : ChanId) (k : Option ChanOpKind) (timeout : Bool) (s : State) : State :=
  s.chanEvent c (s.chans[c].failure (s.chanEnv c) k timeout)

/-- The issuer takes the failure of a live operation that is in flight no more (the table after R198). -/
def State.fails (k : OpKind) (timeout : Bool) (s : State) : State :=
  match k with
  | .setupRead => s.startFails .setupError
  | .requestFetch => s.halt .requestFetch
  | .resultWrite => s.resultEnd false
  | .recordWrite _ => s.halt .completionWrite
  | .descRead c _ => s.chanFails c k.cause? timeout
  | .dataRead c _ => s.chanFails c k.cause? timeout
  | .dataWrite c _ => s.chanFails c k.cause? timeout
  | .writeBack c _ _ => s.chanFails c k.cause? timeout
  | .flushRead c _ => s.chanFails c k.cause? timeout

/-- The end of an operation whose issuer or the link interface discards it: only the list of operations in flight has
changed, on which a closing channel may wait (R69, R85, R196). -/
def State.discarded (o : Op) (s : State) : State :=
  match o.mark, o.kind.chan? with
  | .stale, some c =>
    let r := s.chanPump c
    r.1.takePosts r.2
  | .stale, none => s
  | .live, _ => s
  | .dropped, _ => s

/-- An operation in flight ends in error or timeout (R195). -/
def State.failOp (id : Nat) (timeout : Bool) (s : State) : State :=
  match s.findOp id with
  | some o =>
    match o.mark with
    | .live => (s.endOp id).fails o.kind timeout
    | .stale => (s.endOp id).discarded o
    | .dropped => (s.endOp id).discarded o
  | none => s

/-- The end of an operation that is not live is discarded (R69, R192, R196). -/
def State.staleEnd (id : Nat) (s : State) : State :=
  match s.findOp id with
  | some o =>
    match o.mark with
    | .live => s
    | .stale => (s.endOp id).discarded o
    | .dropped => (s.endOp id).discarded o
  | none => s

/-! ### What a command's work ends with -/

/-- STOPPING and RESETTING end at the moment their conditions hold (R190, R194). -/
def State.finish (s : State) : State := s.stoppingEnd.resettingEnd

/-- A command's own work, and the ends of STOPPING and RESETTING that it brings about. -/
def done (s : State) : Host.Outcome State Fault Refusal := .next s.finish

/-! ### The ends, by row -/

/-- The end of the setup read (R188). -/
def State.setupReadEnd (e : ReadEnd) (s : State) : State :=
  match s.liveOpOf .setupRead with
  | some o =>
    match e with
    | .data bytes => (s.endOp o.id).setupData bytes
    | .error => s.failOp o.id false
    | .timeout => s.failOp o.id true
  | none => s

/-- A request fetch ends in error or timeout (R146). -/
def State.fetchFails (timeout : Bool) (s : State) : State :=
  match s.liveOpOf .requestFetch with
  | some o => s.failOp o.id timeout
  | none => s

/-- The end of a query's result write (R152). -/
def State.resultWriteEnd (e : WriteEnd) (s : State) : State :=
  match s.liveOpOf .resultWrite with
  | some o =>
    match e with
    | .accepted => (s.endOp o.id).resultEnd true
    | .error => s.failOp o.id false
    | .timeout => s.failOp o.id true
  | none => s

/-- A read of a channel has ended: with data by `take`, otherwise as a failure. -/
def State.chanReadEnd (id : Nat) (c : ChanId) (e : ReadEnd) (take : Chan → ChanEnv → List Byte → ChanOut)
    (s : State) : State :=
  match e with
  | .data bytes =>
    let s1 := s.endOp id
    s1.chanEvent c (take s1.chans[c] (s1.chanEnv c) bytes)
  | .error => s.failOp id false
  | .timeout => s.failOp id true

/-- A write of a channel has ended: accepted by `take`, otherwise as a failure. -/
def State.chanWriteEnd (id : Nat) (c : ChanId) (e : WriteEnd) (take : Chan → ChanEnv → ChanOut) (s : State) : State :=
  match e with
  | .accepted =>
    let s1 := s.endOp id
    s1.chanEvent c (take s1.chans[c] (s1.chanEnv c))
  | .error => s.failOp id false
  | .timeout => s.failOp id true

/-- The end of a live descriptor read (R72, R77, R80). -/
def State.descriptorReadEnd (id : Nat) (e : ReadEnd) (s : State) : State :=
  match (s.liveOp id).map Op.kind with
  | some (.descRead c i) => s.chanReadEnd id c e fun ch env bytes => ch.descEnd env i bytes
  | _ => s

/-- The end of a live data read (R75, R76). -/
def State.dataReadEnd (id : Nat) (e : ReadEnd) (s : State) : State :=
  match (s.liveOp id).map Op.kind with
  | some (.dataRead c seq) => s.chanReadEnd id c e fun ch _ bytes => ch.dataEnd seq bytes
  | _ => s

/-- The end of a live data write (R74, R79). -/
def State.dataWriteEnd (id : Nat) (e : WriteEnd) (s : State) : State :=
  match (s.liveOp id).map Op.kind with
  | some (.dataWrite c i) => s.chanWriteEnd id c e fun ch _ => ch.dataAccepted i
  | _ => s

/-- The end of a live write-back (R79, R84, R109). -/
def State.writeBackEnd (id : Nat) (e : WriteEnd) (s : State) : State :=
  match (s.liveOp id).map Op.kind with
  | some (.writeBack c w flush) => s.chanWriteEnd id c e fun ch env => ch.writeBackAccepted env w flush
  | _ => s

/-- The end of a live flush read (R84). -/
def State.flushReadEnd (id : Nat) (e : ReadEnd) (s : State) : State :=
  match (s.liveOp id).map Op.kind with
  | some (.flushRead c i) => s.chanReadEnd id c e fun ch env bytes => ch.flushEnd env i bytes
  | _ => s

/-- The end of a completion record write (R178). -/
def State.completionWriteEnd (id : Nat) (e : WriteEnd) (s : State) : State :=
  match (s.liveOp id).map Op.kind with
  | some (.recordWrite _) =>
    match e with
    | .accepted => s.endOp id
    | .error => s.failOp id false
    | .timeout => s.failOp id true
  | _ => s

/-! ### What a channel goes on to, as steps of their own -/

/-- A step of a channel that its state allows now; otherwise nothing (DEDUCED, log entries 4 and 5). -/
def State.chanStepIf (c : ChanId) (can : Chan → ChanEnv → Bool) (step : Chan → ChanEnv → ChanOut) (s : State) : State :=
  if can s.chans[c] (s.chanEnv c) then s.chanEvent c (step s.chans[c] (s.chanEnv c)) else s

/-- WRITE_BACK_ISSUE (R79). -/
def State.writeBackIssue (c : ChanId) (s : State) : State := s.chanStepIf c Chan.canWriteBack Chan.issueWriteBack

/-- Whether a deferred lookahead read may be issued: its index has left the queue (R77). -/
def Chan.canLookahead (ch : Chan) (_env : ChanEnv) : Bool :=
  ch.deferred && decide (ch.st = .running) &&
    match ch.current with
    | some cur => !ch.inQueue (ch.nextIndex cur.desc.index)
    | none => false

/-- DEFERRED_LOOKAHEAD_READ (R77). -/
def State.deferredRead (c : ChanId) (s : State) : State := s.chanStepIf c Chan.canLookahead Chan.issueDeferred

/-- PRIMING_READ (R72). -/
def State.primingRead (c : ChanId) (s : State) : State := s.chanStepIf c Chan.canPrime Chan.issuePriming

/-- FLUSH_WALK (R84). -/
def State.flushWalk (c : ChanId) (s : State) : State := s.chanStepIf c (fun ch _ => ch.canWalk) Chan.beginWalk

/-- CHAN_CLOSED (R85). -/
def State.chanCloses (c : ChanId) (s : State) : State := s.chanStepIf c Chan.canClose Chan.finishClose

end Sys2Proof.Machine
end

