-- ==== Sys2Proof/Machine/FrameEvent.lean ====
section
/-! DEFINITION. The device frame event (R114): the work of every block that acts at it, in one step, and the occurrences at
it that the manual names as steps. -/

namespace Sys2Proof.Machine

/-! ### The parts of the event -/

/-- The receive side of every port at the event (R54, R58). -/
def State.hwyTicks (s : State) : Vector HwyTick 16 := Vector.ofFn fun h => s.hwys[h].frameTick s.isOnline h

/-- The highways that leave ALIGNED for silence at the event (R54). -/
def State.silentHwys (s : State) : List HwyId := (List.finRange 16).filter fun h => s.hwys[h].fallsSilent

/-- The losses by silence taken before the timing unit's work (R123). -/
def State.lossesBefore (o : FrameOrder) (s : State) : List HwyId :=
  o.before.dedup.filter fun h => s.silentHwys.contains h

/-- The losses by silence taken after it: first those the order names, then the rest in number order (R123). -/
def State.lossesAfter (o : FrameOrder) (s : State) : List HwyId :=
  let left := s.silentHwys.filter fun h => !o.before.contains h
  let named := o.after.dedup.filter fun h => left.contains h
  named ++ left.filter fun h => !named.contains h

/-- The timing unit at the event, its counter advanced already (R123, R131). -/
def State.timingTick (o : FrameOrder) (s : State) : Timing × List TimOcc :=
  s.tim.frameEvent s.aligned (s.lossesBefore o) (s.lossesAfter o)

/-- The device frame counter advances (R115), and with it the number of the free values (log entry 27). -/
def State.advanceCounter (s : State) : State :=
  { s with tim := { s.tim with counter := s.tim.counter + 1 }, frames := s.frames + 1 }

/-- The event begins: the counter advances, and if it is the STOP clear event the device enters STOPPING, the map is
cleared and the channels close, before any other work of the event (R18, R90, R115, R189; DEDUCED, log entry 21). -/
def State.beginEvent (s : State) : State :=
  let s1 := s.advanceCounter
  if s1.stopClearDue then s1.stopClear else s1

/-- A channel does its work at the event: the RUNNING and STARVED ones have any (R33, R74, R75, R80). -/
def Chan.moves (ch : Chan) : Bool := decide (ch.st = .running) || decide (ch.st = .starved)

/-- The channels' work at the event, one channel after another in number order, with the records each hands on.  The
manual gives no order between channels: number order (DESIGN CHOICE, log entry 28). -/
def State.moveChans (reads : Vector ReadFrame 16) (cs : List ChanId) (s : State) : State × List (List Post) :=
  cs.foldl
    (fun a c =>
      let r := a.1.chanAct c (a.1.chans[c].frame (a.1.chanEnv c) reads[a.1.chans[c].hwy])
      (r.1, a.2 ++ [r.2]))
    (s, [])

/-- The channels that have work at the event. -/
def State.movers (s : State) : List ChanId := (List.finRange 128).filter fun c => s.chans[c].moves

/-- The event after its beginning: the highway ports and the timing unit, the apply of a COMMIT in flight, the send frames,
the channels, and then the records of all of them in one of the orders the manual allows (R32, R33, R172; log entry 9).
That all blocks have done their work, the issue of operations with it, before the first record is taken is a DESIGN CHOICE,
log entry 6.  By it a slip sets its highway's latch (R60), and an entry into STARVED its channel's (R81), in a device that is
ONLINE when the block does its work, also where the record is then not handed because an earlier record of the event has
halted the device, as can be with bus mastering disabled (DESIGN CHOICE, log entry 6). -/
def State.runEvent (o : FrameOrder) (s : State) : State :=
  let ticks := s.hwyTicks
  let reads : Vector ReadFrame 16 := ticks.map HwyTick.frame
  let t := s.timingTick o
  let s1 : State := { s with hwys := ticks.map HwyTick.port, tim := t.1 }
  let hwyPosts := ticks.toList.map fun k => k.events.flatMap fun e => eventPost s.isOnline s.now e
  let a : State × List Post := if s.mc.inFlight then s1.applySet o else (s1, [])
  let s2 := a.1.sendFrames reads
  let m := s2.moveChans reads s2.movers
  m.1.takePosts (merge o.picks (hwyPosts ++ [timingPosts s.isOnline s.now t.2] ++ [a.2] ++ m.2))

/-- One device frame event (R114). -/
def State.frameEvent (o : FrameOrder) (s : State) : State := s.beginEvent.runEvent o

/-! ### The occurrences at the event -/

/-- What comes about in the timing unit at the next device frame event. -/
def State.timingOccs (o : FrameOrder) (s : State) : List TimOcc := (s.beginEvent.timingTick o).2

/-- The device frame event at which a named thing comes about: the command is the whole event, and it does not take place
when the thing is not due at it (DEDUCED, log entries 3 and 5). -/
def State.eventIf (due : Bool) (o : FrameOrder) (s : State) : State := if due then s.frameEvent o else s

/-- APPLY (R32). -/
def State.applyEvent (o : FrameOrder) (s : State) : State := s.eventIf s.mc.inFlight o

/-- STOP_CLEAR_EVENT (R189). -/
def State.stopClearEvent (o : FrameOrder) (s : State) : State := s.eventIf s.stopClearDue o

/-- HWY_SILENCE (R54). -/
def State.silenceEvent (h : HwyId) (o : FrameOrder) (s : State) : State := s.eventIf s.hwys[h].fallsSilent o

/-- HWY_LOST (R54). -/
def State.lostEvent (h : HwyId) (o : FrameOrder) (s : State) : State := s.eventIf s.hwys[h].getsLost o

/-- REFERENCE_LOSS (R119). -/
def State.refLossEvent (r : RefInput) (o : FrameOrder) (s : State) : State :=
  s.eventIf ((s.timingOccs o).contains (.refLoss r)) o

/-- DRIFT_WINDOW_END (R120). -/
def State.windowEndEvent (src : Source) (o : FrameOrder) (s : State) : State :=
  s.eventIf ((s.timingOccs o).contains (.windowEnd src)) o

/-- CANDIDATE_QUALIFIED (R122). -/
def State.qualifiedEvent (src : Source) (o : FrameOrder) (s : State) : State :=
  s.eventIf ((s.timingOccs o).contains (.qualified src)) o

/-- Whether an occurrence is the selector's entry to LOCKED. -/
def TimOcc.isLocked : TimOcc → Bool
  | .locked _ => true
  | _ => false

/-- Whether an occurrence is a higher candidate taken back. -/
def TimOcc.isRestore : TimOcc → Bool
  | .restore _ => true
  | _ => false

/-- SELECT_LOCKED (R126). -/
def State.lockedEvent (o : FrameOrder) (s : State) : State := s.eventIf ((s.timingOccs o).any TimOcc.isLocked) o

/-- HOLDOVER_VALID (R127). -/
def State.validEvent (o : FrameOrder) (s : State) : State := s.eventIf ((s.timingOccs o).contains .holdoverValid) o

/-- HOLDOVER_LIMIT (R129). -/
def State.holdLimitEvent (o : FrameOrder) (s : State) : State := s.eventIf ((s.timingOccs o).contains .holdoverLimit) o

/-- WAIT_TO_RESTORE (R130). -/
def State.restoreEvent (o : FrameOrder) (s : State) : State := s.eventIf ((s.timingOccs o).any TimOcc.isRestore) o

/-- A pulse on REFA or REFB (R119, R120, R137). -/
def State.pulse (r : RefInput) (s : State) : State := { s with tim := s.tim.refPulse r }

end Sys2Proof.Machine
end

