-- ==== Sys2Proof/Machine/RegisterCommands.lean ====
section
/-! DEFINITION. The meanings of power-on reset, configuration space writes and register writes (chapter 9, with R143 and
R173). -/

namespace Sys2Proof.Machine

/-- POWER_ON_RESET (R185). -/
def execPowerOnReset (s : State) : Host.Outcome State Fault Refusal := done s.powerOn

/-- CONFIGURATION_SPACE_WRITE (R185). -/
def execConfigurationSpaceWrite (busMaster messages : Bool) (vectors : Nat) (s : State) : Host.Outcome State Fault Refusal :=
  done (s.configWrite busMaster messages vectors)

/-- START (R184, R187). -/
def execStart (s : State) : Host.Outcome State Fault Refusal := done s.startRule

/-- STOP (R184, R189, R192). -/
def execStop (s : State) : Host.Outcome State Fault Refusal := done s.stopRule

/-- RESET (R184, R193). -/
def execReset (s : State) : Host.Outcome State Fault Refusal := done s.deviceReset

/-- SETUP_ADDRESS_WRITE (R181, R183). -/
def execSetupAddressWrite (high : Bool) (value : Word32) (s : State) : Host.Outcome State Fault Refusal :=
  done (s.setupWrite high value)

/-- REQUEST_TAIL (R143, R181). -/
def execRequestTail (value : Word32) (s : State) : Host.Outcome State Fault Refusal := done (s.tailWrite value)

/-- RING_HEAD (R173 to R175, R181). -/
def execRingHead (n : RingId) (value : Word32) (s : State) : Host.Outcome State Fault Refusal :=
  done (s.ringHeadWrite n value)

/-- REGISTER_WRITE: any write to the window (R181). -/
def execRegisterWrite (offset len : Nat) (value : Word32) (s : State) : Host.Outcome State Fault Refusal :=
  done (s.windowWrite offset len value)

end Sys2Proof.Machine
end

