-- ==== Sys2Proof/Machine/RequestCommands.lean ====
section
/-! DEFINITION. The meanings of the setup read's end, the fetch, the request kinds and the end of a query's result write
(chapters 7 and 9). -/

namespace Sys2Proof.Machine

/-- SETUP_READ_END (R188). -/
def execSetupReadEnd (e : ReadEnd) (s : State) : Host.Outcome State Fault Refusal := done (s.setupReadEnd e)

/-- REQUEST_FETCH (R146). -/
def execRequestFetch (s : State) : Host.Outcome State Fault Refusal := done s.fetchStep

/-- REQUEST_FETCH_ERROR (R146). -/
def execRequestFetchError (timeout : Bool) (s : State) : Host.Outcome State Fault Refusal :=
  done (s.fetchFails timeout)

/-- BAD_KIND (R149). -/
def execBadKind (kind : Byte) (r : ReqRecord) (s : State) : Host.Outcome State Fault Refusal :=
  done (s.unknownKind kind r)

/-- NOP, fetched (R151). -/
def execNop (r : ReqRecord) (s : State) : Host.Outcome State Fault Refusal := done (s.request r nopBody)

/-- SETHWY, fetched (R46 to R49). -/
def execSethwy (r : ReqRecord) (s : State) : Host.Outcome State Fault Refusal := done (s.request r sethwyBody)

/-- CONNECT, fetched (R12 to R15). -/
def execConnect (r : ReqRecord) (s : State) : Host.Outcome State Fault Refusal := done (s.request r connectBody)

/-- DISCONNECT, fetched (R16). -/
def execDisconnect (r : ReqRecord) (s : State) : Host.Outcome State Fault Refusal := done (s.request r disconnectBody)

/-- OPEN, fetched (R26, R27, R70, R71). -/
def execOpen (r : ReqRecord) (s : State) : Host.Outcome State Fault Refusal := done (s.request r openBody)

/-- CLOSE, fetched (R28). -/
def execClose (r : ReqRecord) (s : State) : Host.Outcome State Fault Refusal := done (s.request r closeBody)

/-- RESLOT, fetched (R29). -/
def execReslot (r : ReqRecord) (s : State) : Host.Outcome State Fault Refusal := done (s.request r reslotBody)

/-- COMMIT, fetched (R31). -/
def execCommit (r : ReqRecord) (s : State) : Host.Outcome State Fault Refusal := done (s.request r commitBody)

/-- DISCARD, fetched (R39). -/
def execDiscard (r : ReqRecord) (s : State) : Host.Outcome State Fault Refusal := done (s.request r discardBody)

/-- SETREF, fetched (R132 to R136). -/
def execSetref (r : ReqRecord) (s : State) : Host.Outcome State Fault Refusal := done (s.request r setrefBody)

/-- QHWY, fetched (R152, R154). -/
def execQhwy (r : ReqRecord) (s : State) : Host.Outcome State Fault Refusal := done (s.request r qhwyBody)

/-- QCHAN, fetched (R152, R155). -/
def execQchan (r : ReqRecord) (s : State) : Host.Outcome State Fault Refusal := done (s.request r qchanBody)

/-- QSLOT, fetched (R152, R156). -/
def execQslot (r : ReqRecord) (s : State) : Host.Outcome State Fault Refusal := done (s.request r qslotBody)

/-- QTIME, fetched (R152, R157). -/
def execQtime (r : ReqRecord) (s : State) : Host.Outcome State Fault Refusal := done (s.request r qtimeBody)

/-- RESULT_WRITE_END (R152). -/
def execResultWriteEnd (e : WriteEnd) (s : State) : Host.Outcome State Fault Refusal := done (s.resultWriteEnd e)

end Sys2Proof.Machine
end

