-- ==== Sys2Proof/Machine/EventCommands.lean ====
section
/-! DEFINITION. The meanings of the device frame event and what comes about at it, of frame arrivals and of reference
pulses (chapters 3 and 6). -/

namespace Sys2Proof.Machine

/-- DEVICE_FRAME_EVENT (R114). -/
def execDeviceFrameEvent (o : FrameOrder) (s : State) : Host.Outcome State Fault Refusal := done (s.frameEvent o)

/-- APPLY: the device frame event after a COMMIT was taken (R32). -/
def execApply (o : FrameOrder) (s : State) : Host.Outcome State Fault Refusal := done (s.applyEvent o)

/-- STOP_CLEAR_EVENT (R18, R90, R189). -/
def execStopClearEvent (o : FrameOrder) (s : State) : Host.Outcome State Fault Refusal := done (s.stopClearEvent o)

/-- FRAME_ARRIVAL (R51). -/
def execFrameArrival (h : HwyId) (bytes : Frame) (sinceEnable : Bool) (s : State) : Host.Outcome State Fault Refusal :=
  done (s.arrival h bytes sinceEnable)

/-- HWY_SILENCE (R54). -/
def execHwySilence (h : HwyId) (o : FrameOrder) (s : State) : Host.Outcome State Fault Refusal :=
  done (s.silenceEvent h o)

/-- HWY_LOST (R54). -/
def execHwyLost (h : HwyId) (o : FrameOrder) (s : State) : Host.Outcome State Fault Refusal := done (s.lostEvent h o)

/-- REFERENCE_PULSE (R119). -/
def execReferencePulse (r : RefInput) (s : State) : Host.Outcome State Fault Refusal := done (s.pulse r)

/-- REFERENCE_LOSS (R119). -/
def execReferenceLoss (r : RefInput) (o : FrameOrder) (s : State) : Host.Outcome State Fault Refusal :=
  done (s.refLossEvent r o)

/-- DRIFT_WINDOW_END (R120). -/
def execDriftWindowEnd (src : Source) (o : FrameOrder) (s : State) : Host.Outcome State Fault Refusal :=
  done (s.windowEndEvent src o)

/-- CANDIDATE_QUALIFIED (R122). -/
def execCandidateQualified (src : Source) (o : FrameOrder) (s : State) : Host.Outcome State Fault Refusal :=
  done (s.qualifiedEvent src o)

/-- SELECT_LOCKED (R126). -/
def execSelectLocked (o : FrameOrder) (s : State) : Host.Outcome State Fault Refusal := done (s.lockedEvent o)

/-- HOLDOVER_VALID (R127). -/
def execHoldoverValid (o : FrameOrder) (s : State) : Host.Outcome State Fault Refusal := done (s.validEvent o)

/-- HOLDOVER_LIMIT (R129). -/
def execHoldoverLimit (o : FrameOrder) (s : State) : Host.Outcome State Fault Refusal := done (s.holdLimitEvent o)

/-- WAIT_TO_RESTORE (R130). -/
def execWaitToRestore (o : FrameOrder) (s : State) : Host.Outcome State Fault Refusal := done (s.restoreEvent o)

end Sys2Proof.Machine
end

