-- ==== Sys2Proof/Machine/OperationCommands.lean ====
section
/-! DEFINITION. The meanings of the ends of host memory operations (chapters 4, 5, 8 and 9). -/

namespace Sys2Proof.Machine

/-- OPERATION_TIMEOUT: the issuer takes the end (R195). -/
def execOperationTimeout (id : Nat) (s : State) : Host.Outcome State Fault Refusal := done (s.failOp id true)

/-- LATE_ANSWER: discarded; no second end, and its data are not used (R195; log entry 26). -/
def execLateAnswer (_id : Nat) (_e : OpEnd) (s : State) : Host.Outcome State Fault Refusal := .next s

/-- DESCRIPTOR_READ_END (R72, R77, R80). -/
def execDescriptorReadEnd (id : Nat) (e : ReadEnd) (s : State) : Host.Outcome State Fault Refusal :=
  done (s.descriptorReadEnd id e)

/-- DATA_READ_END (R75, R76). -/
def execDataReadEnd (id : Nat) (e : ReadEnd) (s : State) : Host.Outcome State Fault Refusal :=
  done (s.dataReadEnd id e)

/-- DATA_WRITE_END (R74, R79). -/
def execDataWriteEnd (id : Nat) (e : WriteEnd) (s : State) : Host.Outcome State Fault Refusal :=
  done (s.dataWriteEnd id e)

/-- WRITE_BACK_END (R79, R109). -/
def execWriteBackEnd (id : Nat) (e : WriteEnd) (s : State) : Host.Outcome State Fault Refusal :=
  done (s.writeBackEnd id e)

/-- FLUSH_READ_END (R84). -/
def execFlushReadEnd (id : Nat) (e : ReadEnd) (s : State) : Host.Outcome State Fault Refusal :=
  done (s.flushReadEnd id e)

/-- STALE_OPERATION_END (R69, R196). -/
def execStaleOperationEnd (id : Nat) (_e : OpEnd) (s : State) : Host.Outcome State Fault Refusal :=
  done (s.staleEnd id)

/-- COMPLETION_WRITE_END (R178). -/
def execCompletionWriteEnd (id : Nat) (e : WriteEnd) (s : State) : Host.Outcome State Fault Refusal :=
  done (s.completionWriteEnd id e)

end Sys2Proof.Machine
end

