-- ==== Sys2Proof/Machine/OwnSteps.lean ====
section
/-! DEFINITION. The meanings of the steps the part takes by itself when its state allows them (chapters 4, 8 and 9). -/

namespace Sys2Proof.Machine

/-- WRITE_BACK_ISSUE (R79). -/
def execWriteBackIssue (c : ChanId) (s : State) : Host.Outcome State Fault Refusal := done (s.writeBackIssue c)

/-- DEFERRED_LOOKAHEAD_READ (R77). -/
def execDeferredLookaheadRead (c : ChanId) (s : State) : Host.Outcome State Fault Refusal := done (s.deferredRead c)

/-- PRIMING_READ (R72). -/
def execPrimingRead (c : ChanId) (s : State) : Host.Outcome State Fault Refusal := done (s.primingRead c)

/-- FLUSH_WALK (R84). -/
def execFlushWalk (c : ChanId) (s : State) : Host.Outcome State Fault Refusal := done (s.flushWalk c)

/-- CHAN_CLOSED (R85). -/
def execChanClosed (c : ChanId) (s : State) : Host.Outcome State Fault Refusal := done (s.chanCloses c)

/-- OVERFLOW (R171). -/
def execOverflow (n : RingId) (s : State) : Host.Outcome State Fault Refusal := done (s.overflowStep n)

/-- HELD_RECORD_PLACED (R171). -/
def execHeldRecordPlaced (n : RingId) (s : State) : Host.Outcome State Fault Refusal := done (s.heldStep n)

/-- STOPPING_END (R190). -/
def execStoppingEnd (s : State) : Host.Outcome State Fault Refusal := done s.stoppingEnd

/-- RESETTING_END (R194). -/
def execResettingEnd (s : State) : Host.Outcome State Fault Refusal := done s.resettingEnd

end Sys2Proof.Machine
end

