-- ==== Sys2Proof/Machine/Dispatch.lean ====
section
/-! DEFINITION. Dispatch: one arm per command, each one direct call of its meaning. -/

namespace Sys2Proof.Machine

def exec (i : Instr) (s : State) : Host.Outcome State Fault Refusal :=
  match i with
  | .powerOnReset => Sys2Proof.Machine.execPowerOnReset s
  | .configurationSpaceWrite busMaster messages vectors => Sys2Proof.Machine.execConfigurationSpaceWrite busMaster messages vectors s
  | .start => Sys2Proof.Machine.execStart s
  | .stop => Sys2Proof.Machine.execStop s
  | .reset => Sys2Proof.Machine.execReset s
  | .setupAddressWrite high value => Sys2Proof.Machine.execSetupAddressWrite high value s
  | .requestTail value => Sys2Proof.Machine.execRequestTail value s
  | .ringHead ring value => Sys2Proof.Machine.execRingHead ring value s
  | .registerWrite offset len value => Sys2Proof.Machine.execRegisterWrite offset len value s
  | .setupReadEnd e => Sys2Proof.Machine.execSetupReadEnd e s
  | .requestFetch => Sys2Proof.Machine.execRequestFetch s
  | .requestFetchError timeout => Sys2Proof.Machine.execRequestFetchError timeout s
  | .badKind kind r => Sys2Proof.Machine.execBadKind kind r s
  | .nop r => Sys2Proof.Machine.execNop r s
  | .sethwy r => Sys2Proof.Machine.execSethwy r s
  | .connect r => Sys2Proof.Machine.execConnect r s
  | .disconnect r => Sys2Proof.Machine.execDisconnect r s
  | .openChannel r => Sys2Proof.Machine.execOpen r s
  | .closeChannel r => Sys2Proof.Machine.execClose r s
  | .reslot r => Sys2Proof.Machine.execReslot r s
  | .commit r => Sys2Proof.Machine.execCommit r s
  | .discard r => Sys2Proof.Machine.execDiscard r s
  | .setref r => Sys2Proof.Machine.execSetref r s
  | .qhwy r => Sys2Proof.Machine.execQhwy r s
  | .qchan r => Sys2Proof.Machine.execQchan r s
  | .qslot r => Sys2Proof.Machine.execQslot r s
  | .qtime r => Sys2Proof.Machine.execQtime r s
  | .resultWriteEnd e => Sys2Proof.Machine.execResultWriteEnd e s
  | .deviceFrameEvent o => Sys2Proof.Machine.execDeviceFrameEvent o s
  | .apply o => Sys2Proof.Machine.execApply o s
  | .stopClearEvent o => Sys2Proof.Machine.execStopClearEvent o s
  | .frameArrival h bytes sinceEnable => Sys2Proof.Machine.execFrameArrival h bytes sinceEnable s
  | .hwySilence h o => Sys2Proof.Machine.execHwySilence h o s
  | .hwyLost h o => Sys2Proof.Machine.execHwyLost h o s
  | .referencePulse r => Sys2Proof.Machine.execReferencePulse r s
  | .referenceLoss r o => Sys2Proof.Machine.execReferenceLoss r o s
  | .driftWindowEnd src o => Sys2Proof.Machine.execDriftWindowEnd src o s
  | .candidateQualified src o => Sys2Proof.Machine.execCandidateQualified src o s
  | .selectLocked o => Sys2Proof.Machine.execSelectLocked o s
  | .holdoverValid o => Sys2Proof.Machine.execHoldoverValid o s
  | .holdoverLimit o => Sys2Proof.Machine.execHoldoverLimit o s
  | .waitToRestore o => Sys2Proof.Machine.execWaitToRestore o s
  | .operationTimeout id => Sys2Proof.Machine.execOperationTimeout id s
  | .lateAnswer id e => Sys2Proof.Machine.execLateAnswer id e s
  | .descriptorReadEnd id e => Sys2Proof.Machine.execDescriptorReadEnd id e s
  | .dataReadEnd id e => Sys2Proof.Machine.execDataReadEnd id e s
  | .dataWriteEnd id e => Sys2Proof.Machine.execDataWriteEnd id e s
  | .writeBackEnd id e => Sys2Proof.Machine.execWriteBackEnd id e s
  | .flushReadEnd id e => Sys2Proof.Machine.execFlushReadEnd id e s
  | .staleOperationEnd id e => Sys2Proof.Machine.execStaleOperationEnd id e s
  | .completionWriteEnd id e => Sys2Proof.Machine.execCompletionWriteEnd id e s
  | .writeBackIssue c => Sys2Proof.Machine.execWriteBackIssue c s
  | .deferredLookaheadRead c => Sys2Proof.Machine.execDeferredLookaheadRead c s
  | .primingRead c => Sys2Proof.Machine.execPrimingRead c s
  | .flushWalk c => Sys2Proof.Machine.execFlushWalk c s
  | .chanClosed c => Sys2Proof.Machine.execChanClosed c s
  | .overflow ring => Sys2Proof.Machine.execOverflow ring s
  | .heldRecordPlaced ring => Sys2Proof.Machine.execHeldRecordPlaced ring s
  | .stoppingEnd => Sys2Proof.Machine.execStoppingEnd s
  | .resettingEnd => Sys2Proof.Machine.execResettingEnd s

end Sys2Proof.Machine
end

