-- ==== Sys2Proof/Safety.lean ====
section
/-! DEFINITION. The terms the statements use: when nothing is left to come about within a moment, what a REQUEST_DONE leaves
behind, and the invariants that every step keeps. -/

namespace Sys2Proof.Machine

/-! ### Moments -/

/-- Operations are sent: bus mastering is enabled (R195). -/
def Linked (s : State) : Prop := s.cfg.busMaster = true

/-- Nothing is left to come about within the moment: neither STOPPING nor RESETTING has reached its end (R190, R194). -/
def Settled (s : State) : Prop :=
  ¬(s.dev.st = .stopping ∧ (∀ c : ChanId, s.chans[c].st = .closed) ∧ s.link.ops = []) ∧
    ¬(s.dev.st = .resetting ∧ s.link.ops = [])

/-- STOPPING is over when every channel is CLOSED and nothing is in flight, RESETTING when nothing is in flight (R190,
R194). -/
def ended (s : State) : State :=
  if s.dev.st = .stopping ∧ (∀ c : ChanId, s.chans[c].st = .closed) ∧ s.link.ops = [] ∨
      s.dev.st = .resetting ∧ s.link.ops = [] then
    { s with dev := { s.dev with st := .offline } }
  else s

/-- The state with the code of an ignored register write (R182). -/
def withError (e : RegError) (s : State) : State := { s with dev := { s.dev with lastError := e } }

/-! ### Requests -/

/-- The fetch `f` of a request is in flight in ONLINE, and operations are sent. -/
structure Fetching (f : Op) (s : State) : Prop where
  linked : Linked s
  online : s.dev.st = .online
  fetching : s.proc.st = .fetching
  inFlight : s.liveOpOf .requestFetch = some f

/-- A request's header passes its checks (R149). -/
def HeaderPasses (r : ReqRecord) (s : State) : Prop :=
  r.ring.toNat < s.comp.ringCount ∧ r.flags.toNat < 4 ∧ r.reserved = 0

/-- A number of `n` bytes in a record, low byte first (R200). -/
def le (n v : Nat) : List Byte := (List.range n).map fun i => BitVec.ofNat 8 (v / 256 ^ i)

/-- Each kind of request with what its body must be: 0 outside its fields, each field in its range (10.3), the codes of a
slot list and of a reference list distinct and 0 beyond the count (R12, R16, R46, R70, R132, R149, R151, R152). -/
def bodyRanges (ringCount : Nat) (r : ReqRecord) : List (Instr × Bool) :=
  let slotFields : Bool := reqByte r 0x0A ≤ 15 && 1 ≤ reqByte r 0x0B && reqByte r 0x0B ≤ 32 &&
    decide (∀ k < reqByte r 0x0B, reqByte r (0x18 + k) ≤ 127) &&
    decide (∀ k < reqByte r 0x0B, ∀ j < k, reqByte r (0x18 + j) ≠ reqByte r (0x18 + k)) &&
    (List.range 32).all fun k => k < reqByte r 0x0B || reqByte r (0x18 + k) == 0
  [(.nop r, reservedOk r []), (.commit r, reservedOk r []), (.discard r, reservedOk r []),
    (.sethwy r, reservedOk r [(0x08, 5)] && reqByte r 0x08 ≤ 15 && reqByte r 0x09 ≤ 1 &&
      (reqByte r 0x0A == 32 || reqByte r 0x0A == 64 || reqByte r 0x0A == 128)),
    (.connect r, reservedOk r [(0x08, 6)] && reqByte r 0x08 ≤ 15 && reqByte r 0x09 ≤ 127 &&
      (reqByte r 0x0A == 1 && reqByte r 0x0B ≤ 15 && reqByte r 0x0C ≤ 127 && reqByte r 0x0D == 0 ||
        reqByte r 0x0A == 2 && reqByte r 0x0B == 0 && reqByte r 0x0C == 0)),
    (.disconnect r, reservedOk r [(0x08, 2)] && reqByte r 0x08 ≤ 15 && reqByte r 0x09 ≤ 127),
    (.openChannel r, reservedOk r [(0x08, 48)] && reqByte r 0x08 ≤ 127 &&
      (reqByte r 0x09 == 1 && reqByte r 0x0C == 0 || reqByte r 0x09 == 2) && slotFields &&
      2 ≤ reqField r 0x0E 2 && reqField r 0x0E 2 ≤ 1024 && reqField r 0x10 8 % 32 == 0 &&
      reqByte r 0x0D < ringCount),
    (.closeChannel r, reservedOk r [(0x08, 1)] && reqByte r 0x08 ≤ 127),
    (.reslot r, reservedOk r [(0x08, 1), (0x0A, 2), (0x18, 32)] && reqByte r 0x08 ≤ 127 && slotFields),
    (.setref r, reservedOk r [(0x08, 9), (0x14, 4)] && reqByte r 0x08 ≤ 4 && reqByte r 0x09 ≤ 1 &&
      decide (∀ k < reqByte r 0x08, 0x10 ≤ reqByte r (0x14 + k) ∧ reqByte r (0x14 + k) ≤ 0x21) &&
      decide (∀ k < reqByte r 0x08, ∀ j < k, reqByte r (0x14 + j) ≠ reqByte r (0x14 + k)) &&
      ((List.range 4).all fun k => k < reqByte r 0x08 || reqByte r (0x14 + k) == 0) &&
      1 ≤ reqByte r 0x0A && 1 ≤ reqByte r 0x0E && reqByte r 0x0E ≤ 64 &&
      (reqByte r 0x0F ≤ 1 && reqByte r 0x10 == 0 ||
        reqByte r 0x0F == 2 && decide (∃ k < reqByte r 0x08, reqByte r (0x14 + k) = reqByte r 0x10))),
    (.qhwy r, reservedOk r [(0x08, 1), (0x10, 8)] && reqField r 0x10 8 % 64 == 0 && reqByte r 0x08 ≤ 15),
    (.qchan r, reservedOk r [(0x08, 1), (0x10, 8)] && reqField r 0x10 8 % 64 == 0 && reqByte r 0x08 ≤ 127),
    (.qslot r, reservedOk r [(0x08, 2), (0x10, 8)] && reqField r 0x10 8 % 64 == 0 && reqByte r 0x08 ≤ 15 &&
      reqByte r 0x09 ≤ 127),
    (.qtime r, reservedOk r [(0x08, 1), (0x10, 8)] && reqField r 0x10 8 % 64 == 0 &&
      (reqByte r 0x08 == 1 || reqByte r 0x08 == 2))]

/-- The request `c`, whose record is `r`, passes its body checks. -/
def BodyPasses (c : Instr) (r : ReqRecord) (s : State) : Prop := (c, true) ∈ bodyRanges s.comp.ringCount r

/-- The ring a request's header names. -/
def ringOf (r : ReqRecord) : RingId := Fin.ofNat 4 r.ring.toNat

/-- The fetch `f` has ended with data: it is in flight no more, and the consumed count has advanced (R144, R146). -/
def inHand (f : Op) (s : State) : State :=
  { s with
    proc := { s.proc with consumed := s.proc.consumed + 1 }
    link := { s.link with ops := s.link.ops.filter fun o => o.id != f.id } }

/-- The write of a record into a ring, as an operation in flight (R163). -/
def recordOp (id : Nat) (n : RingId) (r : Ring) (rec : Record) : Op :=
  { id := id, kind := .recordWrite n, mark := .live, addr := r.base + BitVec.ofNat 64 (16 * (r.produced.toNat % r.size)),
    len := 16, data := rec.bytes ((r.produced.toNat / r.size) % 2 == 0) }

/-- The fetch of the record at the consumed count's position, as an operation in flight (R142, R146). -/
def fetchOp (id : Nat) (p : Processor) : Op :=
  { id := id, kind := .requestFetch, mark := .live,
    addr := p.ringBase + BitVec.ofNat 64 (64 * (p.consumed.toNat % p.ringSize)), len := 64, data := [] }

/-- The messages that a notification of ring `n` sends (R175, R198). -/
def messagesOf (c : ConfigSpace) (n : RingId) : List Nat :=
  if c.messages then [if c.vectors < n.val + 1 then 0 else n.val] else []

/-- The ring after one more record: the produced count advances, and an armed ring is disarmed (R163, R175). -/
def Ring.placed (r : Ring) : Ring := { r with produced := r.produced + 1, armed := false }

/-- The state with one more record in ring `n`, which has free space: the record's write is in flight, and an armed ring
has been notified (R163, R164, R175). -/
def afterPlace (n : RingId) (rec : Record) (s : State) : State :=
  { s with
    comp := { s.comp with rings := s.comp.rings.set n (s.comp.rings[n]).placed }
    link := { s.link with
      ops := s.link.ops ++ [recordOp s.link.nextId n s.comp.rings[n] rec]
      nextId := s.link.nextId + 1
      messages := s.link.messages ++ (if s.comp.rings[n].armed then messagesOf s.cfg n else []) } }

/-- The request processor once the writer has accepted or dropped a REQUEST_DONE: STOPPED with the set emptied after a
STOP, IDLE when the counts are equal, and otherwise FETCHING the next record (R40, R146, R147, R158). -/
def afterRequest (s : State) : State :=
  if s.dev.stopPending then
    { s with proc := { s.proc with st := .stopped, hand := none }, mc := { s.mc with targets := [], entries := [] } }
  else if s.proc.tail = s.proc.consumed then { s with proc := { s.proc with st := .idle, hand := none } }
  else
    { s with
      proc := { s.proc with st := .fetching, hand := none }
      link := { s.link with ops := s.link.ops ++ [fetchOp s.link.nextId s.proc], nextId := s.link.nextId + 1 } }

/-- The ring after one more record dropped: its missed count saturates (R169). -/
def Ring.dropped (r : Ring) : Ring := { r with missed := if r.missed < 65535 then r.missed + 1 else r.missed }

/-- What the handing of a REQUEST_DONE leaves behind: in a ring with space it is placed; in a full ring it is held, or
after a STOP dropped and counted (R168, R170, R177). -/
def afterDone (n : RingId) (d : ReqDone) (s : State) : State :=
  if s.comp.rings[n].unconsumed < s.comp.rings[n].size then afterRequest (afterPlace n (.requestDone d) s)
  else if s.dev.stopPending then
    afterRequest { s with comp := { s.comp with rings := s.comp.rings.set n s.comp.rings[n].dropped } }
  else
    { s with
      comp := { s.comp with rings := s.comp.rings.set n { s.comp.rings[n] with held := some d } }
      proc := { s.proc with st := .waitingSpace, hand := none } }

/-- A request completes with a status and a value (R148). -/
def answer (r : ReqRecord) (st : Status) (value : Nat) (s : State) : State :=
  afterDone (ringOf r) { status := st, consumed := s.proc.consumed, tag := r.tag, value := value, frame := 0 } s

/-- A COMMIT, or the implicit one of IMMEDIATE, is in flight and the processor waits for the apply (R31, R38). -/
def waitFrame (r : ReqRecord) (s : State) : State :=
  { s with
    mc := { s.mc with inFlight := true }
    proc := { s.proc with st := .waitingFrame, hand := some { ring := ringOf r, tag := r.tag, frame := 0 } } }

/-- The number of entries in the staging set (R21). -/
def entryCount (s : State) : Nat := s.mc.targets.length + s.mc.entries.length

/-- A staging request has changed the set: it completes with the entry count, or with IMMEDIATE takes a COMMIT of the set
unless that is empty (R30, R38). -/
def answerStaged (r : ReqRecord) (st : Status) (s : State) : State :=
  if r.flags.getLsbD 0 = true ∧ entryCount s ≠ 0 then waitFrame r s else answer r st (entryCount s) s

/-- A query has issued its result write and waits for its end (R152). -/
def waitMemory (r : ReqRecord) (bytes : List Byte) (s : State) : State :=
  { s with
    proc := { s.proc with
      st := .waitingMemory
      hand := some { ring := ringOf r, tag := r.tag, frame := s.tim.counter } }
    link := { s.link with
      ops := s.link.ops ++ [{ id := s.link.nextId, kind := .resultWrite, mark := .live,
                              addr := BitVec.ofNat 64 (reqField r 0x10 8), len := bytes.length, data := bytes }]
      nextId := s.link.nextId + 1 } }

/-- A BUFFER_DONE or EVENT record offered to ring `n`: placed, or in a full ring dropped and counted (R168, R169). -/
def afterOffer (n : RingId) (rec : Record) (s : State) : State :=
  if s.comp.rings[n].unconsumed < s.comp.rings[n].size then afterPlace n rec s
  else { s with comp := { s.comp with rings := s.comp.rings.set n s.comp.rings[n].dropped } }

/-- An event, handed to the event ring while the device is ONLINE (R167, R168). -/
def afterEvent (e : Event) (s : State) : State :=
  if s.dev.st = .online then afterOffer s.comp.eventRing (.event e s.tim.counter) s else s

/-! ### Frames and channels -/

/-- The device is ONLINE and operations are sent. -/
structure Working (s : State) : Prop where
  linked : Linked s
  online : s.dev.st = .online

/-- The frame a port hands on at a device frame event (R54, R58). -/
def readFrame (p : Highway) : Frame :=
  if p.align = .aligned ∧ p.silence + 1 < 4 then
    match p.unread with
    | f :: _ => f
    | [] => p.last.getD (List.replicate p.slotCount p.subst)
  else List.replicate p.slotCount p.subst

/-- The frame a port hands on is the substitute frame (R58). -/
def substituted (p : Highway) : Bool :=
  !decide (p.align = .aligned ∧ p.silence + 1 < 4) || p.unread.isEmpty && p.last.isNone

/-- The state with one more operation in flight (R195). -/
def issued (k : OpKind) (addr : Addr) (len : Nat) (data : List Byte) (s : State) : State :=
  { s with link := { s.link with
      ops := s.link.ops ++ [{ id := s.link.nextId, kind := k, mark := .live, addr := addr, len := len, data := data }]
      nextId := s.link.nextId + 1 } }

/-- The state with a read of descriptor `i` of channel `c` in flight (R93, R94). -/
def descReadIssued (c : ChanId) (i : Nat) (s : State) : State :=
  issued (.descRead c i) (s.chans[c].ringBase + BitVec.ofNat 64 (32 * i)) 32 [] s

/-- The state with the write-back of an entry in flight (R93, R106). -/
def writeBackIssued (c : ChanId) (e : WbEntry) (flush : Bool) (s : State) : State :=
  issued (.writeBack c e flush) (s.chans[c].ringBase + BitVec.ofNat 64 (32 * e.desc.index)) 12 e.bytes s

/-- The state with a flush read of the descriptor at the ring position of channel `c` in flight (R84). -/
def flushReadIssued (c : ChanId) (s : State) : State :=
  issued (.flushRead c s.chans[c].pos) (s.chans[c].ringBase + BitVec.ofNat 64 (32 * s.chans[c].pos)) 32 [] s

/-- The state with channel `c`'s record replaced. -/
def withChan (c : ChanId) (ch : Chan) (s : State) : State := { s with chans := s.chans.set c ch }

/-- A live operation of channel `c` whose kind is among `p` is in flight (R69). -/
abbrev LiveOf (c : ChanId) (p : OpKind → Prop) (s : State) : Prop :=
  ∃ o ∈ s.link.ops, o.mark = .live ∧ o.kind.chan? = some c ∧ p o.kind

/-- The oldest entry of channel `c`'s queue is written back now: its data writes are accepted, no write-back is in flight,
and the channel is open, or closing with no failure (R79, R85). -/
abbrev WritesBack (c : ChanId) (s : State) : Prop :=
  (∃ e ∈ s.chans[c].queue.head?, e.unaccepted = 0) ∧ ¬LiveOf c (fun k => k.isWriteBack = true) s ∧
    (s.chans[c].st = .priming ∨ s.chans[c].st = .running ∨ s.chans[c].st = .starved ∨
      s.chans[c].st = .closing ∧ s.chans[c].closeFailed = false)

/-- Channel `c` issues its PRIMING read now (R72). -/
abbrev Primes (c : ChanId) (s : State) : Prop :=
  s.chans[c].st = .priming ∧ s.chans[c].queue = [] ∧ s.chans[c].current = none ∧
    ¬LiveOf c (fun k => k.isDescRead = true) s

/-- Channel `c` begins its flush walk now (R84). -/
abbrev Walks (c : ChanId) (s : State) : Prop :=
  s.chans[c].st = .closing ∧ s.chans[c].queue = [] ∧ s.chans[c].walk = .notBegun ∧ s.chans[c].closeFailed = false

/-- Channel `c` becomes CLOSED now (R85). -/
abbrev Closes (c : ChanId) (s : State) : Prop :=
  s.chans[c].st = .closing ∧ s.chans[c].queue = [] ∧ s.chans[c].walk = .ended ∧
    ∀ o ∈ s.link.ops, o.kind.chan? = some c → o.mark = .dropped

/-- What channel `c` goes on to at once: the write-back of its oldest entry, the PRIMING read, the flush walk, or CLOSED
(R72, R79, R84, R85). -/
def wentOn (c : ChanId) (s : State) : State :=
  if WritesBack c s then
    match s.chans[c].queue with
    | e :: _ => writeBackIssued c e false s
    | [] => s
  else if Primes c s then descReadIssued c s.chans[c].pos s
  else if Walks c s then flushReadIssued c (withChan c { s.chans[c] with walk := .walking 0 } s)
  else if Closes c s then withChan c { s.chans[c] with st := .closed } s
  else s

/-- A moment of channel `c`, whose own step has left the state `s`: what it goes on to, then the records it hands on, those
of the step first and CHAN_CLOSED when it closes, and then the end of STOPPING or RESETTING (R85, R190, R194). -/
def moment (c : ChanId) (records : State → State) (s : State) : State :=
  ended (if Closes c s then afterEvent (.chanClosed c s.chans[c].closeFailed) (records (wentOn c s))
    else records (wentOn c s))

/-- A BUFFER_DONE, in ONLINE, for an entry written back whose copy carried NOTIFY (R89, R110). -/
def afterBufferDone (c : ChanId) (e : WbEntry) (s : State) : State :=
  if s.dev.st = .online ∧ e.desc.notify = true then
    afterOffer s.chans[c].complRing (.bufferDone c e.desc.index e.status e.desc.cookie) s
  else s

/-- The entry of a descriptor returned without a frame moved (R107). -/
def unmoved (d : Desc) (st : DescStatus) : WbEntry :=
  { desc := d, status := st, actual := 0, late := false, sourceLost := false, firstFrame := 0, unaccepted := 0 }

/-- The current copy of a descriptor just taken (R72, R108). -/
def freshCopy (d : Desc) : Current :=
  { desc := d, moved := 0, late := false, sourceLost := false, firstFrame := 0, unaccepted := 0 }

/-- A FAULTED channel (R86). -/
def faultedChan (k : FaultCause) (ch : Chan) : Chan :=
  { ch with
    st := .faulted, cause := some k, current := none, lookahead := none, queue := [], ready := none, due := none,
    deferred := false, walk := .notBegun, closeFailed := false }

/-- The live operations of channel `c` have become stale (R69). -/
def staleOf (c : ChanId) (s : State) : State :=
  { s with link := { s.link with
      ops := s.link.ops.map fun o => if o.kind.chan? = some c ∧ o.mark = .live then { o with mark := .stale } else o } }

/-- The operations of channel `c` in flight, in the order of issue (R69). -/
def opsOf (c : ChanId) (s : State) : List Op := s.link.ops.filter fun o => o.kind.chan? == some c

/-- An operation of a channel after a CLOSE, a RESLOT or the STOP clear event: a live read has become stale, and the writes
are as they were (R69, R82, R83). -/
def readStaled (o : Op) : Op := if o.mark = .live ∧ o.kind.isRead = true then { o with mark := .stale } else o

/-- A channel whose binding a CLOSE, a RESLOT or the STOP clear event ends: a current copy with a frame moved has joined the
write-back queue SHORT, one with none is dropped, and so are the lookahead copy and the ready data (R82, R83, R107). -/
def setAside (ch : Chan) : Chan :=
  { ch with
    queue := match ch.current with
      | some cur =>
        if cur.moved = 0 then ch.queue
        else ch.queue ++ [{
          desc := cur.desc, status := .short, actual := cur.moved, late := cur.late, sourceLost := cur.sourceLost
          firstFrame := cur.firstFrame, unaccepted := cur.unaccepted }]
      | none => ch.queue
    current := none, lookahead := none, ready := none, due := none, deferred := false }

/-- From `s` to `t` the reads of channel `c` in flight have become stale, its writes stand, and of its own it has issued the
write-back of the oldest entry of the queue `q` when that entry's data writes are accepted and no write-back is in flight,
or `next` when the queue is empty, and nothing else (R69, R79). -/
def GoesOnTo (c : ChanId) (q : List WbEntry) (next : Op) (s t : State) : Prop :=
  ∃ l, opsOf c t = (opsOf c s).map readStaled ++ l ∧ (l.map fun o => { o with id := 0 }) =
    match q with
    | [] => [next]
    | e :: _ =>
      if e.unaccepted = 0 ∧ ¬LiveOf c (fun k => k.isWriteBack = true) s then
        [{ id := 0, kind := .writeBack c e false, mark := .live
           addr := s.chans[c].ringBase + BitVec.ofNat 64 (32 * e.desc.index), len := 12, data := e.bytes }]
      else []

/-- The host memory operation of 32 bytes that reads the descriptor at the ring position of channel `c`. -/
def posRead (c : ChanId) (k : OpKind) (s : State) : Op :=
  { id := 0, kind := k, mark := .live, addr := s.chans[c].ringBase + BitVec.ofNat 64 (32 * s.chans[c].pos), len := 32
    data := [] }

/-- Channel `c`, open in `s`, has entered CLOSING in `t`: its slots are released, its copies dropped or returned, and it
writes its queue back, or begins the flush walk when there is none (R83, R84). -/
def EntersClosing (c : ChanId) (s t : State) : Prop :=
  let ch := setAside s.chans[c]
  t.chans[c] = { ch with
      st := .closing, slots := [], walk := if ch.queue = [] then .walking 0 else .notBegun, closeFailed := false } ∧
    GoesOnTo c ch.queue (posRead c (.flushRead c s.chans[c].pos) s) s t

/-- Channel `c`, open in `s`, is PRIMING in `t` with the highway and slots of a RESLOT: its copies are dropped or returned,
and it writes its queue back, or issues the PRIMING read when there is none (R36, R72, R82). -/
def Reprimes (c : ChanId) (h : HwyId) (l : List Nat) (s t : State) : Prop :=
  let ch := setAside s.chans[c]
  t.chans[c] = { ch with st := .priming, hwy := h, slots := l } ∧
    GoesOnTo c ch.queue (posRead c (.descRead c s.chans[c].pos) s) s t

/-- The next device frame event is not the STOP clear event (R18, R189). -/
abbrev NoStopClear (s : State) : Prop := ¬(s.dev.stopPending = true ∧ s.proc.st = .stopped ∧ s.mc.inFlight = false)

/-- No apply at the next device frame event touches channel `c` (R32, R33). -/
abbrev Untouched (c : ChanId) (s : State) : Prop := s.mc.inFlight = true → lookupKey c s.mc.entries = none

/-- A record is in ring `n`, its write in flight, or the ring has counted one dropped (R163, R168, R169). -/
def Handed (n : RingId) (rec : Record) (t : State) : Prop :=
  (∃ o ∈ t.link.ops, o.kind = .recordWrite n ∧ ∃ phase, o.data = rec.bytes phase) ∨ 0 < t.comp.rings[n].missed

/-! ### Highways and slots -/

/-- The port after a SETHWY, by what it changes: stored, enabled, disabled, its two bytes alone, or resized (R46, R49,
R55). -/
def sethwyPort (r : ReqRecord) (p : Highway) : Highway :=
  let bytes : Highway := { p with subst := BitVec.ofNat 8 (reqByte r 0x0B), idle := BitVec.ofNat 8 (reqByte r 0x0C) }
  let cleared : Highway :=
    { bytes with slotCount := reqByte r 0x0A, unread := [], last := none, misRun := 0, silence := 0, correctRun := 0 }
  if p.align = .disabled then
    if reqByte r 0x09 = 0 then { bytes with slotCount := reqByte r 0x0A }
    else { bytes with slotCount := reqByte r 0x0A, align := .searching, correctRun := 0, age := 0 }
  else if reqByte r 0x09 = 0 then { cleared with align := .disabled, age := 0 }
  else if reqByte r 0x0A = p.slotCount then bytes
  else if p.align = .lost then cleared
  else { cleared with align := .searching, age := 0 }

/-- The map entries of the highway after a SETHWY (R10). -/
def sethwyMap (r : ReqRecord) (p : Highway) (ds : List Driver) : List Driver :=
  if p.align = .disabled then if reqByte r 0x09 = 0 then ds else List.replicate (reqByte r 0x0A) .none
  else if reqByte r 0x09 = 0 then []
  else if reqByte r 0x0A = p.slotCount then ds
  else List.replicate (reqByte r 0x0A) .none

/-- The claim test of an OPEN or RESLOT of a transmit channel: every slot's prospective driver, with the channel's own
entry left out, is NONE or the channel itself (R25). -/
def claimsPass (s : State) (c : ChanId) (h : HwyId) (l : List Nat) : Bool :=
  l.all fun n => decide ((s.prospective (some c) h n).1 = .none ∨ (s.prospective (some c) h n).1 = .channel c)

/-- The first failure of the highway and slot checks of an OPEN or RESLOT (R71). -/
def slotsFailure (s : State) (c : ChanId) (d : Dir) (h : HwyId) (l : List Nat) : Option Status :=
  if s.hwys[h].align = .disabled then some .noHighway
  else if ∃ n ∈ l, s.hwys[h].slotCount ≤ n then some .noSlot
  else if d = .tx ∧ claimsPass s c h l = false then some .slotBusy
  else none

/-- The target entries left when an OPEN or RESLOT of a transmit channel absorbs those of its slots (R25). -/
def absorbed (d : Dir) (h : HwyId) (l : List Nat) (ts : List (SlotRef × Target)) : List (SlotRef × Target) :=
  if d = .tx then ts.filter fun e => !decide (e.1.hwy = h ∧ e.1.slot ∈ l) else ts

/-! ### Candidates -/

/-- A candidate stays good through the next device frame event: it does not go into loss, its drift fault is clear, and a
window that ends at the event ends within the limit (R118 to R121). -/
def StaysGood (s : State) (c : Cand) : Prop :=
  (match c.src with
   | .hwy h => s.hwys[h].align = .aligned ∧ s.hwys[h].silence + 1 < 4
   | .ref _ => c.gap + 1 < 3) ∧
    c.drift = false ∧
    ∀ w, c.window = some w →
      w.events + 1 < 8000 ∨ (w.arrivals ≤ 8000 + s.tim.driftLimit ∧ 8000 ≤ w.arrivals + s.tim.driftLimit)

/-- The selector when its candidate has failed or been removed: ACQUIRING on the best QUALIFIED candidate, else HOLDOVER
when holdover is valid and the limit in use is above 0, else FREERUN (R127, R128). -/
def fallen (limit : Nat) (t : Timing) : Timing :=
  let t1 : Timing := { t with
    lockedRun := match t.sel with
      | .locked _ => 0
      | _ => t.lockedRun }
  match t.cands.find? fun c => c.st == .qualified with
  | some c => { t1 with sel := .acquiring c.src, acquire := 0 }
  | none =>
    if t.valid = true ∧ 0 < limit then { t1 with sel := .holdover, elapsed := 0 }
    else { t1 with sel := .freerun, valid := false }

/-- The highways of `lost` go into loss: their candidates fail, and the selector falls if its candidate is one of them,
with the holdover limit in force (R118, R123, R128, R134). -/
def afterLoss (lost : HwyId → Bool) (t : Timing) : Timing :=
  let gone (src : Source) : Bool := match src with | .hwy h => lost h | .ref _ => false
  let t1 : Timing := { t with
    cands := t.cands.map fun c => if gone c.src then { c with st := .failed, qualCount := 0, qualTime := 0, window := none }
      else c }
  if t.selected?.any gone then fallen t.limitInForce t1 else t1

/-- The TIMING event of a selector that enters a state (R138). -/
def selectEvent : Selector → TimingEvent
  | .freerun => .selectFreerun
  | .acquiring src => .selectAcquiring src
  | .locked src => .selectLocked src
  | .holdover => .selectHoldover

/-! ### The device -/

/-- The operations in flight have identifiers of their own, all of them given out already: no operation can end twice
(R195). -/
def LinkInv (s : State) : Prop :=
  (s.link.ops.map Op.id).Nodup ∧ ∀ o ∈ s.link.ops, o.id < s.link.nextId

/-- A channel at the entry to HALTED: FAULTED with DEVICE_HALTED, unless it was FAULTED or CLOSED (R86, R88). -/
def haltedChan (ch : Chan) : Chan :=
  if ch.st = .closed ∨ ch.st = .faulted then ch else faultedChan .deviceHalted ch

/-- Entry to HALTED with a cause (R191). -/
def afterHalt (k : Cause) (s : State) : State :=
  { s with
    dev := { s.dev with st := .halted, stopPending := false, cause := k }
    proc := { s.proc with st := .stopped, hand := none }
    comp := { s.comp with rings := s.comp.rings.map fun r => { r with held := none } }
    mc := { s.mc with inFlight := false }
    chans := s.chans.map haltedChan
    link := { s.link with ops := s.link.ops.map fun o => if o.mark = .live then { o with mark := .stale } else o } }

/-- A record offered to ring `n` with bus mastering disabled: in a ring with space it claims its position and halts the
device, no message sent; in a full ring it is dropped and counted (R169, R178, R195). -/
def unsentRecord (n : RingId) (s : State) : State :=
  if s.comp.rings[n].unconsumed < s.comp.rings[n].size then
    afterHalt .completionWrite { s with comp := { s.comp with rings := s.comp.rings.set n s.comp.rings[n].placed } }
  else { s with comp := { s.comp with rings := s.comp.rings.set n s.comp.rings[n].dropped } }

/-- The state without one operation. -/
def without (f : Op) (s : State) : State :=
  { s with link := { s.link with ops := s.link.ops.filter fun o => o.id != f.id } }

/-! ### Invariants -/

/-- A port's fields keep to their ranges, and hold frames only while it is ALIGNED (R45, R46, R52 to R57, R61). -/
def Highway.Ok (p : Highway) : Prop :=
  p.slotCount ∈ [32, 64, 128] ∧ p.unread.length ≤ 2 ∧ p.silence < 4 ∧ p.misRun < 3 ∧ p.correctRun < 2 ∧
    p.age ≤ 64 ∧ (p.align = .searching → p.age < 64) ∧
    (p.align ≠ .aligned → p.unread = [] ∧ p.last = none ∧ p.misRun = 0 ∧ p.silence = 0) ∧
    p.deletes ≤ 65535 ∧ p.repeats ≤ 65535 ∧ p.misframes ≤ 65535

/-- A driver that is a CONNECTION names an input slot of an enabled highway, below its slot count (R4). -/
def sourceStands (s : State) : Driver → Bool
  | .none => true
  | .connection g k => decide (s.hwys[g].align ≠ .disabled ∧ k < s.hwys[g].slotCount)
  | .constant _ => true
  | .channel _ => true

/-- The line side: every port keeps to its ranges, the map has an entry for each slot of each enabled highway and no
other, the enabled slot counts keep to the budget, and every CONNECTION in the staging set names an input slot of an enabled
highway (R1, R4, R13, R45, R47, R48). -/
def LineInv (s : State) : Prop :=
  (∀ h : HwyId, s.hwys[h].Ok ∧
    s.map[h].length = if s.hwys[h].align = .disabled then 0 else s.hwys[h].slotCount) ∧
    budgetUsed s.hwys ≤ 1024 ∧ ∀ e ∈ s.mc.targets, sourceStands s e.2.driver = true

/-- Every CONNECTION in the active map names an input slot of an enabled highway (R4). -/
def SourcesStand (s : State) : Prop := ∀ h : HwyId, ∀ d ∈ s.map[h], sourceStands s d = true

/-- A completion ring: no more records unconsumed than it holds, records dropped or held only while it is full, armed only
with nothing unconsumed (R165, R168, R170, R175, R176). -/
def Ring.Ok (r : Ring) : Prop :=
  r.size ≤ 4096 ∧ r.unconsumed ≤ r.size ∧ (0 < r.missed ∨ r.held ≠ none → r.unconsumed = r.size) ∧
    (r.armed = true → r.unconsumed = 0) ∧ r.missed ≤ 65535

def RingInv (s : State) : Prop := ∀ n : RingId, s.comp.rings[n].Ok

/-- A keyed collection is in its canonical form: its keys strictly rise, so that there is at most one entry for each. -/
def Rising {κ ν : Type} (rank : κ → Nat) (l : List (κ × ν)) : Prop := (l.map fun e => rank e.1).Pairwise (· < ·)

/-- The staging set: at most 256 entries, one for each key, and in no order but that of their keys (R21, R22). -/
def StagingInv (s : State) : Prop :=
  entryCount s ≤ 256 ∧ Rising SlotRef.rank s.mc.targets ∧ Rising chanRank s.mc.entries

/-- Two staging sets hold the same entry, or none, under every key (R21). -/
def SameEntries (a b : MapControl) : Prop :=
  (∀ k : SlotRef, lookupKey k a.targets = lookupKey k b.targets) ∧
    ∀ c : ChanId, lookupKey c a.entries = lookupKey c b.entries

/-- The timing unit: at most four candidates of distinct sources, the selected one listed and QUALIFIED, and HOLDOVER only
with the flag set (R116, R124, R128). -/
def TimingInv (s : State) : Prop :=
  s.tim.cands.length ≤ 4 ∧ (s.tim.cands.map Cand.src).Nodup ∧
    (∀ src, s.tim.selected? = some src → ∃ c ∈ s.tim.cands, c.src = src ∧ c.st = .qualified) ∧
    (s.tim.sel = .holdover → s.tim.valid = true)

/-- A channel's state against the device's, and its slots against its state (R68, R83, R85, R88, R90, R91). -/
def ChanState.allowed (d : DeviceState) (c : ChanState) : Bool :=
  match d with
  | .online => true
  | .offline => c == .closed
  | .starting => c == .closed
  | .resetting => c == .closed
  | .halted => c == .closed || c == .faulted
  | .stopping => c == .closed || c == .closing

/-- The device: outside ONLINE the request processor is STOPPED, no STOP is pending and no COMMIT is in flight; EXECUTING
lasts no time; channels are as the device state leaves them, and a CLOSED or CLOSING one holds no slots (R68, R83, R145,
R182, R186, R190 to R193). -/
def DeviceInv (s : State) : Prop :=
  (s.dev.st ≠ .online → s.proc.st = .stopped ∧ s.dev.stopPending = false ∧ s.mc.inFlight = false) ∧
    s.proc.st ≠ .executing ∧
    (s.proc.hand ≠ none → s.proc.st = .waitingFrame ∨ s.proc.st = .waitingMemory) ∧
    ∀ c : ChanId, s.chans[c].st.allowed s.dev.st = true ∧
      (s.chans[c].st = .closed ∨ s.chans[c].st = .closing → s.chans[c].slots = [])

end Sys2Proof.Machine
end

