-- ==== Sys2Proof/Certificates/Slice0/Obligations.lean ====
section
/-! DEFINITION. The statements for the provers. -/

section

open Sys2Proof Sys2Proof.Machine

/-! ### The block -/

/-- A step takes the command at the front of the queue and runs it on the state with the queue's rest. The queue is the
model's form of what comes from outside (log entry 1). -/
def Obligations.StepRunsFront : Prop :=
  ∀ (c : Instr) (rest : List Instr) (s : State),
    s.pending = c :: rest → step s = exec c { s with pending := rest }

/-- Every command gives a next state, and none of them touches the queue; that one which a state gives no place gives a
next state too is the model's choice (log entry 5). -/
def Obligations.CommandsComplete : Prop :=
  ∀ (c : Instr) (s : State), ∃ t, exec c s = .next t ∧ t.pending = s.pending

/-! ### Resets and configuration space -/

/-- The values of power-on reset: what the register window, the link interface and configuration space show, and the
ports, the map, the channel table, the staging set, the rings, of which there is no layout, the request processor and the
timing unit, each whole (R20, R21, R45, R63, R68, R116, R143 to R145, R161, R162, R185). The fields of a channel that say
what the spec tells in words, the limit in force, the preset mark, and the records of messages and REFOUT pulses are the
model's own (log entries 18, 22 and 25). -/
def Obligations.ResetState : Prop :=
  (State.reset.readReg 0x008 = 0 ∧ State.reset.readReg 0x00C = 0 ∧ State.reset.readReg 0x010 = 0 ∧
    State.reset.readReg 0x000 = 0x00010416 ∧ State.reset.link.ops = [] ∧ State.reset.link.messages = [] ∧
    State.reset.cfg = { busMaster := false, messages := false, vectors := 1 }) ∧
  (∀ h : HwyId, State.reset.map[h] = [] ∧ State.reset.hwys[h] =
      { align := .disabled, slotCount := 32, subst := 0xFF, idle := 0xFF, correctRun := 0, misRun := 0, silence := 0,
        age := 0, unread := [], last := none, deletes := 0, repeats := 0, misframes := 0, latch := false, tx := none }) ∧
    (∀ c : ChanId, State.reset.chans[c] =
      { st := .closed, dir := .rx, hwy := 0, slots := [], idle := 0x00, ringBase := 0, ringSize := 2, complRing := 0, pos := 0
        current := none, lookahead := none, queue := [], ready := none, starved := 0, late := 0, latch := false
        cause := none, readSeq := 0, due := none, deferred := false, walk := .notBegun, closeFailed := false }) ∧
    State.reset.comp.ringCount = 0 ∧
    (∀ n : RingId, State.reset.comp.rings[n].produced = 0 ∧ State.reset.comp.rings[n].head = 0 ∧
      State.reset.comp.rings[n].armed = false ∧ State.reset.comp.rings[n].missed = 0 ∧
      State.reset.comp.rings[n].held = none) ∧
    State.reset.mc = { targets := [], entries := [], inFlight := false } ∧
    State.reset.proc.st = .stopped ∧ State.reset.proc.tail = 0 ∧ State.reset.proc.consumed = 0 ∧
    State.reset.proc.hand = none ∧
    State.reset.tim =
      { cands := [], revertive := false, qualifyTime := 10, wtr := 60, holdLimit := 0, limitInForce := 0, driftLimit := 16
        exportSel := .none, sel := .freerun, acquire := 0, lockedRun := 0, valid := false, elapsed := 0, counter := 0
        presetTaken := false, refout := 0 }

/-- POWER_ON_RESET, in any state, sets every block to its power-on values; CONFIGURATION_SPACE_WRITE changes the three
items and nothing else (R185). That one command sets all three items, and to any number of vectors, is the model's choice
(log entry 26). The queue of waiting commands and the number of the free values stay, which are the model's own (log
entries 1 and 27). -/
def Obligations.PowerOnAndConfiguration : Prop :=
  (∀ s : State, exec .powerOnReset s = .next { State.reset with pending := s.pending, frames := s.frames }) ∧
  (∀ (busMaster messages : Bool) (vectors : Nat) (s : State), Settled s →
    exec (.configurationSpaceWrite busMaster messages vectors) s =
      .next { s with cfg := { busMaster := busMaster, messages := messages, vectors := vectors } })

/-- RESET, in any state with the timing unit in order: RESETTING, over at once when nothing is in flight, with the ports,
the map, the channels, the staging set, the rings and the processor at their reset values; the timing unit keeps all it
holds, but that its highway candidates fail and a selector on one of them moves (R65, R140, R193, R194). The ring bases
and sizes, 0 with no layout, are the model's choice (log entry 15); the messages sent, the identifiers given out and the
number of the free values, the model's own, stay (log entries 18, 22 and 27). -/
def Obligations.DeviceReset : Prop :=
  ∀ s : State, TimingInv s → exec .reset s = .next { s with
    dev := { s.dev with
      st := if s.link.ops = [] then .offline else .resetting
      stopPending := false
      cause := .none
      lastError := .none }
    link := { s.link with ops := s.link.ops.map fun o => { o with mark := .dropped } }
    proc := { st := .stopped, tail := 0, consumed := 0, ringBase := 0, ringSize := 0, hand := none }
    comp := {
      ringCount := 0
      eventRing := 0
      rings := Vector.replicate 4
        { base := 0, size := 0, produced := 0, head := 0, armed := false, missed := 0, held := none } }
    mc := { targets := [], entries := [], inFlight := false }
    map := Vector.replicate 16 []
    hwys := s.hwys.map fun p =>
      { align := .disabled, slotCount := 32, subst := 0xFF, idle := 0xFF, correctRun := 0, misRun := 0, silence := 0,
        age := 0, unread := [], last := none, deletes := 0, repeats := 0, misframes := 0, latch := false, tx := p.tx }
    chans := Vector.replicate 128 Chan.reset
    tim := afterLoss (fun _ => true) s.tim }

/-! ### CONTROL -/

/-- START: in OFFLINE with an address that is a multiple of 64, STARTING with the setup read of 64 bytes in flight; with
another address SETUP_INVALID; with bus mastering disabled SETUP_ERROR at once; outside OFFLINE ignored with START_STATE
(R184, R187, R195). The identifier of the read is the model's own (log entry 22). -/
def Obligations.StartTaken : Prop :=
  (∀ s : State, Linked s → s.dev.st = .offline → (s.dev.setupHigh ++ s.dev.setupLow).toNat % 64 = 0 →
    exec .start s = .next { s with
      dev := { s.dev with st := .starting, cause := .none, lastError := .none }
      link := { s.link with
        ops := s.link.ops ++ [{ id := s.link.nextId, kind := .setupRead, mark := .live,
                                addr := s.dev.setupHigh ++ s.dev.setupLow, len := 64, data := [] }]
        nextId := s.link.nextId + 1 } }) ∧
  (∀ s : State, Settled s →
    (s.dev.st = .offline → (s.dev.setupHigh ++ s.dev.setupLow).toNat % 64 ≠ 0 →
      exec .start s = .next { s with dev := { s.dev with cause := .setupInvalid, lastError := .none } }) ∧
    (s.dev.st = .offline → (s.dev.setupHigh ++ s.dev.setupLow).toNat % 64 = 0 → s.cfg.busMaster = false →
      s.link.ops = [] →
      exec .start s = .next { s with
        dev := { s.dev with cause := .setupError, lastError := .none } }) ∧
    (s.dev.st ≠ .offline → exec .start s = .next (withError .startState s)))

/-- STOP: in ONLINE stop pending is set, in IDLE and in WAITING_SPACE the processor is STOPPED at once and the set
emptied, and a held REQUEST_DONE is dropped and counted; in HALTED the map is cleared, the set emptied, every channel
CLOSED without slots, and STOPPING is over at once when nothing is in flight, the cause kept (R18, R40, R90, R158, R177,
R189, R190, R192). -/
def Obligations.StopTaken : Prop :=
  (∀ s : State, s.dev.st = .online → s.dev.stopPending = false →
    exec .stop s = .next
      (if s.proc.st = .idle then
        { s with
          dev := { s.dev with stopPending := true }
          proc := { s.proc with st := .stopped, hand := none }
          mc := { s.mc with targets := [], entries := [] } }
      else if s.proc.st = .waitingSpace then
        { s with
          dev := { s.dev with stopPending := true }
          proc := { s.proc with st := .stopped, hand := none }
          mc := { s.mc with targets := [], entries := [] }
          comp := { s.comp with
            rings := s.comp.rings.map fun r => if r.held.isSome then { r.dropped with held := none } else r } }
      else { s with dev := { s.dev with stopPending := true } })) ∧
  (∀ s : State, s.dev.st = .halted →
    exec .stop s = .next { s with
      dev := { s.dev with st := if s.link.ops = [] then .offline else .stopping }
      mc := { s.mc with targets := [], entries := [] }
      map := s.map.map fun ds => List.replicate ds.length .none
      chans := s.chans.map fun ch => { ch with st := .closed, slots := [] } })

/-- A CONTROL write by value and device state: one command is the command, none or several is CONTROL_INVALID; START is
ignored with START_STATE outside OFFLINE, and in OFFLINE taken, to STARTING where the setup read can be issued; STOP is
ignored with STOP_STATE outside ONLINE and HALTED and while stop pending is set; RESET is taken in every state, with no
further change of device state in RESETTING (R184). A state that is over at once is passed: RESETTING and STOPPING with
nothing in flight are OFFLINE (R190, R194). -/
def Obligations.ControlTable : Prop :=
  ∀ (v : Word32) (s : State), Settled s →
    exec (.registerWrite 0x004 4 v) s =
      (if v = 1 then exec .start s
       else if v = 2 then exec .stop s
       else if v = 4 then exec .reset s
       else .next (withError .controlInvalid s)) ∧
    (s.dev.st ≠ .offline → exec .start s = .next (withError .startState s)) ∧
    (s.dev.st = .offline → ∃ t, exec .start s = .next t ∧ t.dev.lastError = .none ∧
      (s.cfg.busMaster = true → (s.dev.setupHigh ++ s.dev.setupLow).toNat % 64 = 0 → t.dev.st = .starting)) ∧
    (s.dev.st ≠ .online ∧ s.dev.st ≠ .halted ∨ s.dev.st = .online ∧ s.dev.stopPending = true →
      exec .stop s = .next (withError .stopState s)) ∧
    (s.dev.st = .online → s.dev.stopPending = false → ∃ t, exec .stop s = .next t ∧ t.dev.stopPending = true) ∧
    (s.dev.st = .halted → ∃ t, exec .stop s = .next t ∧
      t.dev.st = if s.link.ops = [] then .offline else .stopping) ∧
    (∃ t, exec .reset s = .next t ∧ t.dev.lastError = .none ∧
      t.dev.st = if s.link.ops = [] then .offline else .resetting) ∧
    (s.dev.st = .resetting → ∃ t, exec .reset s = .next t ∧ t.dev.st = .resetting ∧ t.link.ops.length = s.link.ops.length)

/-! ### The other registers -/

/-- SETUP_LOW and SETUP_HIGH: a write is taken in OFFLINE and ignored elsewhere; both read back, read 0 after power-on
reset, and are kept by START, STOP and RESET; ID reads its constant (R183). -/
def Obligations.SetupAddress : Prop :=
  (∀ (high : Bool) (v : Word32) (s : State), Settled s →
    exec (.setupAddressWrite high v) s = .next
      (if s.dev.st = .resetting then withError .resetBusy s
       else if s.dev.st ≠ .offline then withError .setupState s
       else if high then { s with dev := { s.dev with setupHigh := v } }
       else { s with dev := { s.dev with setupLow := v } })) ∧
  (∀ s : State, s.readReg 0x000 = 0x00010416 ∧ s.readReg 0x00C = s.dev.setupLow ∧ s.readReg 0x010 = s.dev.setupHigh) ∧
  State.reset.readReg 0x00C = 0 ∧ State.reset.readReg 0x010 = 0 ∧
  (∀ (c : Instr) (s t : State), c = .start ∨ c = .stop ∨ c = .reset → exec c s = .next t →
    t.dev.setupLow = s.dev.setupLow ∧ t.dev.setupHigh = s.dev.setupHigh)

/-- REQUEST_TAIL: the tests in order, and a write that passes becomes the tail count, starting a fetch in IDLE when the
counts differ and no STOP is pending (R143, R146, R158, R181). -/
def Obligations.RequestTailWrite : Prop :=
  ∀ (v : Word32) (s : State), Linked s → Settled s →
    exec (.requestTail v) s = .next
      (if s.dev.st = .resetting then withError .resetBusy s
       else if v &&& 0xFFFF0000 ≠ 0 then withError .writeReserved s
       else if s.dev.st ≠ .online then withError .tailState s
       else if s.proc.ringSize < (v.setWidth 16 - s.proc.consumed).toNat ∨
          (v.setWidth 16 - s.proc.consumed).toNat < (s.proc.tail - s.proc.consumed).toNat then
        withError .tailRange s
       else if s.proc.st = .idle ∧ s.dev.stopPending = false ∧ v.setWidth 16 ≠ s.proc.consumed then
        { s with
          proc := { s.proc with tail := v.setWidth 16, st := .fetching, hand := none }
          link := { s.link with
            ops := s.link.ops ++ [fetchOp s.link.nextId s.proc]
            nextId := s.link.nextId + 1 } }
       else { s with proc := { s.proc with tail := v.setWidth 16 } })

/-- RING_HEAD: the tests in order, a refused write ignored with its ARM flag; accepted, on a ring with nothing dropped and
nothing held, the head count moves, and ARM arms the ring with nothing unconsumed, or else sends its message at once and
leaves it disarmed (R173 to R175, R181, R198). -/
def Obligations.RingHeadWrite : Prop :=
  (∀ (n : RingId) (v : Word32) (s : State), Settled s →
    (s.dev.st = .resetting → exec (.ringHead n v) s = .next (withError .resetBusy s)) ∧
    (s.dev.st ≠ .resetting → v &&& 0xFFFE0000 ≠ 0 → exec (.ringHead n v) s = .next (withError .writeReserved s)) ∧
    (s.dev.st ≠ .resetting → v &&& 0xFFFE0000 = 0 → s.dev.st ≠ .online →
      exec (.ringHead n v) s = .next (withError .headState s)) ∧
    (s.dev.st = .online → v &&& 0xFFFE0000 = 0 →
      (s.comp.ringCount ≤ n.val ∨
        (s.comp.rings[n].produced - s.comp.rings[n].head).toNat < (v.setWidth 16 - s.comp.rings[n].head).toNat) →
      exec (.ringHead n v) s = .next (withError .headRange s))) ∧
  (∀ (n : RingId) (v : Word32) (s : State), s.dev.st = .online → v &&& 0xFFFE0000 = 0 →
    n.val < s.comp.ringCount →
    (v.setWidth 16 - s.comp.rings[n].head).toNat ≤ (s.comp.rings[n].produced - s.comp.rings[n].head).toNat →
    s.comp.rings[n].missed = 0 → s.comp.rings[n].held = none →
    exec (.ringHead n v) s = .next
      (if v.getLsbD 16 = false then
        { s with comp := { s.comp with rings := s.comp.rings.set n { s.comp.rings[n] with head := v.setWidth 16 } } }
       else if s.comp.rings[n].produced = v.setWidth 16 then
        { s with comp := { s.comp with
            rings := s.comp.rings.set n { s.comp.rings[n] with head := v.setWidth 16, armed := true } } }
       else
        { s with
          comp := { s.comp with
            rings := s.comp.rings.set n { s.comp.rings[n] with head := v.setWidth 16, armed := false } }
          link := { s.link with messages := s.link.messages ++ messagesOf s.cfg n } }))

/-- RING_HEAD accepted, in every state of the ring: with an advance above 0 the OVERFLOW of a ring that dropped records
takes the first position, carrying the missed count, and a held REQUEST_DONE the next, with the processor going on, or
stays held when only one position returns; with an advance of 0 nothing is placed; then ARM arms the ring with nothing
unconsumed, and sends its message at once otherwise (R171, R174, R175). -/
def Obligations.RingHeadFillsSpace : Prop :=
  ∀ (n : RingId) (v : Word32) (s : State), Linked s → s.dev.st = .online → v &&& 0xFFFE0000 = 0 →
    n.val < s.comp.ringCount → s.comp.rings[n].Ok →
    (v.setWidth 16 - s.comp.rings[n].head).toNat ≤ (s.comp.rings[n].produced - s.comp.rings[n].head).toNat →
    exec (.ringHead n v) s = .next
      (let r := s.comp.rings[n]
       let advance := (v.setWidth 16 - r.head).toNat
       let withRing (r : Ring) (t : State) : State := { t with comp := { t.comp with rings := t.comp.rings.set n r } }
       let s1 := withRing { r with head := v.setWidth 16 } s
       let s2 := if 0 < advance ∧ 0 < r.missed then
           afterPlace n (.overflow r.missed s.tim.counter) (withRing { r with head := v.setWidth 16, missed := 0 } s)
         else s1
       let s3 := match r.held with
         | some d =>
           if advance = 0 ∨ advance = 1 ∧ 0 < r.missed then s2
           else afterRequest (afterPlace n (.requestDone d) (withRing { s2.comp.rings[n] with held := none } s2))
         | none => s2
       if v.getLsbD 16 = false then s3
       else if s3.comp.rings[n].unconsumed = 0 then withRing { s3.comp.rings[n] with armed := true } s3
       else
         { withRing { s3.comp.rings[n] with armed := false } s3 with
           link := { s3.link with messages := s3.link.messages ++ messagesOf s.cfg n } })

/-- REGISTER_WRITE: the five tests in order, and a write that passes them is the write of its register (R181). Which write
covers one register, and when a write of less than one counts as CONTROL's, the model infers (log entry 16). -/
def Obligations.RegisterWriteTests : Prop :=
  ∀ (offset len : Nat) (v : Word32) (s : State), Settled s →
    (s.dev.st = .resetting → (offset < 4 ∨ 8 < offset + len) →
      exec (.registerWrite offset len v) s = .next (withError .resetBusy s)) ∧
    (s.dev.st ≠ .resetting → (len ≠ 4 ∨ offset % 4 ≠ 0) →
      exec (.registerWrite offset len v) s = .next (withError .writeWidth s)) ∧
    (s.dev.st ≠ .resetting → 0x024 < offset → offset % 4 = 0 →
      exec (.registerWrite offset 4 v) s = .next (withError .writeUnmapped s)) ∧
    (s.dev.st ≠ .resetting → (offset = 0x000 ∨ offset = 0x008) →
      exec (.registerWrite offset 4 v) s = .next (withError .writeReadOnly s)) ∧
    exec (.registerWrite 0x00C 4 v) s = exec (.setupAddressWrite false v) s ∧
    exec (.registerWrite 0x010 4 v) s = exec (.setupAddressWrite true v) s ∧
    exec (.registerWrite 0x014 4 v) s = exec (.requestTail v) s ∧
    ∀ n : RingId, exec (.registerWrite (0x018 + 4 * n.val) 4 v) s = exec (.ringHead n v) s

/-- Reads of the window: what STATUS shows; the registers that read as 0; and a read of any offset and width, which gives
the bytes of the registers it touches, low byte first (R181 to R183; section 9.1). -/
def Obligations.StatusFields : Prop :=
  (∀ s : State, (s.readReg 0x008).toNat % 8 = s.dev.st.code ∧ (s.readReg 0x008).getLsbD 3 = s.dev.stopPending ∧
    (s.readReg 0x008).toNat / 0x10 % 8 = s.proc.st.code ∧ (s.readReg 0x008).toNat / 0x80 % 8 = s.dev.cause.code ∧
    (s.readReg 0x008).toNat / 0x400 % 16 = s.dev.lastError.code ∧
    (s.readReg 0x008).toNat / 0x4000 % 4 = 0 ∧ (s.readReg 0x008).toNat / 0x10000 = s.proc.consumed.toNat) ∧
  (∀ (s : State) (offset : Nat), offset = 0x004 ∨ 0x014 ≤ offset → s.readReg offset = 0) ∧
  (∀ (s : State) (offset len : Nat), (s.readWindow offset len).length = len ∧
    ∀ i < len, (s.readWindow offset len)[i]? =
      some ((s.readReg (4 * ((offset + i) / 4))).extractLsb' (8 * ((offset + i) % 4)) 8))

/-! ### START's end, the fetch, and HALTED -/

/-- SETUP_READ_END: a valid block makes the device ONLINE with its layout, and the first such START adds the preset to the
counter; any other end is OFFLINE with its cause, taking nothing; and which blocks are valid (R115, R145, R180, R188). -/
def Obligations.SetupReadEnd : Prop :=
  (∀ (f : Op) (s : State), LinkInv s → s.dev.st = .starting → s.liveOpOf .setupRead = some f →
    (∀ bytes, setupOk (parseSetup bytes) = true → exec (.setupReadEnd (.data bytes)) s = .next { without f s with
      dev := { s.dev with st := .online }
      proc := { st := .idle, tail := 0, consumed := 0, ringBase := BitVec.ofNat 64 (leField bytes 0x00 8),
                ringSize := leField bytes 0x08 2, hand := none }
      comp := { ringCount := leField bytes 0x0A 1, eventRing := Fin.ofNat 4 (leField bytes 0x0B 1),
                rings := Vector.ofFn fun n =>
                  { base := BitVec.ofNat 64 (leField bytes (0x10 + 8 * n.val) 8), size := leField bytes (0x30 + 2 * n.val) 2
                    produced := 0, head := 0, armed := false, missed := 0, held := none } }
      tim := { s.tim with
        counter := if s.tim.presetTaken then s.tim.counter else s.tim.counter + BitVec.ofNat 32 (leField bytes 0x0C 4)
        presetTaken := true } }) ∧
    (∀ bytes, setupOk (parseSetup bytes) = false → exec (.setupReadEnd (.data bytes)) s =
      .next { without f s with dev := { s.dev with st := .offline, cause := .setupInvalid } }) ∧
    exec (.setupReadEnd .error) s = .next { without f s with dev := { s.dev with st := .offline, cause := .setupError } } ∧
    exec (.setupReadEnd .timeout) s =
      .next { without f s with dev := { s.dev with st := .offline, cause := .setupError } }) ∧
  (∀ bytes : List Byte, setupOk (parseSetup bytes) = true ↔
    ((∃ k, 4 ≤ k ∧ k ≤ 12 ∧ leField bytes 0x08 2 = 2 ^ k) ∧ leField bytes 0x00 8 % 64 = 0 ∧
      1 ≤ leField bytes 0x0A 1 ∧ leField bytes 0x0A 1 ≤ 4 ∧
      (∀ n, n < leField bytes 0x0A 1 →
        (∃ k, 4 ≤ k ∧ k ≤ 12 ∧ leField bytes (0x30 + 2 * n) 2 = 2 ^ k) ∧ leField bytes (0x10 + 8 * n) 8 % 16 = 0) ∧
      (∀ n, leField bytes 0x0A 1 ≤ n → n < 4 →
        leField bytes (0x30 + 2 * n) 2 = 0 ∧ leField bytes (0x10 + 8 * n) 8 = 0) ∧
      leField bytes 0x0B 1 < leField bytes 0x0A 1 ∧ leField bytes 0x38 8 = 0))

/-- Entry to HALTED: a request fetch or a completion record write that ends in error or timeout, by its own row or as
OPERATION_TIMEOUT; the consumed and produced counts do not move back. A record write that is accepted is in flight no
more, and nothing else changes but a STOPPING or RESETTING that was waiting for it (R88, R146, R160, R178, R190, R191). -/
def Obligations.EntryToHalted : Prop :=
  ∀ (f : Op) (s : State), LinkInv s →
    (∀ timeout, s.liveOpOf .requestFetch = some f →
      exec (.requestFetchError timeout) s = .next (afterHalt .requestFetch (without f s)) ∧
      exec (.operationTimeout f.id) s = .next (afterHalt .requestFetch (without f s))) ∧
    (∀ n e, s.liveOp f.id = some f → f.kind = .recordWrite n → e ≠ .accepted →
      exec (.completionWriteEnd f.id e) s = .next (afterHalt .completionWrite (without f s)) ∧
      exec (.operationTimeout f.id) s = .next (afterHalt .completionWrite (without f s))) ∧
    (∀ n, s.liveOp f.id = some f → f.kind = .recordWrite n →
      exec (.completionWriteEnd f.id .accepted) s = .next (ended (without f s)))

/-- Bus mastering disabled: what is issued is not sent, and its issuer takes the error at that moment. A fetch halts the
device with REQUEST_FETCH; the record of a request that completes, in a ring with space, halts it with COMPLETION_WRITE; a
query completes with MEMORY_ERROR, held in a full ring; a PRIMING read, and the data write of a receive channel at a
device frame event, make the channel FAULTED, whose CHAN_FAULT halts the device where the event ring has space (R86, R152,
R178, R191, R195). That an armed ring is disarmed with no message sent, and that the blocks' work at one moment comes
before their records, is the model's choice (log entries 6 and 7). -/
def Obligations.NotSent : Prop :=
  (∀ (v : Word32) (s : State), s.cfg.busMaster = false → s.dev.st = .online → v &&& 0xFFFF0000 = 0 →
    (v.setWidth 16 - s.proc.consumed).toNat ≤ s.proc.ringSize →
    (s.proc.tail - s.proc.consumed).toNat ≤ (v.setWidth 16 - s.proc.consumed).toNat →
    s.proc.st = .idle → s.dev.stopPending = false → v.setWidth 16 ≠ s.proc.consumed →
    exec (.requestTail v) s =
      .next (afterHalt .requestFetch { s with proc := { s.proc with tail := v.setWidth 16 } })) ∧
  (∀ (c : Instr) (st : Status) (r : ReqRecord) (f : Op) (s : State), s.cfg.busMaster = false → s.dev.st = .online →
    s.proc.st = .fetching → s.liveOpOf .requestFetch = some f → HeaderPasses r s →
    c = .nop r ∧ st = .ok ∧ (∀ i < 56, byteAt r.body i = 0) ∨
      c = .qtime r ∧ st = .memoryError ∧ reqField r 0x10 8 % 64 = 0 ∧ reservedOk r [(0x08, 1), (0x10, 8)] = true ∧
        (reqByte r 0x08 = 1 ∨ reqByte r 0x08 = 2) →
    exec c s = .next
      (if s.comp.rings[ringOf r].unconsumed < s.comp.rings[ringOf r].size then unsentRecord (ringOf r) (inHand f s)
       else if s.dev.stopPending then
        { unsentRecord (ringOf r) (inHand f s) with
          proc := { (inHand f s).proc with st := .stopped, hand := none }
          mc := { s.mc with targets := [], entries := [] } }
       else answer r st 0 (inHand f s))) ∧
  (∀ (c : ChanId) (s : State), s.cfg.busMaster = false → s.dev.st = .online → Primes c s →
    exec (.primingRead c) s = .next (unsentRecord s.comp.eventRing
      (staleOf c (withChan c (faultedChan (.operation .descriptorRead false) s.chans[c]) s)))) ∧
  (∀ (o : FrameOrder) (c : ChanId) (cur : Current) (s : State), s.cfg.busMaster = false → s.dev.st = .online →
    NoStopClear s → Untouched c s → s.chans[c].st = .running → s.chans[c].dir = .rx → s.chans[c].current = some cur →
    ∃ t, exec (.deviceFrameEvent o) s = .next t ∧
      t.chans[c] = faultedChan (.operation .dataWrite false) s.chans[c] ∧
      (s.comp.rings[s.comp.eventRing].unconsumed < s.comp.rings[s.comp.eventRing].size →
        t.dev.st = .halted ∧ t.dev.cause = .completionWrite))

/-! ### Requests: the checks -/

/-- The header checks: a kind code outside the table completes with BAD_KIND, and any other failure, for each of the
fourteen kinds, with BAD_FIELD, in the ring named, or in ring 0 when the header names none; nothing else is done (R148,
R149). -/
def Obligations.HeaderChecks : Prop :=
  (∀ (kind : Byte) (r : ReqRecord) (f : Op) (s : State), Fetching f s → (kind = 0 ∨ 0x0E < kind.toNat) →
    exec (.badKind kind r) s = .next
      (afterDone (if r.ring.toNat < s.comp.ringCount then ringOf r else 0)
        { status := .badKind, consumed := s.proc.consumed + 1, tag := r.tag, value := 0, frame := 0 } (inHand f s))) ∧
  (∀ (c : Instr) (r : ReqRecord) (f : Op) (s : State), Fetching f s → ¬HeaderPasses r s →
    c ∈ [.nop r, .sethwy r, .connect r, .disconnect r, .openChannel r, .closeChannel r, .reslot r, .commit r,
      .discard r, .setref r, .qhwy r, .qchan r, .qslot r, .qtime r] →
    exec c s = .next
      (afterDone (if r.ring.toNat < s.comp.ringCount then ringOf r else 0)
        { status := .badField, consumed := s.proc.consumed + 1, tag := r.tag, value := 0, frame := 0 } (inHand f s)))

/-- The body checks: in each kind a body byte outside its fields that is not 0, or a field out of its range, completes
with BAD_FIELD and changes nothing else: every range of section 10.3, a list's entries distinct, and 0 beyond its count
(R12, R16, R46, R70, R132, R149, R152). That a QSLOT with a bad result address is BAD_FIELD before its highway and slot
are looked at is the model's choice (log entry 31). -/
def Obligations.BodyFails : Prop :=
  ∀ (r : ReqRecord) (f : Op) (s : State), Fetching f s → HeaderPasses r s → ∀ p ∈ bodyRanges s.comp.ringCount r,
    p.2 = false → exec p.1 s = .next (answer r .badField 0 (inHand f s))

/-! ### Requests: the kinds -/

/-- NOP: OK with value 0, or BAD_FIELD for a body byte that is not 0; nothing else changes but the consumed count, the
processor's state and what the REQUEST_DONE itself needs; a full ring holds it; and none is taken while a COMMIT in flight
keeps the processor in WAITING_FRAME (R151). -/
def Obligations.NopCompletes : Prop :=
  (∀ (r : ReqRecord) (f : Op) (s : State), Fetching f s → HeaderPasses r s →
    ((∀ i < 56, byteAt r.body i = 0) → exec (.nop r) s = .next (answer r .ok 0 (inHand f s))) ∧
    ((∃ i < 56, byteAt r.body i ≠ 0) → exec (.nop r) s = .next (answer r .badField 0 (inHand f s)))) ∧
  ∀ (r : ReqRecord) (s : State), Settled s → s.proc.st = .waitingFrame → exec (.nop r) s = .next s

/-- SETHWY that is refused, with HIGHWAY_IN_USE or BUDGET, or that costs no alignment: refused it changes nothing;
otherwise the port, its map entries, and OK with the sum of the enabled slot counts (R10, R46 to R49). What is in use is
HighwayUse's (log entry 27). -/
def Obligations.SethwyCarriedOut : Prop :=
  ∀ (r : ReqRecord) (f : Op) (s : State), Fetching f s → HeaderPasses r s → BodyPasses (.sethwy r) r s →
    s.hwys[reqHwy r 0x08].align ≠ .aligned ∨ reqByte r 0x09 = 1 ∧ reqByte r 0x0A = s.hwys[reqHwy r 0x08].slotCount ∨
      s.hwyInUse (reqHwy r 0x08) = true ∨
      reqByte r 0x09 = 1 ∧ 1024 < budgetUsed (s.hwys.set (reqHwy r 0x08) (sethwyPort r s.hwys[reqHwy r 0x08])) →
    exec (.sethwy r) s = .next
      (let h := reqHwy r 0x08
       let p := s.hwys[h]
       let s1 := inHand f s
       let s2 := { s1 with hwys := s.hwys.set h (sethwyPort r p), map := s.map.set h (sethwyMap r p s.map[h]) }
       if p.align ≠ .disabled ∧ (reqByte r 0x09 = 0 ∨ reqByte r 0x0A ≠ p.slotCount) ∧ s.hwyInUse h = true then
         answer r .highwayInUse 0 s1
       else if reqByte r 0x09 = 1 ∧ (p.align = .disabled ∨ reqByte r 0x0A ≠ p.slotCount) ∧
          1024 < budgetUsed s2.hwys then answer r .budget 0 s1
       else answer r .ok (budgetUsed s2.hwys) s2)

/-- SETHWY that takes an ALIGNED highway out of ALIGNED, a Disable or a Resize: the port and its map entries as for any
other, a listed candidate of the highway fails, and a selector on it moves, with the holdover limit that is in force (R46,
R49, R55, R118, R123, R128, R134). What is in use is HighwayUse's (log entry 27). -/
def Obligations.SethwyLosesAlignment : Prop :=
  ∀ (r : ReqRecord) (f : Op) (s : State), Fetching f s → HeaderPasses r s → BodyPasses (.sethwy r) r s →
    s.hwys[reqHwy r 0x08].align = .aligned →
    reqByte r 0x09 = 0 ∨ reqByte r 0x0A ≠ s.hwys[reqHwy r 0x08].slotCount →
    s.hwyInUse (reqHwy r 0x08) = false →
    reqByte r 0x09 = 0 ∨ budgetUsed (s.hwys.set (reqHwy r 0x08) (sethwyPort r s.hwys[reqHwy r 0x08])) ≤ 1024 →
    ∃ t, exec (.sethwy r) s = .next t ∧
      t.hwys = s.hwys.set (reqHwy r 0x08) (sethwyPort r s.hwys[reqHwy r 0x08]) ∧
      t.map = s.map.set (reqHwy r 0x08) (sethwyMap r s.hwys[reqHwy r 0x08] s.map[reqHwy r 0x08]) ∧
      t.chans = s.chans ∧ t.proc.consumed = s.proc.consumed + 1 ∧ t.tim.counter = s.tim.counter ∧
      (t.tim.cands = s.tim.cands.map fun c =>
        if c.src = .hwy (reqHwy r 0x08) then { c with st := .failed, qualCount := 0, qualTime := 0, window := none }
        else c) ∧
      (TimingInv s → t.tim = afterLoss (fun h => h == reqHwy r 0x08) s.tim)

/-- CONNECT and DISCONNECT: the checks in order, each with its status, and a request that passes them stages its entry in
place of the one under its key or as a new one (R13 to R16, R22, R30, R38). -/
def Obligations.ConnectAndDisconnect : Prop :=
  ∀ (r : ReqRecord) (f : Op) (s : State), Fetching f s → HeaderPasses r s →
    (∀ (x : Target) (c : Instr) (h : HwyId) (n : Nat), h = reqHwy r 0x08 → n = reqByte r 0x09 →
      (c = .connect r ∧
          x = (if reqByte r 0x0A = 1 then .connection (reqHwy r 0x0B) (reqByte r 0x0C)
               else .constant (BitVec.ofNat 8 (reqByte r 0x0D))) ∨
        c = .disconnect r ∧ x = .none) →
      BodyPasses c r s →
      exec c s = .next
        (let s1 := inHand f s
         if s.hwys[h].align = .disabled then answer r .noHighway 0 s1
         else if s.hwys[h].slotCount ≤ n then answer r .noSlot 0 s1
         else if c = .connect r ∧ reqByte r 0x0A = 1 ∧ s.hwys[reqHwy r 0x0B].align = .disabled then
           answer r .noHighway 0 s1
         else if c = .connect r ∧ reqByte r 0x0A = 1 ∧ s.hwys[reqHwy r 0x0B].slotCount ≤ reqByte r 0x0C then
           answer r .noSlot 0 s1
         else if ∃ ch, (s.prospective none h n).1 = .channel ch then answer r .slotBusy 0 s1
         else if lookupKey ⟨h, n⟩ s.mc.targets = none ∧ 256 ≤ entryCount s then answer r .stagingFull 0 s1
         else answerStaged r .staged { s1 with mc := { s.mc with targets := putKey SlotRef.rank ⟨h, n⟩ x s.mc.targets } }))

/-- OPEN: the checks in order, and a request that passes them stages an OPEN entry, absorbing the target entries of a
transmit channel's slots (R25 to R27, R30, R38, R71). -/
def Obligations.OpenStages : Prop :=
  ∀ (r : ReqRecord) (f : Op) (s : State), Fetching f s → HeaderPasses r s → BodyPasses (.openChannel r) r s →
    exec (.openChannel r) s = .next
      (let c := reqChan r
       let p := openParams r
       let s1 := inHand f s
       if lookupKey c s.mc.entries ≠ none ∨ s.chans[c].st ≠ .closed then answer r .channelBusy 0 s1
       else match slotsFailure s c p.dir p.hwy p.slots with
         | some st => answer r st 0 s1
         | none =>
           if 256 ≤ entryCount s then answer r .stagingFull 0 s1
           else answerStaged r .staged { s1 with mc := { s.mc with
             targets := absorbed p.dir p.hwy p.slots s.mc.targets
             entries := putKey chanRank c (.openEntry p) s.mc.entries } })

/-- CLOSE by the channel's prospective state: it withdraws a staged OPEN, replaces a staged RESLOT, stages a CLOSE, or is
refused (R28, R30, R38). -/
def Obligations.CloseStages : Prop :=
  ∀ (r : ReqRecord) (f : Op) (s : State), Fetching f s → HeaderPasses r s → BodyPasses (.closeChannel r) r s →
    exec (.closeChannel r) s = .next
      (let c := reqChan r
       let s1 := inHand f s
       let put : State := { s1 with mc := { s.mc with entries := putKey chanRank c .closeEntry s.mc.entries } }
       match lookupKey c s.mc.entries with
       | some (.openEntry _) =>
         answerStaged r .unstaged { s1 with mc := { s.mc with entries := s.mc.entries.filter fun e => e.1 ≠ c } }
       | some (.reslotEntry _ _) => answerStaged r .staged put
       | some .closeEntry => answer r .channelIdle 0 s1
       | none =>
         if s.chans[c].st = .closed ∨ s.chans[c].st = .closing then answer r .channelIdle 0 s1
         else if 256 ≤ entryCount s then answer r .stagingFull 0 s1
         else answerStaged r .staged put)

/-- RESLOT by the channel's prospective state (R25, R29, R30, R38, R71). -/
def Obligations.ReslotStages : Prop :=
  ∀ (r : ReqRecord) (f : Op) (s : State), Fetching f s → HeaderPasses r s → BodyPasses (.reslot r) r s →
    exec (.reslot r) s = .next
      (let c := reqChan r
       let h := reqHwy r 0x0A
       let l := reqSlots r
       let s1 := inHand f s
       let stage (d : Dir) (e : ChanEntry) : State :=
         match slotsFailure s c d h l with
         | some st => answer r st 0 s1
         | none => answerStaged r .staged { s1 with mc := { s.mc with
             targets := absorbed d h l s.mc.targets
             entries := putKey chanRank c e s.mc.entries } }
       match lookupKey c s.mc.entries with
       | some (.openEntry p) => stage p.dir (.openEntry { p with hwy := h, slots := l })
       | some (.reslotEntry _ _) => stage s.chans[c].dir (.reslotEntry h l)
       | some .closeEntry => answer r .channelIdle 0 s1
       | none =>
         if s.chans[c].st = .closed ∨ s.chans[c].st = .closing then answer r .channelIdle 0 s1
         else if s.chans[c].st = .faulted then answer r .channelBusy 0 s1
         else if slotsFailure s c s.chans[c].dir h l = none ∧ 256 ≤ entryCount s then answer r .stagingFull 0 s1
         else stage s.chans[c].dir (.reslotEntry h l))

/-- COMMIT: NOTHING_STAGED on an empty set; otherwise the COMMIT is in flight, and the processor waits for the apply
(R31). -/
def Obligations.CommitTaken : Prop :=
  ∀ (r : ReqRecord) (f : Op) (s : State), Fetching f s → HeaderPasses r s → (∀ i < 56, byteAt r.body i = 0) →
    exec (.commit r) s = .next
      (if entryCount s = 0 then answer r .nothingStaged 0 (inHand f s) else waitFrame r (inHand f s))

/-- DISCARD: the set is emptied, and the request completes OK with the number of entries it held; the map and the channels
stay; and none is taken while a COMMIT in flight keeps the processor in WAITING_FRAME (R39). -/
def Obligations.DiscardEmpties : Prop :=
  (∀ (r : ReqRecord) (f : Op) (s : State), Fetching f s → HeaderPasses r s → (∀ i < 56, byteAt r.body i = 0) →
    exec (.discard r) s = .next
      (answer r .ok (entryCount s) { inHand f s with mc := { s.mc with targets := [], entries := [] } })) ∧
  ∀ (r : ReqRecord) (s : State), Settled s → s.proc.st = .waitingFrame → exec (.discard r) s = .next s

/-- SETREF: the new list keeps the records of the sources it keeps, lists the others FAILED, and takes the new
configuration; OK with the length of the list. One that removes the selected candidate moves the selector at once, to the
best QUALIFIED candidate of the new list, to HOLDOVER by the new holdover limit, or to FREERUN; any other move before the
next device frame event goes by the limit in force, which stays (R128, R133 to R136). The field that holds it is the
model's (log entry 22). -/
def Obligations.SetrefReplaces : Prop :=
  (∀ (r : ReqRecord) (f : Op) (s : State), Fetching f s → HeaderPasses r s → BodyPasses (.setref r) r s →
    (∀ src, s.tim.selected? = some src → src ∈ setrefSources r) →
    exec (.setref r) s = .next (answer r .ok (setrefSources r).length { inHand f s with
      tim := { s.tim with
        cands := (setrefSources r).map fun src =>
          match s.tim.cands.find? fun c => c.src == src with
          | some c => c
          | none => { src := src, st := .failed, gap := (match src with | .hwy _ => 0 | .ref _ => 3),
                      window := (match src with
                        | .hwy h => if s.hwys[h].align = .aligned then some { events := 0, arrivals := 0 } else none
                        | .ref _ => none),
                      drift := false, qualCount := 0, qualTime := 0 }
        revertive := reqByte r 0x09 == 1
        qualifyTime := reqByte r 0x0A
        wtr := reqByte r 0x0B
        holdLimit := reqField r 0x0C 2
        driftLimit := reqByte r 0x0E
        exportSel := setrefExport r } })) ∧
  (∀ (r : ReqRecord) (f : Op) (src : Source) (s : State), Fetching f s → HeaderPasses r s → BodyPasses (.setref r) r s →
    s.tim.selected? = some src → src ∉ setrefSources r →
    ∃ t, exec (.setref r) s = .next t ∧ t.proc.consumed = s.proc.consumed + 1 ∧
      t.tim.cands.map Cand.src = setrefSources r ∧ t.hwys = s.hwys ∧ t.map = s.map ∧ t.chans = s.chans ∧
      t.tim.holdLimit = reqField r 0x0C 2 ∧ t.tim.limitInForce = s.tim.limitInForce ∧
      match t.tim.cands.find? fun c => c.st == .qualified with
      | some c => t.tim.sel = .acquiring c.src ∧ t.tim.acquire = 0 ∧ t.tim.valid = s.tim.valid
      | none =>
        if s.tim.valid = true ∧ 0 < reqField r 0x0C 2 then t.tim.sel = .holdover ∧ t.tim.elapsed = 0
        else t.tim.sel = .freerun ∧ t.tim.valid = false)

/-- The prospective driver of an output slot is found by the four steps of R23, with one channel's own entry left out for
the claim test of R25: the target entry of the slot; else the channel whose staged OPEN or RESLOT claims it; else NONE for
a slot that a staged CLOSE or RESLOT releases; else the driver in the active map (R23, R25). -/
def Obligations.ProspectiveDriver : Prop :=
  ∀ (s : State) (skip : Option ChanId) (h : HwyId) (n : Nat),
    let holds (c : ChanId) : Prop := s.chans[c].dir = .tx ∧ s.chans[c].hwy = h ∧ n ∈ s.chans[c].slots
    let claims (c : ChanId) : Prop := some c ≠ skip ∧
      ((∃ p, (c, .openEntry p) ∈ s.mc.entries ∧ p.dir = .tx ∧ p.hwy = h ∧ n ∈ p.slots) ∨
        ∃ l, (c, .reslotEntry h l) ∈ s.mc.entries ∧ s.chans[c].dir = .tx ∧ n ∈ l)
    let releases (c : ChanId) : Prop := some c ≠ skip ∧ holds c ∧
      ((c, .closeEntry) ∈ s.mc.entries ∨ ∃ g l, (c, .reslotEntry g l) ∈ s.mc.entries ∧ ¬(g = h ∧ n ∈ l))
    (lookupKey ⟨h, n⟩ s.mc.targets = some .none → s.prospective skip h n = (.none, .target)) ∧
    (∀ g k, lookupKey ⟨h, n⟩ s.mc.targets = some (.connection g k) →
      s.prospective skip h n = (.connection g k, .target)) ∧
    (∀ b, lookupKey ⟨h, n⟩ s.mc.targets = some (.constant b) → s.prospective skip h n = (.constant b, .target)) ∧
    (lookupKey ⟨h, n⟩ s.mc.targets = none →
      ((∃ c, claims c) → ∃ c, claims c ∧ s.prospective skip h n = (.channel c, .claim)) ∧
      ((¬∃ c, claims c) → (∃ c, releases c) → s.prospective skip h n = (.none, .release)) ∧
      ((¬∃ c, claims c) → (¬∃ c, releases c) →
        s.prospective skip h n = ((s.map[h][n]?).getD .none, .active)))

/-- A highway is in use in the prospective map exactly when one of the five uses that R47 lists holds (R47). That the list
says all that is a use, so that the source of a CONNECTION which a staged entry replaces can be taken away, is the model's
choice (log entry 27). -/
def Obligations.HighwayUse : Prop :=
  ∀ (s : State) (h : HwyId), s.hwyInUse h = true ↔
    (∃ n < s.map[h].length, (∃ g k, (s.prospective none h n).1 = .connection g k) ∨
        ∃ c, (s.prospective none h n).1 = .channel c) ∨
      (∃ g, ∃ n < s.map[g].length, ∃ k, (s.prospective none g n).1 = .connection h k) ∨
      (∃ c : ChanId, (∃ p, lookupKey c s.mc.entries = some (.openEntry p) ∧ p.hwy = h) ∨
        (∃ l, lookupKey c s.mc.entries = some (.reslotEntry h l)) ∨
        lookupKey c s.mc.entries = none ∧ s.chans[c].hwy = h ∧
          s.chans[c].st ∈ [.priming, .running, .starved, .faulted]) ∨
      (∃ e ∈ s.mc.targets, e.1.hwy = h ∨ ∃ k, e.2 = .connection h k) ∨
      (∃ e ∈ s.mc.entries, (∃ p, e.2 = .openEntry p ∧ p.hwy = h) ∨ (e.2 = .closeEntry ∧ s.chans[e.1].hwy = h) ∨
        ∃ g l, e.2 = .reslotEntry g l ∧ (g = h ∨ s.chans[e.1].hwy = h))

/-- The four queries: the snapshot is taken, QHWY and QCHAN with CLEAR then clear their counters and latch, and the one
write of the result is issued to the result address, with the processor in WAITING_MEMORY; at the write's end the query
completes OK with the frame number of the snapshot, or MEMORY_ERROR with value 0, and the device goes on either way (R152,
R154 to R157). -/
def Obligations.QueriesWrite : Prop :=
  (∀ (r : ReqRecord) (f : Op) (s : State), Fetching f s → HeaderPasses r s → reqField r 0x10 8 % 64 = 0 →
    (reservedOk r [(0x08, 1), (0x10, 8)] = true → reqByte r 0x08 ≤ 15 →
      exec (.qhwy r) s = .next (waitMemory r (qhwyBytes s (reqHwy r 0x08))
        (let p := { s.hwys[reqHwy r 0x08] with deletes := 0, repeats := 0, misframes := 0, latch := false }
         if r.flags.getLsbD 1 then { inHand f s with hwys := s.hwys.set (reqHwy r 0x08) p } else inHand f s))) ∧
    (reservedOk r [(0x08, 1), (0x10, 8)] = true → reqByte r 0x08 ≤ 127 →
      exec (.qchan r) s = .next (waitMemory r (qchanBytes (without f s) (reqChan r))
        (let ch := { s.chans[reqChan r] with starved := 0, late := 0, latch := false }
         if r.flags.getLsbD 1 then { inHand f s with chans := s.chans.set (reqChan r) ch } else inHand f s))) ∧
    (reservedOk r [(0x08, 2), (0x10, 8)] = true → reqByte r 0x08 ≤ 15 → reqByte r 0x09 ≤ 127 →
      exec (.qslot r) s = .next
        (if s.hwys[reqHwy r 0x08].align = .disabled then answer r .noHighway 0 (inHand f s)
         else if s.hwys[reqHwy r 0x08].slotCount ≤ reqByte r 0x09 then answer r .noSlot 0 (inHand f s)
         else waitMemory r (qslotBytes s (reqHwy r 0x08) (reqByte r 0x09)) (inHand f s))) ∧
    (reservedOk r [(0x08, 1), (0x10, 8)] = true → reqByte r 0x08 = 1 ∨ reqByte r 0x08 = 2 →
      exec (.qtime r) s = .next (waitMemory r
        (if reqByte r 0x08 = 1 then qtimeStateBytes s.tim else qtimeConfigBytes s.tim) (inHand f s)))) ∧
  (∀ (e : WriteEnd) (f : Op) (h : Hand) (s : State), Linked s → LinkInv s → s.dev.st = .online →
    s.proc.hand = some h → s.liveOpOf .resultWrite = some f →
    exec (.resultWriteEnd e) s = .next (afterDone h.ring
      { status := if e = .accepted then .ok else .memoryError, consumed := s.proc.consumed, tag := h.tag,
        value := if e = .accepted then h.frame.toNat else 0, frame := 0 } (without f s)))

/-- The bytes of the records the part writes: the 16 of each completion record with its kind, phase and codes, the 12 of a
write-back, and the 64 of each query result (R164, R201 to R203; sections 10.4 to 10.6). -/
def Obligations.RecordLayouts : Prop :=
  (∀ (p : Bool) (d : ReqDone), (Record.requestDone d).bytes p =
    le 1 (1 + if p then 0x80 else 0) ++ le 1 d.status.code ++ le 2 d.consumed.toNat ++ le 4 d.tag.toNat ++ le 4 d.value ++
      le 4 d.frame.toNat) ∧
  (∀ (p : Bool) (c : ChanId) (i : Nat) (st : DescStatus) (k : BitVec 64), (Record.bufferDone c i st k).bytes p =
    le 1 (2 + if p then 0x80 else 0) ++ le 1 st.code ++ le 1 c.val ++ le 1 0 ++ le 2 i ++ le 2 0 ++ le 8 k.toNat) ∧
  (∀ (p : Bool) (e : Event) (f : Word32), (Record.event e f).bytes p =
    le 1 (3 + if p then 0x80 else 0) ++
      (match e with
       | .hwyLost h => le 1 1 ++ le 1 h.val ++ le 2 0
       | .hwyRecovered h => le 1 2 ++ le 1 h.val ++ le 2 0
       | .hwySlip h => le 1 3 ++ le 1 h.val ++ le 2 0
       | .chanStarved c => le 1 4 ++ le 1 c.val ++ le 2 0
       | .chanFault c (.operation k timeout) => le 1 5 ++ le 1 c.val ++ le 1 0 ++
           le 1 ((match k with | .descriptorRead => 1 | .dataRead => 2 | .dataWrite => 3 | .writeBack => 4) +
             if timeout then 8 else 0)
       | .chanFault c .deviceHalted => le 1 5 ++ le 1 c.val ++ le 1 0 ++ le 1 5
       | .chanClosed c memoryError => le 1 6 ++ le 1 c.val ++ le 1 0 ++ le 1 (if memoryError then 1 else 0)
       | .timing (.candidateFailed src k) => le 1 7 ++ le 1 src.code ++ le 1 1 ++
           le 1 (match k with | .loss => 1 | .drift => 2)
       | .timing (.candidateGood src) => le 1 7 ++ le 1 src.code ++ le 1 2 ++ le 1 0
       | .timing (.selectAcquiring src) => le 1 7 ++ le 1 src.code ++ le 1 3 ++ le 1 0
       | .timing (.selectLocked src) => le 1 7 ++ le 1 src.code ++ le 1 4 ++ le 1 0
       | .timing .selectHoldover => le 1 7 ++ le 1 0 ++ le 1 5 ++ le 1 0
       | .timing .selectFreerun => le 1 7 ++ le 1 0 ++ le 1 6 ++ le 1 0) ++
      le 3 0 ++ le 4 f.toNat ++ le 4 0) ∧
  (∀ (p : Bool) (m : Nat) (f : Word32), (Record.overflow m f).bytes p =
    le 1 (4 + if p then 0x80 else 0) ++ le 3 0 ++ le 2 m ++ le 2 0 ++ le 4 f.toNat ++ le 4 0) ∧
  (∀ e : WbEntry, e.bytes = le 1 (if e.desc.notify then 2 else 0) ++ le 1 e.status.code ++
    le 1 ((if e.late then 1 else 0) + if e.sourceLost then 2 else 0) ++ le 1 0 ++ le 4 e.actual ++
      le 4 e.firstFrame.toNat) ∧
  ([Status.ok, .staged, .unstaged, .applied, .nothingStaged, .badKind, .badField, .noHighway, .noSlot, .slotBusy,
      .stagingFull, .channelBusy, .channelIdle, .highwayInUse, .budget, .memoryError].map Status.code =
    [0x01, 0x02, 0x03, 0x04, 0x05, 0x10, 0x11, 0x12, 0x13, 0x14, 0x15, 0x16, 0x17, 0x18, 0x19, 0x1A] ∧
   [DescStatus.done, .short, .flushed, .bad].map DescStatus.code = [1, 2, 3, 4] ∧
   (∀ h : HwyId, (Source.hwy h).code = 0x10 + h.val) ∧ (Source.ref .refa).code = 0x20 ∧ (Source.ref .refb).code = 0x21) ∧
  (∀ (s : State) (h : HwyId), qhwyBytes s h =
    (let p := s.hwys[h]
     le 1 h.val ++ le 1 (if p.align = .disabled then 0 else 1) ++ le 1 p.slotCount ++
       le 1 (match p.align with | .disabled => 0 | .searching => 1 | .aligned => 2 | .lost => 3) ++
       le 4 s.tim.counter.toNat ++ le 1 p.subst.toNat ++ le 1 p.idle.toNat ++ le 1 p.correctRun ++ le 1 p.misRun ++
       le 1 p.silence ++ le 1 p.age ++ le 1 p.unread.length ++
       le 1 ((if p.last = none then 0 else 1) + if p.latch then 2 else 0) ++ le 2 p.deletes ++ le 2 p.repeats ++
       le 2 p.misframes ++
       le 2 ((List.finRange 16).map fun g =>
         if s.hwys[g].align = .disabled then 0 else s.hwys[g].slotCount).sum ++ le 40 0)) ∧
  (∀ (s : State) (c : ChanId), qchanBytes s c =
    (let ch := s.chans[c]
     let inFlight (m : OpMark) : Nat := (s.link.ops.filter fun o => o.kind.chan? = some c ∧ o.mark = m).length
     let cur (f : Current → Nat) : Nat := match ch.current with | some k => f k | none => 0
     le 1 (c.val + if ch.dir = .tx then 0x80 else 0) ++
       le 1 ((match ch.st with
           | .closed => 0 | .priming => 1 | .running => 2 | .starved => 3 | .closing => 4 | .faulted => 5) +
         8 * (match lookupKey c s.mc.entries with
           | none => 0 | some (.openEntry _) => 1 | some .closeEntry => 2 | some (.reslotEntry _ _) => 3) +
         32 * (match ch.lookahead with
           | none => 0 | some { index := _, owned := none } => 1 | some { index := _, owned := some _ } => 2)) ++
       le 1 ((if ch.current = none then 0 else 1) + 2 * cur (fun k => if k.late then 1 else 0) +
         4 * cur (fun k => if k.sourceLost then 1 else 0) + 8 * (if ch.latch then 1 else 0) +
         16 * (match ch.cause with
           | none => 0
           | some .deviceHalted => 5
           | some (.operation k timeout) =>
             (match k with | .descriptorRead => 1 | .dataRead => 2 | .dataWrite => 3 | .writeBack => 4) +
               if timeout then 8 else 0)) ++
       le 1 (ch.hwy.val + 16 * ch.complRing.val) ++ le 4 s.tim.counter.toNat ++ le 1 ch.idle.toNat ++
       le 1 (min 15 (inFlight .live) + 16 * min 15 (inFlight .stale)) ++
       le 2 (min 1023 ch.queue.length + 1024 * ch.slots.length) ++ le 2 ch.ringSize ++ le 2 ch.pos ++
       le 2 (cur fun k => k.desc.index) ++ le 2 (cur fun k => k.desc.frames) ++ le 2 (cur fun k => k.moved) ++
       le 2 (match ch.lookahead with | some l => l.index | none => 0) ++ le 4 ch.starved ++ le 4 ch.late ++
       (List.range 32).map fun k => BitVec.ofNat 8 (ch.slots.getD k 0))) ∧
  (∀ (s : State) (h : HwyId) (n : Nat), qslotBytes s h n =
    (let driver (d : Driver) : List Byte := match d with
       | .none => le 3 0
       | .connection g k => le 1 1 ++ le 1 g.val ++ le 1 k
       | .constant b => le 1 2 ++ le 1 b.toNat ++ le 1 0
       | .channel c => le 1 3 ++ le 1 c.val ++ le 1 0
     le 1 h.val ++ le 1 n ++
       le 1 (match (s.prospective none h n).2 with | .target => 1 | .claim => 2 | .release => 3 | .active => 4) ++
       le 1 0 ++ le 4 s.tim.counter.toNat ++ driver ((s.map[h][n]?).getD .none) ++ le 1 0 ++
       driver (s.prospective none h n).1 ++ le 1 0 ++ le 2 (entryCount s) ++ le 46 0)) ∧
  (∀ t : Timing, t.cands.length ≤ 4 → qtimeStateBytes t =
    (let source (sel : Selector) : Nat := match sel with
       | .freerun => 0 | .acquiring src => src.code | .locked src => src.code | .holdover => 0
     (le 1 1 ++ le 1 (match t.sel with | .freerun => 0 | .acquiring _ => 1 | .locked _ => 2 | .holdover => 3) ++
       le 1 (source t.sel) ++ le 1 (t.cands.length + if t.valid then 0x80 else 0) ++ le 4 t.counter.toNat ++
       le 2 t.acquire ++ le 2 t.lockedRun ++ le 4 t.elapsed ++
       (t.cands.flatMap fun c =>
         le 1 (c.src.code + 64 * (match c.st with | .failed => 1 | .qualifying => 2 | .qualified => 3)) ++
           le 1 ((match c.src with | .hwy _ => 0 | .ref _ => c.gap) + (if c.drift then 4 else 0) +
             if c.window = none then 0 else 8) ++
           le 2 (c.window.elim 0 Window.events) ++ le 2 (c.window.elim 0 Window.arrivals) ++ le 3 c.qualCount ++
           le 3 c.qualTime) ++ le (12 * (4 - t.cands.length)) 0)) ∧
    qtimeConfigBytes t =
      le 1 2 ++ le 1 t.cands.length ++ le 1 (if t.revertive then 1 else 0) ++ le 1 0 ++ le 4 t.counter.toNat ++
        le 1 t.qualifyTime ++ le 1 t.wtr ++ le 2 t.holdLimit ++ le 1 t.driftLimit ++
        (match t.exportSel with
         | .none => le 2 0
         | .device => le 1 1 ++ le 1 0
         | .source src => le 1 2 ++ le 1 src.code) ++ le 1 0 ++
        (t.cands.flatMap fun c => le 1 c.src.code) ++ le (48 - t.cands.length) 0)

/-! ### Device frame events -/

/-- A device frame event, as DEVICE_FRAME_EVENT or as HWY_SILENCE or HWY_LOST where one is due: the counter advances; each
port's counts advance and its read frame is taken, four silent events taking it out of ALIGNED and a search age of 64 to
LOST; HWY_LOST and HWY_SLIP are handed to the event ring; with no apply, map, staging set, device, processor and the
channels that move nothing stay; at the STOP clear event the ports do the same, but post nothing and leave the latch (R54,
R56, R58, R60, R115, R167). That the two rows are the whole event, and that the STOP clear event posts nothing, is the
model's reading (log entries 3 and 21). That with bus mastering disabled a slip sets the latch also where an earlier
record's halt keeps its HWY_SLIP from being handed is the model's choice (log entry 6). -/
def Obligations.PortsAtFrameEvent : Prop :=
  ∀ (c : Instr) (o : FrameOrder) (s : State),
    c = .deviceFrameEvent o ∨ (∃ h : HwyId, c = .hwySilence h o ∧ s.hwys[h].align = .aligned ∧ 4 ≤ s.hwys[h].silence + 1) ∨
      (∃ h : HwyId, c = .hwyLost h o ∧ s.hwys[h].align = .searching ∧ 64 ≤ s.hwys[h].age + 1) →
    ∃ t, exec c s = .next t ∧ t.tim.counter = s.tim.counter + 1 ∧
      (∀ h : HwyId, t.hwys[h] =
        (let p := { s.hwys[h] with tx := t.hwys[h].tx }
         match p.align with
         | .disabled => p
         | .lost => p
         | .searching => if p.age + 1 < 64 then { p with age := p.age + 1 } else { p with align := .lost, age := p.age + 1 }
         | .aligned =>
           if 4 ≤ p.silence + 1 then
             { p with align := .searching, correctRun := 0, age := 0, unread := [], last := none, misRun := 0, silence := 0 }
           else match p.unread, p.last with
             | f :: rest, _ => { p with silence := p.silence + 1, unread := rest, last := some f }
             | [], some _ => { p with
                 silence := p.silence + 1
                 repeats := if p.repeats < 65535 then p.repeats + 1 else p.repeats
                 latch := p.latch || decide (s.dev.st = .online ∧ NoStopClear s) }
             | [], none => { p with silence := p.silence + 1 })) ∧
      (Working s → NoStopClear s → s.mc.inFlight = false → t.map = s.map ∧ t.mc = s.mc ∧ t.dev = s.dev ∧ t.cfg = s.cfg ∧ t.proc = s.proc ∧
        ∀ k : ChanId, s.chans[k].st ≠ .running → s.chans[k].st ≠ .starved → t.chans[k] = s.chans[k]) ∧
      (Working s → NoStopClear s → s.comp.rings[s.comp.eventRing].missed = 0 → ∀ h : HwyId,
        (s.hwys[h].align = .searching → 64 ≤ s.hwys[h].age + 1 →
          Handed s.comp.eventRing (.event (.hwyLost h) (s.tim.counter + 1)) t) ∧
        (s.hwys[h].align = .aligned → s.hwys[h].silence + 1 < 4 → s.hwys[h].unread = [] → s.hwys[h].last ≠ none →
          s.hwys[h].latch = false → Handed s.comp.eventRing (.event (.hwySlip h) (s.tim.counter + 1)) t))

/-- The send frames of every device frame event, by the map in force at it: one byte for each slot of the map, by its
driver; the line of a highway that is not enabled is released. The map is the one before the event, at an apply the
prospective map, whose staged channels send their idle byte, and at the STOP clear event the cleared one (R2, R5 to R8,
R18, R33, R58, R62, R63, R75). What a CONNECTION sends whose source is no input slot any more is free (log entry 27). -/
def Obligations.SendFrames : Prop :=
  ∀ (o : FrameOrder) (s : State),
    ∃ t, exec (.deviceFrameEvent o) s = .next t ∧
      (¬(s.dev.st = .online ∧ s.dev.stopPending = true ∧ s.proc.st = .stopped) → s.mc.inFlight = false →
        t.map = s.map) ∧
      (s.mc.inFlight = true → t.map = s.prospectiveMap) ∧
      (s.dev.st = .online → s.dev.stopPending = true → s.proc.st = .stopped → s.mc.inFlight = false →
        ∀ h : HwyId, t.map[h] = List.replicate s.map[h].length .none) ∧
      ∀ h : HwyId,
      (s.hwys[h].align = .disabled → t.hwys[h].tx = none) ∧
      (s.hwys[h].align ≠ .disabled → ∃ f, t.hwys[h].tx = some f ∧ f.length = t.map[h].length ∧
        ∀ n : Nat, (t.map[h][n]? = some .none → f[n]? = some s.hwys[h].idle) ∧
          (∀ b : Byte, t.map[h][n]? = some (.constant b) → f[n]? = some b) ∧
          (∀ (g : HwyId) (k : Nat), t.map[h][n]? = some (.connection g k) → s.hwys[g].align ≠ .disabled →
            k < s.hwys[g].slotCount → f[n]? = some (byteAt (readFrame s.hwys[g]) k)) ∧
          (∀ c : ChanId, t.map[h][n]? = some (.channel c) →
            (s.mc.inFlight = false ∨ lookupKey c s.mc.entries = none →
              (∀ d, s.chans[c].st = .running → s.chans[c].ready = some d → n ∈ s.chans[c].slots →
                d.length = s.chans[c].slots.length → f[n]? = d[s.chans[c].slots.idxOf n]?) ∧
              (s.chans[c].st ≠ .running ∨ s.chans[c].ready = none → f[n]? = some s.chans[c].idle)) ∧
            (s.mc.inFlight = true → lookupKey c s.mc.entries ≠ none → f[n]? = some t.chans[c].idle)))

/-- The candidates at a device frame event, as DEVICE_FRAME_EVENT or, where due, as REFERENCE_LOSS, DRIFT_WINDOW_END or
CANDIDATE_QUALIFIED: a pulse gap of 3 is a loss and fails the candidate; a window that ends is judged against the drift
limit; a good candidate goes from FAILED to QUALIFYING, counts there, is QUALIFIED when its time is up, and then counts
its qualified time (R119 to R123). That each row is the whole event is the model's reading (log entry 3). -/
def Obligations.CandidatesAtFrameEvent : Prop :=
  ∀ (o : FrameOrder) (k : Cand) (s : State), (s.tim.cands.map Cand.src).Nodup → k ∈ s.tim.cands →
    (∀ r : RefInput, k.src = .ref r → k.gap = 2 →
      ∃ t k', exec (.referenceLoss r o) s = .next t ∧ exec (.deviceFrameEvent o) s = .next t ∧ k' ∈ t.tim.cands ∧
        k'.src = k.src ∧ k'.gap = 3 ∧ k'.window = none ∧ k'.st = .failed ∧
        (k.st ≠ .failed → k'.qualCount = 0 ∧ k'.qualTime = 0)) ∧
    (∀ w : Window, (match k.src with
          | .hwy h => s.hwys[h].align = .aligned ∧ s.hwys[h].silence + 1 < 4
          | .ref _ => k.gap + 1 < 3) →
      k.window = some w → w.events = 7999 →
      ∃ t k', exec (.driftWindowEnd k.src o) s = .next t ∧ exec (.deviceFrameEvent o) s = .next t ∧
        k' ∈ t.tim.cands ∧ k'.src = k.src ∧ k'.window = some { events := 0, arrivals := 0 } ∧
        (k'.drift = true ↔ 8000 + s.tim.driftLimit < w.arrivals ∨ w.arrivals + s.tim.driftLimit < 8000) ∧
        (k'.drift = true → k'.st = .failed) ∧ (k'.drift = false → k'.st ≠ .failed)) ∧
    (StaysGood s k → k.st = .qualifying → s.tim.qualifyTime * 8000 ≤ k.qualCount + 1 →
      ∃ t k', exec (.candidateQualified k.src o) s = .next t ∧ exec (.deviceFrameEvent o) s = .next t ∧ k' ∈ t.tim.cands ∧
        k'.src = k.src ∧ k'.st = .qualified ∧ k'.qualTime = 0) ∧
    (StaysGood s k → ∃ t k', exec (.deviceFrameEvent o) s = .next t ∧ k' ∈ t.tim.cands ∧ k'.src = k.src ∧
      (k.st = .failed → k'.st = .qualifying ∧ k'.qualCount = 0 ∧ k'.window = some { events := 0, arrivals := 0 }) ∧
      (k.st = .qualifying → k.qualCount + 1 < s.tim.qualifyTime * 8000 →
        k'.st = .qualifying ∧ k'.qualCount = k.qualCount + 1) ∧
      (k.st = .qualified → k'.st = .qualified ∧
        k'.qualTime = if k.qualTime < 2040000 then k.qualTime + 1 else k.qualTime))

/-- The selector at a device frame event: FREERUN or HOLDOVER to ACQUIRING on the best QUALIFIED candidate; the ordinary
counts; SELECT_LOCKED after 8000 events in ACQUIRING; HOLDOVER_VALID after 8000 in LOCKED; HOLDOVER_LIMIT to FREERUN;
WAIT_TO_RESTORE to a higher candidate; and when the selected reference goes into loss, the best other QUALIFIED candidate,
those that qualify at the event among them, or else HOLDOVER or FREERUN; the holdover limit written comes into force (R125
to R131, R134). That each row is the whole event is the model's reading (log entry 3), and the field of the limit in force
its own (log entry 22). -/
def Obligations.SelectorAtFrameEvent : Prop :=
  ∀ (o : FrameOrder) (k : Cand) (s : State), TimingInv s →
    (∃ t, exec (.deviceFrameEvent o) s = .next t ∧ t.tim.limitInForce = s.tim.holdLimit) ∧
    (∀ pre post, s.tim.cands = pre ++ k :: post → (∀ c ∈ pre, c.st = .failed) → StaysGood s k → k.st = .qualified →
      s.tim.sel = .freerun ∨ s.tim.sel = .holdover →
      ∃ t, exec (.deviceFrameEvent o) s = .next t ∧ t.tim.sel = .acquiring k.src ∧ t.tim.acquire = 0 ∧
        t.tim.valid = s.tim.valid) ∧
    (k ∈ s.tim.cands → StaysGood s k → s.tim.revertive = false → s.tim.sel = .acquiring k.src →
      s.tim.acquire + 1 < 8000 →
      ∃ t, exec (.deviceFrameEvent o) s = .next t ∧ t.tim.sel = .acquiring k.src ∧ t.tim.acquire = s.tim.acquire + 1) ∧
    (k ∈ s.tim.cands → StaysGood s k → s.tim.revertive = false → s.tim.sel = .locked k.src →
      ∃ t, exec (.deviceFrameEvent o) s = .next t ∧ t.tim.sel = .locked k.src ∧
        t.tim.lockedRun = min 8000 (s.tim.lockedRun + 1) ∧ t.tim.valid = (s.tim.valid || decide (8000 ≤ s.tim.lockedRun + 1))) ∧
    (s.tim.sel = .holdover → (∀ c ∈ s.tim.cands, c.st = .failed) → s.tim.elapsed + 1 < s.tim.holdLimit * 8000 →
      ∃ t, exec (.deviceFrameEvent o) s = .next t ∧ t.tim.sel = .holdover ∧ t.tim.elapsed = s.tim.elapsed + 1 ∧
        t.tim.valid = s.tim.valid) ∧
    (∀ (q : Cand) (pre post : List Cand), k ∈ s.tim.cands → s.tim.cands = pre ++ q :: post →
      (∀ c ∈ pre, c.src = k.src ∨ c.st = .failed) → q.src ≠ k.src → StaysGood s q →
      q.st = .qualified ∨ q.st = .qualifying ∧ s.tim.qualifyTime * 8000 ≤ q.qualCount + 1 →
      s.tim.sel = .acquiring k.src ∨ s.tim.sel = .locked k.src →
      (∃ r : RefInput, k.src = .ref r ∧ k.gap = 2) ∨
        s.tim.revertive = false ∧ ∃ h : HwyId, k.src = .hwy h ∧ s.hwys[h].align = .aligned ∧ 4 ≤ s.hwys[h].silence + 1 →
      ∃ t, exec (.deviceFrameEvent o) s = .next t ∧ t.tim.sel = .acquiring q.src ∧ t.tim.acquire = 0) ∧
    (k ∈ s.tim.cands → StaysGood s k → s.tim.revertive = false → s.tim.sel = .acquiring k.src →
      8000 ≤ s.tim.acquire + 1 →
      ∃ t, exec (.selectLocked o) s = .next t ∧ exec (.deviceFrameEvent o) s = .next t ∧ t.tim.sel = .locked k.src ∧
        t.tim.lockedRun = 0 ∧
        t.tim.valid = s.tim.valid) ∧
    (k ∈ s.tim.cands → StaysGood s k → s.tim.revertive = false → s.tim.sel = .locked k.src → s.tim.lockedRun = 7999 →
      ∃ t, exec (.holdoverValid o) s = .next t ∧ exec (.deviceFrameEvent o) s = .next t ∧ t.tim.sel = .locked k.src ∧
        t.tim.lockedRun = 8000 ∧
        t.tim.valid = true) ∧
    (s.tim.sel = .holdover → (∀ c ∈ s.tim.cands, c.st = .failed) → s.tim.holdLimit * 8000 ≤ s.tim.elapsed + 1 →
      ∃ t, exec (.holdoverLimit o) s = .next t ∧ exec (.deviceFrameEvent o) s = .next t ∧ t.tim.sel = .freerun ∧
        t.tim.valid = false) ∧
    (∀ top : Cand, k ∈ s.tim.cands → StaysGood s k → s.tim.sel = .acquiring k.src ∨ s.tim.sel = .locked k.src →
      s.tim.revertive = true → s.tim.cands.head? = some top → top.src ≠ k.src → StaysGood s top → top.st = .qualified →
      s.tim.wtr * 8000 ≤ top.qualTime + 1 → top.qualTime < 2040000 →
      ∃ t, exec (.waitToRestore o) s = .next t ∧ exec (.deviceFrameEvent o) s = .next t ∧ t.tim.sel = .acquiring top.src ∧
        t.tim.acquire = 0) ∧
    (∀ r : RefInput, k ∈ s.tim.cands → k.src = .ref r → k.gap = 2 →
      s.tim.sel = .acquiring k.src ∨ s.tim.sel = .locked k.src → (∀ c ∈ s.tim.cands, c.src = k.src ∨ c.st = .failed) →
      ∃ t, exec (.referenceLoss r o) s = .next t ∧ exec (.deviceFrameEvent o) s = .next t ∧
        if s.tim.valid = true ∧ 0 < s.tim.holdLimit then t.tim.sel = .holdover ∧ t.tim.elapsed = 0
        else t.tim.sel = .freerun ∧ t.tim.valid = false)

/-- The TIMING records and REFOUT: a candidate that fails at a device frame event hands on CANDIDATE_FAILED with its
cause, and one that turns good CANDIDATE_GOOD; a selector that enters a state hands on its record, at a device frame
event, a frame arrival, a SETHWY and a SETREF alike, and so does CANDIDATE_FAILED where an arrival or a SETHWY takes a
listed highway out of ALIGNED; outside ONLINE nothing is handed; and with DEVICE exported REFOUT gives one pulse at each
device frame event and none with no export (R118 to R123, R137, R138). The count of REFOUT's pulses is the model's own
(log entry 18). -/
def Obligations.TimingRecords : Prop :=
  (∀ (o : FrameOrder) (s : State), Working s → TimingInv s → s.comp.rings[s.comp.eventRing].missed = 0 →
    NoStopClear s →
    ∃ t, exec (.deviceFrameEvent o) s = .next t ∧
      (∀ k ∈ s.tim.cands,
        (∀ r : RefInput, k.src = .ref r → k.gap = 2 → k.st ≠ .failed →
          Handed s.comp.eventRing (.event (.timing (.candidateFailed k.src .loss)) (s.tim.counter + 1)) t) ∧
        (∀ h : HwyId, k.src = .hwy h → s.hwys[h].align = .aligned → 4 ≤ s.hwys[h].silence + 1 → k.st ≠ .failed →
          k.drift = false → (∀ w, k.window = some w → w.events + 1 < 8000) →
          Handed s.comp.eventRing (.event (.timing (.candidateFailed k.src .loss)) (s.tim.counter + 1)) t) ∧
        (∀ w : Window, (match k.src with
              | .hwy h => s.hwys[h].align = .aligned ∧ s.hwys[h].silence + 1 < 4
              | .ref _ => k.gap + 1 < 3) →
          k.window = some w → w.events = 7999 → k.st ≠ .failed →
          8000 + s.tim.driftLimit < w.arrivals ∨ w.arrivals + s.tim.driftLimit < 8000 →
          Handed s.comp.eventRing (.event (.timing (.candidateFailed k.src .drift)) (s.tim.counter + 1)) t) ∧
        (StaysGood s k → k.st = .failed →
          Handed s.comp.eventRing (.event (.timing (.candidateGood k.src)) (s.tim.counter + 1)) t)) ∧
      (t.tim.sel ≠ s.tim.sel → Handed s.comp.eventRing (.event (.timing (selectEvent t.tim.sel)) (s.tim.counter + 1)) t)) ∧
  (∀ (c : Instr) (s t : State), Working s → s.comp.rings[s.comp.eventRing].missed = 0 →
    (∃ h f, c = .frameArrival h f true) ∨ (∃ r f, (c = .setref r ∨ c = .sethwy r) ∧ Fetching f s) → exec c s = .next t →
    (t.tim.sel ≠ s.tim.sel → Handed s.comp.eventRing (.event (.timing (selectEvent t.tim.sel)) s.tim.counter) t) ∧
    (∀ h : HwyId, s.hwys[h].align = .aligned → t.hwys[h].align ≠ .aligned →
      ∀ k, s.tim.cands.find? (fun k => k.src == .hwy h) = some k → k.st ≠ .failed →
        Handed s.comp.eventRing (.event (.timing (.candidateFailed k.src .loss)) s.tim.counter) t)) ∧
  (∀ (o : FrameOrder) (s : State), s.dev.st ≠ .online →
    ∃ t, exec (.deviceFrameEvent o) s = .next t ∧ t.comp = s.comp ∧ t.link.messages = s.link.messages) ∧
  (∀ (o : FrameOrder) (s : State), ∃ t, exec (.deviceFrameEvent o) s = .next t ∧
    t.tim.refout = if s.tim.exportSel = .device then s.tim.refout + 1 else s.tim.refout)

/-- A receive channel moves a frame at a device frame event that is not its buffer's last: the bytes of its slots go out
in one data write at the frame's place in the buffer; at the first frame the lookahead read is issued, or deferred while
its index is queued. So at every event in ONLINE but the STOP clear event, with a STOP pending too, and at an apply that
does not touch the channel (R33, R74, R77, R90, R102). The field that says the read is deferred is the model's (log entry
22). -/
def Obligations.ReceiveMoves : Prop :=
  ∀ (o : FrameOrder) (c : ChanId) (cur : Current) (s : State), Working s → NoStopClear s →
    Untouched c s → s.chans[c].st = .running → s.chans[c].dir = .rx → s.chans[c].current = some cur →
    cur.moved + 1 < cur.desc.frames → s.hwys[s.chans[c].hwy].align ≠ .disabled →
    ∃ t, exec (.deviceFrameEvent o) s = .next t ∧
      t.chans[c] = { s.chans[c] with
        current := some { cur with
          moved := cur.moved + 1
          firstFrame := if cur.moved = 0 then s.tim.counter + 1 else cur.firstFrame
          sourceLost := cur.sourceLost || substituted s.hwys[s.chans[c].hwy]
          unaccepted := cur.unaccepted + 1 }
        deferred :=
          if cur.moved = 0 then s.chans[c].queue.any fun e => e.desc.index == (cur.desc.index + 1) % s.chans[c].ringSize
          else s.chans[c].deferred } ∧
      (∃ w ∈ t.link.ops, w.kind = .dataWrite c cur.desc.index ∧ w.mark = .live ∧
        w.addr = cur.desc.buffer + BitVec.ofNat 64 (cur.moved * s.chans[c].slots.length) ∧
        w.data = s.chans[c].slots.map fun n => byteAt (readFrame s.hwys[s.chans[c].hwy]) n) ∧
      (cur.moved = 0 → (∀ e ∈ s.chans[c].queue, e.desc.index ≠ (cur.desc.index + 1) % s.chans[c].ringSize) →
        ∃ d ∈ t.link.ops, d.kind = .descRead c ((cur.desc.index + 1) % s.chans[c].ringSize) ∧ d.mark = .live ∧ d.len = 32)

/-- A transmit channel moves a frame at a device frame event that is not its buffer's last: a frame that is not ready is
late; the data read of the next frame is issued; with a STOP pending too, and at an apply that does not touch the channel
(R33, R75, R76, R77, R90, R104). The numbering of the data reads is the model's (log entry 22). -/
def Obligations.TransmitMoves : Prop :=
  ∀ (o : FrameOrder) (c : ChanId) (cur : Current) (s : State), Working s → NoStopClear s →
    Untouched c s → s.chans[c].st = .running → s.chans[c].dir = .tx → s.chans[c].current = some cur →
    cur.moved + 1 < cur.desc.frames →
    ∃ t, exec (.deviceFrameEvent o) s = .next t ∧
      t.chans[c] = { s.chans[c] with
        current := some { cur with
          moved := cur.moved + 1
          firstFrame := if cur.moved = 0 then s.tim.counter + 1 else cur.firstFrame
          late := cur.late || s.chans[c].ready.isNone }
        ready := none
        due := some s.chans[c].readSeq
        readSeq := s.chans[c].readSeq + 1
        late := if s.chans[c].ready = none ∧ s.chans[c].late < 4294967295 then s.chans[c].late + 1 else s.chans[c].late
        deferred :=
          if cur.moved = 0 then s.chans[c].queue.any fun e => e.desc.index == (cur.desc.index + 1) % s.chans[c].ringSize
          else s.chans[c].deferred } ∧
      ∃ d ∈ t.link.ops, d.kind = .dataRead c s.chans[c].readSeq ∧ d.mark = .live ∧ d.len = s.chans[c].slots.length ∧
        d.addr = cur.desc.buffer + BitVec.ofNat 64 ((cur.moved + 1) * s.chans[c].slots.length)

/-- The device frame event that moves a descriptor's last frame ends it DONE: a valid lookahead takes over, a transmit
channel reading its first frame, and with none, or a host-owned one, the channel is STARVED, as it is with an invalid one,
which is returned BAD; entering STARVED with its latch clear it hands CHAN_STARVED; a host-owned lookahead is read again
while frames are left; a STARVED channel counts the event and reads the descriptor at its ring position; with a STOP
pending too, and at an apply that does not touch the channel (R33, R75, R77, R78, R80, R81, R89, R90). The numbering of
the data reads is the model's (log entry 22). -/
def Obligations.BufferEndsAndStarves : Prop :=
  ∀ (o : FrameOrder) (c : ChanId) (s : State), Working s → NoStopClear s → Untouched c s →
    (∀ cur, s.chans[c].st = .running → s.chans[c].current = some cur → cur.moved + 1 = cur.desc.frames →
      ∃ t e, exec (.deviceFrameEvent o) s = .next t ∧ e.desc = cur.desc ∧ e.status = .done ∧ e.actual = cur.moved + 1 ∧
        e.firstFrame = (if cur.moved = 0 then s.tim.counter + 1 else cur.firstFrame) ∧
        e.unaccepted = cur.unaccepted + (if s.chans[c].dir = .rx then 1 else 0) ∧
        e.late = (cur.late || s.chans[c].dir == .tx && s.chans[c].ready.isNone) ∧
        (s.hwys[s.chans[c].hwy].align ≠ .disabled →
          e.sourceLost = (cur.sourceLost || s.chans[c].dir == .rx && (substituted s.hwys[s.chans[c].hwy]))) ∧
        t.chans[c].lookahead = none ∧
        (t.chans[c].st = .starved → s.chans[c].latch = false → s.comp.rings[s.comp.eventRing].missed = 0 →
          Handed s.comp.eventRing (.event (.chanStarved c) (s.tim.counter + 1)) t) ∧
        match s.chans[c].lookahead with
        | some { index := _, owned := some d } =>
          if 1 ≤ d.frames ∧ d.frames ≤ 4096 then
            t.chans[c].st = .running ∧ t.chans[c].current = some (freshCopy d) ∧
              t.chans[c].queue = s.chans[c].queue ++ [e] ∧
              (s.chans[c].dir = .tx → t.chans[c].ready = none ∧ t.chans[c].due = some s.chans[c].readSeq ∧
                ∃ x ∈ t.link.ops, x.kind = .dataRead c s.chans[c].readSeq ∧ x.mark = .live ∧
                  x.len = s.chans[c].slots.length ∧ x.addr = d.buffer)
          else
            t.chans[c].st = .starved ∧ t.chans[c].current = none ∧
              t.chans[c].queue = s.chans[c].queue ++ [e, unmoved d .bad] ∧ t.chans[c].latch = true
        | some { index := _, owned := none } =>
          t.chans[c].st = .starved ∧ t.chans[c].current = none ∧ t.chans[c].queue = s.chans[c].queue ++ [e] ∧
            t.chans[c].latch = true
        | none =>
          t.chans[c].st = .starved ∧ t.chans[c].current = none ∧ t.chans[c].queue = s.chans[c].queue ++ [e] ∧
            t.chans[c].latch = true) ∧
    (∀ cur j, s.chans[c].st = .running → s.chans[c].current = some cur → 1 ≤ cur.moved →
      cur.moved + 1 < cur.desc.frames → s.chans[c].lookahead = some { index := j, owned := none } →
      ¬LiveOf c (fun k => k.isDescRead = true) s →
      ∃ t, exec (.deviceFrameEvent o) s = .next t ∧
        ∃ d ∈ t.link.ops, d.kind = .descRead c j ∧ d.mark = .live ∧ d.len = 32 ∧
          d.addr = s.chans[c].ringBase + BitVec.ofNat 64 (32 * j)) ∧
    (s.chans[c].st = .starved → ∃ t, exec (.deviceFrameEvent o) s = .next t ∧
        t.chans[c] = { s.chans[c] with
          starved := if s.chans[c].starved < 4294967295 then s.chans[c].starved + 1 else s.chans[c].starved } ∧
        (s.chans[c].queue = [] → ¬LiveOf c (fun k => k.isDescRead = true) s → ∃ d ∈ t.link.ops, d.kind = .descRead c s.chans[c].pos ∧ d.mark = .live ∧ d.len = 32 ∧
          d.addr = s.chans[c].ringBase + BitVec.ofNat 64 (32 * s.chans[c].pos)))

/-- APPLY: the active map becomes the prospective map, every OPEN makes its channel PRIMING with its descriptor read in
flight; every CLOSE and RESLOT of an open channel makes it CLOSING or PRIMING, a moved current copy returned SHORT, every
other copy and the ready data dropped, its reads in flight stale and its writes live; a FAULTED one is CLOSED or keeps to
its new slots with no memory access; the set is emptied, and the COMMIT completes APPLIED with the entry count and the
frame number, with a STOP pending placed, or dropped and counted, and the processor STOPPED (R11, R32, R34 to R37, R69,
R72, R82, R83, R87, R177). That APPLY is the whole event is the model's reading (log entry 3), and the channel's fields
for the read due, the deferred read and the closing are its own (log entry 22). -/
def Obligations.ApplyTakesEffect : Prop :=
  ∀ (o : FrameOrder) (hand : Hand) (s : State), Working s → StagingInv s → s.mc.inFlight = true →
    s.proc.hand = some hand →
    ∃ t, exec (.apply o) s = .next t ∧ exec (.deviceFrameEvent o) s = .next t ∧
      t.mc = { targets := [], entries := [], inFlight := false } ∧
      t.tim.counter = s.tim.counter + 1 ∧
      (∀ h : HwyId, t.map[h].length = s.map[h].length ∧
        ∀ n, n < s.map[h].length → t.map[h][n]? = some (s.prospective none h n).1) ∧
      (∀ (c : ChanId) (p : OpenParams), (c, .openEntry p) ∈ s.mc.entries →
        t.chans[c] = { Chan.reset with
          st := .priming, dir := p.dir, hwy := p.hwy, slots := p.slots, idle := p.idle, ringBase := p.ringBase
          ringSize := p.ringSize, complRing := p.complRing } ∧
        ∃ d ∈ t.link.ops, d.kind = .descRead c 0 ∧ d.mark = .live ∧ d.addr = p.ringBase ∧ d.len = 32) ∧
      (∀ c : ChanId, (c, .closeEntry) ∈ s.mc.entries →
        (s.chans[c].st = .priming ∨ s.chans[c].st = .running ∨ s.chans[c].st = .starved → EntersClosing c s t) ∧
        (s.chans[c].st = .faulted →
          t.chans[c] = { s.chans[c] with st := .closed, slots := [] } ∧ opsOf c t = opsOf c s)) ∧
      (∀ (c : ChanId) (h : HwyId) (l : List Nat), (c, .reslotEntry h l) ∈ s.mc.entries →
        (s.chans[c].st = .priming ∨ s.chans[c].st = .running ∨ s.chans[c].st = .starved → Reprimes c h l s t) ∧
        (s.chans[c].st = .faulted →
          t.chans[c] = { s.chans[c] with hwy := h, slots := l } ∧ opsOf c t = opsOf c s)) ∧
      (∀ c : ChanId, lookupKey c s.mc.entries = none → s.chans[c].st ≠ .running → s.chans[c].st ≠ .starved →
        t.chans[c] = s.chans[c]) ∧
      (let d : ReqDone := { status := .applied, consumed := s.proc.consumed, tag := hand.tag, value := entryCount s,
                            frame := s.tim.counter + 1 }
       if s.dev.stopPending then
         t.proc.st = .stopped ∧ t.dev.stopPending = true ∧ Handed hand.ring (.requestDone d) t
       else
         (∃ w ∈ t.link.ops, w.kind = .recordWrite hand.ring ∧ ∃ phase, w.data = (Record.requestDone d).bytes phase) ∨
           t.proc.st = .waitingSpace ∧ t.comp.rings[hand.ring].held = some d)

/-- STOP_CLEAR_EVENT: stop pending is cleared and the device is STOPPING; every map entry is NONE; every open channel is
CLOSING, a moved current copy returned SHORT, every other copy and the ready data dropped, its reads in flight stale and
its writes live, and begins its closing; every FAULTED one is CLOSED with no memory access, and the others stay as they
are; a device with nothing left to wait for is OFFLINE at once (R18, R69, R83, R84, R90, R107, R189, R190). That
STOP_CLEAR_EVENT is the whole event, and that the clearing comes before the rest of it, so that nothing of it is posted,
is the model's reading (log entries 3 and 21), and the channel's fields for the closing are its own (log entry 22). -/
def Obligations.StopClear : Prop :=
  ∀ (o : FrameOrder) (s : State), Working s → s.dev.stopPending = true → s.proc.st = .stopped → s.mc.inFlight = false →
    ∃ t, exec (.stopClearEvent o) s = .next t ∧ exec (.deviceFrameEvent o) s = .next t ∧ t.dev.stopPending = false ∧
      t.tim.counter = s.tim.counter + 1 ∧
      t.comp = s.comp ∧ t.proc = s.proc ∧
      (∀ h : HwyId, t.map[h] = List.replicate s.map[h].length .none) ∧
      (∀ c : ChanId, match s.chans[c].st with
        | .priming => EntersClosing c s t
        | .running => EntersClosing c s t
        | .starved => EntersClosing c s t
        | .faulted => t.chans[c] = { s.chans[c] with st := .closed, slots := [] } ∧ opsOf c t = opsOf c s
        | .closed => t.chans[c] = s.chans[c] ∧ opsOf c t = opsOf c s
        | .closing => t.chans[c] = s.chans[c] ∧ opsOf c t = opsOf c s) ∧
      t.dev.st = if (∀ c : ChanId, s.chans[c].st = .closed ∨ s.chans[c].st = .faulted) ∧ s.link.ops = [] then .offline
        else .stopping

/-! ### Arrivals -/

/-- FRAME_ARRIVAL: nothing for a highway that is not enabled or whose SETHWY came after the start mark; otherwise the port
takes the frame by its length and alignment state, its candidate counts the arrival or begins or ends a loss, and
HWY_RECOVERED and HWY_SLIP go to the event ring; a selector on a candidate that fails moves, with the limit in force, and
REFOUT carries the arrival of an exported highway whose candidate is not FAILED after it (R51 to R53, R55 to R57, R60,
R120, R123, R128, R134, R137). The operand that says where the start mark fell is the model's (log entry 20), and so are
the count of REFOUT's pulses (log entry 18) and the reading that REFOUT goes by the candidate's state after the arrival
(log entry 10). -/
def Obligations.FrameArrivalTaken : Prop :=
  ∀ (h : HwyId) (f : Frame) (s : State), Settled s →
    (exec (.frameArrival h f false) s = .next s) ∧
    (s.hwys[h].align = .disabled → exec (.frameArrival h f true) s = .next s) ∧
    (s.hwys[h].align ≠ .disabled →
      ∃ t, exec (.frameArrival h f true) s = .next t ∧ t.map = s.map ∧ t.tim.counter = s.tim.counter ∧
        t.hwys = s.hwys.set h
          (let p := s.hwys[h]
           let q := { p with misframes := if p.misframes < 65535 then p.misframes + 1 else p.misframes }
           if p.align = .aligned then
             if f.length = p.slotCount then
               if p.unread.length < 2 then { p with silence := 0, misRun := 0, unread := p.unread ++ [f] }
               else { p with
                 silence := 0
                 misRun := 0
                 unread := p.unread.drop 1 ++ [f]
                 deletes := if p.deletes < 65535 then p.deletes + 1 else p.deletes
                 latch := p.latch || decide (s.dev.st = .online) }
             else if p.misRun + 1 < 3 then { q with silence := 0, misRun := p.misRun + 1 }
             else { q with align := .searching, correctRun := 0, age := 0, unread := [], last := none, misRun := 0, silence := 0 }
           else if f.length = p.slotCount then
             if p.correctRun + 1 < 2 then { p with correctRun := p.correctRun + 1 }
             else { p with
               align := .aligned, unread := [], last := none, correctRun := 0, misRun := 0, silence := 0, age := 0 }
           else { q with correctRun := 0 }) ∧
        t.tim.cands = (s.tim.cands.map fun k =>
          if k.src = .hwy h then
            if s.hwys[h].align = .aligned then
              if t.hwys[h].align = .aligned then
                { k with window := k.window.map fun w =>
                    { w with arrivals := if w.arrivals < 65535 then w.arrivals + 1 else w.arrivals } }
              else { k with st := .failed, qualCount := 0, qualTime := 0, window := none }
            else if t.hwys[h].align = .aligned then { k with gap := 0, window := some { events := 0, arrivals := 1 } }
            else k
          else k) ∧
        (TimingInv s → t.tim =
          { (if s.hwys[h].align = .aligned ∧ t.hwys[h].align ≠ .aligned then afterLoss (fun g => g == h) s.tim
             else s.tim) with
            cands := t.tim.cands
            refout :=
              if s.tim.exportSel = .source (.hwy h) ∧ ∃ k ∈ t.tim.cands, k.src = .hwy h ∧ k.st ≠ .failed then
                s.tim.refout + 1
              else s.tim.refout }) ∧
        (Working s → t.chans = s.chans ∧ t.mc = s.mc ∧ t.proc = s.proc ∧ t.dev = s.dev) ∧
        (Working s → s.comp.rings[s.comp.eventRing].missed = 0 →
          (s.hwys[h].align = .lost → f.length = s.hwys[h].slotCount → 2 ≤ s.hwys[h].correctRun + 1 →
            Handed s.comp.eventRing (.event (.hwyRecovered h) s.tim.counter) t) ∧
          (s.hwys[h].align = .aligned → f.length = s.hwys[h].slotCount → 2 ≤ s.hwys[h].unread.length →
            s.hwys[h].latch = false → Handed s.comp.eventRing (.event (.hwySlip h) s.tim.counter) t)))

/-- REFERENCE_PULSE: the pulse gap is 0 again; the pulse ends a loss, as the first arrival of a new window, or counts in
the running one; REFOUT carries it when its input is exported and not FAILED (R119, R120, R137). The count of REFOUT's
pulses is the model's own (log entry 18). -/
def Obligations.ReferencePulseTaken : Prop :=
  ∀ (r : RefInput) (s : State), Settled s →
    exec (.referencePulse r) s = .next { s with tim := { s.tim with
      cands := s.tim.cands.map fun k =>
        if k.src = .ref r then
          if 3 ≤ k.gap then { k with gap := 0, window := some { events := 0, arrivals := 1 } }
          else { k with gap := 0, window := k.window.map fun w =>
            { w with arrivals := if w.arrivals < 65535 then w.arrivals + 1 else w.arrivals } }
        else k
      refout :=
        if s.tim.exportSel = .source (.ref r) ∧ ((s.tim.cands.find? fun k => k.src == .ref r).any fun k => k.st != .failed)
        then s.tim.refout + 1 else s.tim.refout } }

/-! ### The ends of a channel's operations -/

/-- A channel's live operation fails, by its own row or as OPERATION_TIMEOUT: an open channel is FAULTED with its cause,
its operations stale, and CHAN_FAULT is handed on; a CLOSING channel ends its closing, with the others still in flight
waited for, and with none CLOSED with MEMORY_ERROR; so in ONLINE, with its record, and in STOPPING, with none (R85, R86,
R90, R190, R195). -/
def Obligations.ChannelOperationFails : Prop :=
  ∀ (f : Op) (c : ChanId) (timeout : Bool) (cmd : Instr) (s : State), Linked s → LinkInv s →
    s.liveOp f.id = some f →
    (timeout = true ∧ cmd = .operationTimeout f.id ∨
      (let r : ReadEnd := if timeout then .timeout else .error
       let w : WriteEnd := if timeout then .timeout else .error
       match f.kind with
       | .descRead _ _ => cmd = .descriptorReadEnd f.id r
       | .dataRead _ _ => cmd = .dataReadEnd f.id r
       | .dataWrite _ _ => cmd = .dataWriteEnd f.id w
       | .writeBack _ _ _ => cmd = .writeBackEnd f.id w
       | .flushRead _ _ => cmd = .flushReadEnd f.id r
       | _ => False)) →
    f.kind.chan? = some c →
    (∀ k : ChanOpKind,
      (match f.kind with
       | .descRead _ _ => k = .descriptorRead
       | .dataRead _ _ => k = .dataRead
       | .dataWrite _ _ => k = .dataWrite
       | .writeBack _ _ _ => k = .writeBack
       | _ => False) →
      s.chans[c].st = .priming ∨ s.chans[c].st = .running ∨ s.chans[c].st = .starved →
      exec cmd s = .next (ended (afterEvent (.chanFault c (.operation k timeout))
        (staleOf c (withChan c (faultedChan (.operation k timeout) s.chans[c]) (without f s)))))) ∧
    (s.chans[c].st = .closing → exec cmd s = .next (moment c (fun u => u)
      (withChan c { s.chans[c] with closeFailed := true, queue := [], walk := .ended } (without f s))))

/-- LATE_ANSWER changes nothing, whatever identifier and end it names, which is the model's choice (log entry 26).
STALE_OPERATION_END takes an operation that is not live out of flight, whatever its end, and changes nothing else, but for
what waited for it: a RESETTING or STOPPING device, and a CLOSING channel; a channel in any other state goes on as if
nothing had ended, a CLOSED, FAULTED, RUNNING or STARVED one, or a PRIMING one with a read of its own in flight (R69, R72,
R85, R192, R194 to R196). -/
def Obligations.LateAndStaleEnds : Prop :=
  (∀ (id : Nat) (e : OpEnd) (s : State), exec (.lateAnswer id e) s = .next s) ∧
  (∀ (f : Op) (e : OpEnd) (s : State), Linked s → LinkInv s → s.findOp f.id = some f →
    (f.mark = .dropped ∨ f.mark = .stale ∧ f.kind.chan? = none →
      exec (.staleOperationEnd f.id e) s = .next (ended (without f s))) ∧
    (∀ c : ChanId, f.mark = .stale → f.kind.chan? = some c →
      exec (.staleOperationEnd f.id e) s = .next (moment c (fun u => u) (without f s)) ∧
      (s.chans[c].st = .closed ∨ s.chans[c].st = .faulted ∨
        (s.chans[c].st = .running ∨ s.chans[c].st = .starved) ∧ s.chans[c].queue = [] ∨
        s.chans[c].st = .priming ∧ s.chans[c].queue = [] ∧ LiveOf c (fun k => k.isDescRead = true) s ∨
        s.chans[c].st = .closing ∧ (∃ n, s.chans[c].walk = .walking n) ∧ s.chans[c].queue = [] →
        exec (.staleOperationEnd f.id e) s = .next (ended (without f s)))))

/-- DESCRIPTOR_READ_END with data: in PRIMING and STARVED a valid device-owned descriptor makes the channel RUNNING, a
transmit channel's first data read in flight; an invalid one is returned BAD; a host-owned one leaves it or makes it
STARVED, posting CHAN_STARVED in ONLINE with the latch clear; in RUNNING the descriptor is held as the lookahead; in every
state the channel then goes on as far as it can (R72, R73, R77, R80, R81, R89, R94, R95). -/
def Obligations.DescriptorReadEnd : Prop :=
  ∀ (f : Op) (c : ChanId) (i : Nat) (bytes : List Byte) (s : State), Linked s → LinkInv s → s.liveOp f.id = some f →
    f.kind = .descRead c i →
    (let d := parseDesc i bytes
     let ch := s.chans[c]
     let s1 := without f s
     exec (.descriptorReadEnd f.id (.data bytes)) s = .next
      (if ch.st = .priming ∨ ch.st = .starved then
        if descOwned bytes = false then
          if ch.st = .starved then moment c (fun u => u) s1
          else if ch.latch = true ∨ s.dev.st ≠ .online then
            moment c (fun u => u) (withChan c { ch with st := .starved } s1)
          else moment c (afterEvent (.chanStarved c)) (withChan c { ch with st := .starved, latch := true } s1)
        else if 1 ≤ d.frames ∧ d.frames ≤ 4096 then
          if ch.dir = .rx then
            moment c (fun u => u) (withChan c
              { ch with st := .running, current := some (freshCopy d), lookahead := none, deferred := false } s1)
          else moment c (fun u => u) (issued (.dataRead c ch.readSeq) d.buffer ch.slots.length []
            (withChan c { ch with
              st := .running, current := some (freshCopy d), lookahead := none, deferred := false
              readSeq := ch.readSeq + 1, due := some ch.readSeq, ready := none } s1))
        else moment c (fun u => u) (withChan c { ch with queue := ch.queue ++ [unmoved d .bad] } s1)
      else if ch.st = .running then
        moment c (fun u => u) (withChan c
          { ch with lookahead := some { index := i, owned := if descOwned bytes then some d else none } } s1)
      else moment c (fun u => u) s1))

/-- DATA_READ_END with data fills the ready data while its frame is due, and is discarded after that. DATA_WRITE_END,
accepted, is counted against the descriptor the write belongs to, the current one or a queued one, and the last one of the
oldest queued descriptor lets its write-back go out; in every state of the channel, a CLOSING one among them (R74 to R76,
R79, R83). The numbering of the data reads is the model's (log entry 22). -/
def Obligations.DataEnds : Prop :=
  ∀ (f : Op) (c : ChanId) (s : State), Linked s → LinkInv s → s.liveOp f.id = some f →
    (∀ seq bytes, f.kind = .dataRead c seq →
      exec (.dataReadEnd f.id (.data bytes)) s = .next (moment c (fun u => u)
        (if s.chans[c].due = some seq then withChan c { s.chans[c] with ready := some bytes, due := none } (without f s)
         else without f s))) ∧
    (∀ i, f.kind = .dataWrite c i →
      exec (.dataWriteEnd f.id .accepted) s = .next (moment c (fun u => u) (withChan c
        (let ch := s.chans[c]
         let queued : Chan := { ch with
           queue := ch.queue.map fun e => if e.desc.index = i then { e with unaccepted := e.unaccepted - 1 } else e }
         match ch.current with
         | some cur =>
           if cur.desc.index = i then { ch with current := some { cur with unaccepted := cur.unaccepted - 1 } } else queued
         | none => queued) (without f s))))

/-- WRITE_BACK_END, accepted, of the oldest queued descriptor, in every state of the channel: it leaves the queue and the
ring position advances; a deferred lookahead read that waited for it is issued; the next write-back, the PRIMING read, the
flush walk or CLOSED follows; and BUFFER_DONE is handed on with NOTIFY while the device is ONLINE (R72, R77, R79, R84,
R85, R89, R97, R109, R110). That a deferred read is issued before the next write-back is the model's choice (log entry
29); that an acceptance after a failed closing counts is its reading (log entry 13). -/
def Obligations.WriteBackEnd : Prop :=
  ∀ (f : Op) (c : ChanId) (e : WbEntry) (s : State), Linked s → LinkInv s → s.liveOp f.id = some f →
    f.kind = .writeBack c e false →
    (let ch := { s.chans[c] with queue := s.chans[c].queue.drop 1, pos := (s.chans[c].pos + 1) % s.chans[c].ringSize }
     let s1 := withChan c ch (without f s)
     (¬(ch.st = .running ∧ ch.deferred = true ∧
          ∃ cur, ch.current = some cur ∧ (cur.desc.index + 1) % ch.ringSize = e.desc.index) →
       exec (.writeBackEnd f.id .accepted) s = .next (moment c (afterBufferDone c e) s1)) ∧
     (∀ cur, ch.st = .running → ch.deferred = true → ch.current = some cur →
       (cur.desc.index + 1) % ch.ringSize = e.desc.index →
       exec (.writeBackEnd f.id .accepted) s = .next (moment c (afterBufferDone c e)
         (descReadIssued c e.desc.index (withChan c { ch with deferred := false } s1)))))

/-- The flush walk of a CLOSING channel, in ONLINE and in STOPPING: FLUSH_READ_END with a device-owned descriptor writes
it back FLUSHED, and with a host-owned one ends the walk; the write-back's acceptance advances the ring position and reads
the next descriptor, or ends the walk when the whole ring has been visited; a walk that has ended closes the channel when
nothing is in flight; BUFFER_DONE and CHAN_CLOSED are handed on while the device is ONLINE (R84, R85, R89, R90, R110,
R190). -/
def Obligations.FlushWalkGoesOn : Prop :=
  ∀ (f : Op) (c : ChanId) (n : Nat) (s : State), Linked s → LinkInv s → s.liveOp f.id = some f →
    s.chans[c].st = .closing → s.chans[c].queue = [] → s.chans[c].walk = .walking n →
    (let s1 := without f s
     (∀ i bytes, f.kind = .flushRead c i →
       exec (.flushReadEnd f.id (.data bytes)) s = .next
         (if descOwned bytes then writeBackIssued c (unmoved (parseDesc i bytes) .flushed) true s1
          else moment c (fun u => u) (withChan c { s.chans[c] with walk := .ended } s1))) ∧
     (∀ e, f.kind = .writeBack c e true →
       exec (.writeBackEnd f.id .accepted) s = .next
         (let ch := { s.chans[c] with pos := (s.chans[c].pos + 1) % s.chans[c].ringSize }
          if n + 1 < ch.ringSize then
            moment c (afterBufferDone c e) (flushReadIssued c (withChan c { ch with walk := .walking (n + 1) } s1))
          else moment c (afterBufferDone c e) (withChan c { ch with walk := .ended } s1))))

/-! ### Steps of the part's own -/

/-- WRITE_BACK_ISSUE, DEFERRED_LOOKAHEAD_READ, PRIMING_READ, FLUSH_WALK and CHAN_CLOSED, each where the channel's state
allows it, in ONLINE and in STOPPING: the operation is issued, or the channel is CLOSED and CHAN_CLOSED handed on in
ONLINE, with which a STOPPING may be over (R72, R77, R79, R84, R85, R89, R90, R190). That a row names a step which
otherwise comes about within another command is the model's reading (log entry 4). -/
def Obligations.ChannelOwnSteps : Prop :=
  ∀ (c : ChanId) (s : State), Linked s →
    (∀ e rest, s.chans[c].queue = e :: rest → e.unaccepted = 0 → ¬LiveOf c (fun k => k.isWriteBack = true) s →
      s.chans[c].st = .priming ∨ s.chans[c].st = .running ∨ s.chans[c].st = .starved ∨
        s.chans[c].st = .closing ∧ s.chans[c].closeFailed = false →
      exec (.writeBackIssue c) s = .next (writeBackIssued c e false s)) ∧
    (∀ cur, s.chans[c].st = .running → s.chans[c].deferred = true → s.chans[c].current = some cur →
      (∀ e ∈ s.chans[c].queue, e.desc.index ≠ (cur.desc.index + 1) % s.chans[c].ringSize) →
      exec (.deferredLookaheadRead c) s = .next (moment c (fun u => u)
        (descReadIssued c ((cur.desc.index + 1) % s.chans[c].ringSize)
          (withChan c { s.chans[c] with deferred := false } s)))) ∧
    (s.chans[c].st = .priming → s.chans[c].queue = [] → s.chans[c].current = none →
      ¬LiveOf c (fun k => k.isDescRead = true) s →
      exec (.primingRead c) s = .next (descReadIssued c s.chans[c].pos s)) ∧
    (s.chans[c].st = .closing → s.chans[c].queue = [] → s.chans[c].walk = .notBegun → s.chans[c].closeFailed = false →
      exec (.flushWalk c) s = .next (flushReadIssued c (withChan c { s.chans[c] with walk := .walking 0 } s))) ∧
    (s.chans[c].st = .closing → s.chans[c].queue = [] → s.chans[c].walk = .ended →
      (∀ o ∈ s.link.ops, o.kind.chan? = some c → o.mark = .dropped) →
      exec (.chanClosed c) s = .next
        (ended (afterEvent (.chanClosed c s.chans[c].closeFailed) (withChan c { s.chans[c] with st := .closed } s))))

/-- REQUEST_FETCH in IDLE with the counts different and no STOP pending; OVERFLOW and HELD_RECORD_PLACED where the ring
has space; STOPPING_END and RESETTING_END where their conditions hold, the cause kept (R142, R146, R171, R190, R194). The
rows are read as in log entry 4: each is a step that otherwise comes about within the command that makes it possible. -/
def Obligations.DeviceOwnSteps : Prop :=
  (∀ s : State, Working s → s.proc.st = .idle → s.dev.stopPending = false → s.proc.tail ≠ s.proc.consumed →
    exec .requestFetch s = .next { s with
      proc := { s.proc with st := .fetching, hand := none }
      link := { s.link with
        ops := s.link.ops ++ [fetchOp s.link.nextId s.proc]
        nextId := s.link.nextId + 1 } }) ∧
  (∀ (n : RingId) (s : State), Working s → s.comp.rings[n].unconsumed < s.comp.rings[n].size →
    (0 < s.comp.rings[n].missed → exec (.overflow n) s = .next
      (afterPlace n (.overflow s.comp.rings[n].missed s.tim.counter)
        { s with comp := { s.comp with rings := s.comp.rings.set n { s.comp.rings[n] with missed := 0 } } })) ∧
    (∀ d, s.comp.rings[n].missed = 0 → s.comp.rings[n].held = some d → exec (.heldRecordPlaced n) s = .next
      (afterRequest (afterPlace n (.requestDone d)
        { s with comp := { s.comp with rings := s.comp.rings.set n { s.comp.rings[n] with held := none } } })))) ∧
  (∀ s : State, s.link.ops = [] →
    (s.dev.st = .stopping → (∀ c : ChanId, s.chans[c].st = .closed) →
      exec .stoppingEnd s = .next { s with dev := { s.dev with st := .offline } }) ∧
    (s.dev.st = .resetting → exec .resettingEnd s = .next { s with dev := { s.dev with st := .offline } }))

/-! ### Invariants -/

/-- The invariants of the statements below, each that every step keeps, hold at State.reset. -/
def Obligations.InvariantsAtReset : Prop :=
  LinkInv State.reset ∧ Settled State.reset ∧ LineInv State.reset ∧ RingInv State.reset ∧ StagingInv State.reset ∧
    TimingInv State.reset ∧ DeviceInv State.reset

/-- Every step keeps the link interface's invariant: identifiers of operations in flight stay distinct, so that each ends
once, and no moment is left with a STOPPING or RESETTING that is over (R190, R194, R195). The identifiers are the model's
own (log entry 22). -/
def Obligations.LinkKept : Prop :=
  ∀ s t : State, LinkInv s → Settled s → step s = .next t → LinkInv t ∧ Settled t

/-- Every step keeps the line side's invariant: each port in its ranges, the correct run below 2 and the search age at
most 64, below it in SEARCHING, and with frames only while ALIGNED, a map entry for each slot of each enabled highway and
no other, the enabled slot counts within the budget, and every staged CONNECTION from an input slot of an enabled highway,
below its slot count. From a state in which every CONNECTION of the active map has such a source, every step but a SETHWY
keeps it so, and a SETHWY leaves none without its source but one that the prospective map replaces (R1, R4, R45, R47, R48,
R52 to R57, R61). That a SETHWY may take that one's source is the model's choice (log entry 27). -/
def Obligations.LineKept : Prop :=
  ∀ s t : State, LineInv s → step s = .next t → LineInv t ∧
    (SourcesStand s →
      ((∀ r rest, s.pending ≠ .sethwy r :: rest) → SourcesStand t) ∧
      ∀ (h : HwyId) (n : Nat) (d : Driver), t.map[h][n]? = some d →
        sourceStands t d = true ∨ (t.prospective none h n).1 ≠ d)

/-- Every step keeps the completion rings' invariant: no more records unconsumed than the ring holds, records dropped or
held only while it is full, and a ring armed only with nothing unconsumed (R165, R168 to R170, R175, R176). -/
def Obligations.RingsKept : Prop := ∀ s t : State, RingInv s → step s = .next t → RingInv t

/-- Every step keeps the staging set's invariant: at most 256 entries, one for each key, each kind in the order of its
keys. So the order in which the entries were staged has no effect: two states that differ in nothing but such sets, with
the same entry under every key, are one state (R21, R22). -/
def Obligations.StagingKept : Prop :=
  (∀ s t : State, StagingInv s → step s = .next t → StagingInv t) ∧
  ∀ s t : State, StagingInv s → StagingInv t → SameEntries s.mc t.mc → t = { s with mc := t.mc } →
    s.mc.inFlight = t.mc.inFlight → s = t

/-- Every step keeps the timing unit's invariant: at most four candidates, of distinct sources, the selected one listed
and QUALIFIED, and HOLDOVER only with holdover-valid set (R116, R124, R128). -/
def Obligations.TimingKept : Prop := ∀ s t : State, TimingInv s → step s = .next t → TimingInv t

/-- Every step keeps the device's invariant: outside ONLINE the request processor STOPPED with no STOP pending and no
COMMIT in flight, EXECUTING never left standing, the channels as the device state leaves them, and no slots in a CLOSED or
CLOSING one (R68, R83, R145, R182, R186, R190 to R193). -/
def Obligations.DeviceKept : Prop := ∀ s t : State, DeviceInv s → step s = .next t → DeviceInv t

end
end

