-- ==== Sys2Proof/Laws/State.lean ====
section
/-! SUPPORT. One lemma for each part of the state that an update leaves as it is, true by computation. -/

set_option Elab.async false

namespace Sys2Proof.Machine

/-! ### Host memory operations -/

@[simp] theorem State.issueRead_dev (k : OpKind) (a : Addr) (n : Nat) (s : State) :
    (s.issueRead k a n).dev = s.dev := rfl
@[simp] theorem State.issueRead_cfg (k : OpKind) (a : Addr) (n : Nat) (s : State) :
    (s.issueRead k a n).cfg = s.cfg := rfl
@[simp] theorem State.issueRead_proc (k : OpKind) (a : Addr) (n : Nat) (s : State) :
    (s.issueRead k a n).proc = s.proc := rfl
@[simp] theorem State.issueRead_comp (k : OpKind) (a : Addr) (n : Nat) (s : State) :
    (s.issueRead k a n).comp = s.comp := rfl
@[simp] theorem State.issueRead_mc (k : OpKind) (a : Addr) (n : Nat) (s : State) :
    (s.issueRead k a n).mc = s.mc := rfl
@[simp] theorem State.issueRead_map (k : OpKind) (a : Addr) (n : Nat) (s : State) :
    (s.issueRead k a n).map = s.map := rfl
@[simp] theorem State.issueRead_hwys (k : OpKind) (a : Addr) (n : Nat) (s : State) :
    (s.issueRead k a n).hwys = s.hwys := rfl
@[simp] theorem State.issueRead_chans (k : OpKind) (a : Addr) (n : Nat) (s : State) :
    (s.issueRead k a n).chans = s.chans := rfl
@[simp] theorem State.issueRead_tim (k : OpKind) (a : Addr) (n : Nat) (s : State) :
    (s.issueRead k a n).tim = s.tim := rfl
@[simp] theorem State.issueRead_frames (k : OpKind) (a : Addr) (n : Nat) (s : State) :
    (s.issueRead k a n).frames = s.frames := rfl
@[simp] theorem State.issueRead_pending (k : OpKind) (a : Addr) (n : Nat) (s : State) :
    (s.issueRead k a n).pending = s.pending := rfl

@[simp] theorem State.issueWrite_dev (k : OpKind) (a : Addr) (d : List Byte) (s : State) :
    (s.issueWrite k a d).dev = s.dev := rfl
@[simp] theorem State.issueWrite_cfg (k : OpKind) (a : Addr) (d : List Byte) (s : State) :
    (s.issueWrite k a d).cfg = s.cfg := rfl
@[simp] theorem State.issueWrite_proc (k : OpKind) (a : Addr) (d : List Byte) (s : State) :
    (s.issueWrite k a d).proc = s.proc := rfl
@[simp] theorem State.issueWrite_comp (k : OpKind) (a : Addr) (d : List Byte) (s : State) :
    (s.issueWrite k a d).comp = s.comp := rfl
@[simp] theorem State.issueWrite_mc (k : OpKind) (a : Addr) (d : List Byte) (s : State) :
    (s.issueWrite k a d).mc = s.mc := rfl
@[simp] theorem State.issueWrite_map (k : OpKind) (a : Addr) (d : List Byte) (s : State) :
    (s.issueWrite k a d).map = s.map := rfl
@[simp] theorem State.issueWrite_hwys (k : OpKind) (a : Addr) (d : List Byte) (s : State) :
    (s.issueWrite k a d).hwys = s.hwys := rfl
@[simp] theorem State.issueWrite_chans (k : OpKind) (a : Addr) (d : List Byte) (s : State) :
    (s.issueWrite k a d).chans = s.chans := rfl
@[simp] theorem State.issueWrite_tim (k : OpKind) (a : Addr) (d : List Byte) (s : State) :
    (s.issueWrite k a d).tim = s.tim := rfl
@[simp] theorem State.issueWrite_frames (k : OpKind) (a : Addr) (d : List Byte) (s : State) :
    (s.issueWrite k a d).frames = s.frames := rfl
@[simp] theorem State.issueWrite_pending (k : OpKind) (a : Addr) (d : List Byte) (s : State) :
    (s.issueWrite k a d).pending = s.pending := rfl

@[simp] theorem State.endOp_dev (id : Nat) (s : State) :
    (s.endOp id).dev = s.dev := rfl
@[simp] theorem State.endOp_cfg (id : Nat) (s : State) :
    (s.endOp id).cfg = s.cfg := rfl
@[simp] theorem State.endOp_proc (id : Nat) (s : State) :
    (s.endOp id).proc = s.proc := rfl
@[simp] theorem State.endOp_comp (id : Nat) (s : State) :
    (s.endOp id).comp = s.comp := rfl
@[simp] theorem State.endOp_mc (id : Nat) (s : State) :
    (s.endOp id).mc = s.mc := rfl
@[simp] theorem State.endOp_map (id : Nat) (s : State) :
    (s.endOp id).map = s.map := rfl
@[simp] theorem State.endOp_hwys (id : Nat) (s : State) :
    (s.endOp id).hwys = s.hwys := rfl
@[simp] theorem State.endOp_chans (id : Nat) (s : State) :
    (s.endOp id).chans = s.chans := rfl
@[simp] theorem State.endOp_tim (id : Nat) (s : State) :
    (s.endOp id).tim = s.tim := rfl
@[simp] theorem State.endOp_frames (id : Nat) (s : State) :
    (s.endOp id).frames = s.frames := rfl
@[simp] theorem State.endOp_pending (id : Nat) (s : State) :
    (s.endOp id).pending = s.pending := rfl

/-! ### Registers, rings, the processor -/

@[simp] theorem State.regError_cfg (e : RegError) (s : State) :
    (s.regError e).cfg = s.cfg := rfl
@[simp] theorem State.regError_link (e : RegError) (s : State) :
    (s.regError e).link = s.link := rfl
@[simp] theorem State.regError_proc (e : RegError) (s : State) :
    (s.regError e).proc = s.proc := rfl
@[simp] theorem State.regError_comp (e : RegError) (s : State) :
    (s.regError e).comp = s.comp := rfl
@[simp] theorem State.regError_mc (e : RegError) (s : State) :
    (s.regError e).mc = s.mc := rfl
@[simp] theorem State.regError_map (e : RegError) (s : State) :
    (s.regError e).map = s.map := rfl
@[simp] theorem State.regError_hwys (e : RegError) (s : State) :
    (s.regError e).hwys = s.hwys := rfl
@[simp] theorem State.regError_chans (e : RegError) (s : State) :
    (s.regError e).chans = s.chans := rfl
@[simp] theorem State.regError_tim (e : RegError) (s : State) :
    (s.regError e).tim = s.tim := rfl
@[simp] theorem State.regError_frames (e : RegError) (s : State) :
    (s.regError e).frames = s.frames := rfl
@[simp] theorem State.regError_pending (e : RegError) (s : State) :
    (s.regError e).pending = s.pending := rfl

@[simp] theorem State.setRing_dev (n : RingId) (r : Ring) (s : State) :
    (s.setRing n r).dev = s.dev := rfl
@[simp] theorem State.setRing_cfg (n : RingId) (r : Ring) (s : State) :
    (s.setRing n r).cfg = s.cfg := rfl
@[simp] theorem State.setRing_link (n : RingId) (r : Ring) (s : State) :
    (s.setRing n r).link = s.link := rfl
@[simp] theorem State.setRing_proc (n : RingId) (r : Ring) (s : State) :
    (s.setRing n r).proc = s.proc := rfl
@[simp] theorem State.setRing_mc (n : RingId) (r : Ring) (s : State) :
    (s.setRing n r).mc = s.mc := rfl
@[simp] theorem State.setRing_map (n : RingId) (r : Ring) (s : State) :
    (s.setRing n r).map = s.map := rfl
@[simp] theorem State.setRing_hwys (n : RingId) (r : Ring) (s : State) :
    (s.setRing n r).hwys = s.hwys := rfl
@[simp] theorem State.setRing_chans (n : RingId) (r : Ring) (s : State) :
    (s.setRing n r).chans = s.chans := rfl
@[simp] theorem State.setRing_tim (n : RingId) (r : Ring) (s : State) :
    (s.setRing n r).tim = s.tim := rfl
@[simp] theorem State.setRing_frames (n : RingId) (r : Ring) (s : State) :
    (s.setRing n r).frames = s.frames := rfl
@[simp] theorem State.setRing_pending (n : RingId) (r : Ring) (s : State) :
    (s.setRing n r).pending = s.pending := rfl

@[simp] theorem State.miss_dev (n : RingId) (s : State) :
    (s.miss n).dev = s.dev := rfl
@[simp] theorem State.miss_cfg (n : RingId) (s : State) :
    (s.miss n).cfg = s.cfg := rfl
@[simp] theorem State.miss_link (n : RingId) (s : State) :
    (s.miss n).link = s.link := rfl
@[simp] theorem State.miss_proc (n : RingId) (s : State) :
    (s.miss n).proc = s.proc := rfl
@[simp] theorem State.miss_mc (n : RingId) (s : State) :
    (s.miss n).mc = s.mc := rfl
@[simp] theorem State.miss_map (n : RingId) (s : State) :
    (s.miss n).map = s.map := rfl
@[simp] theorem State.miss_hwys (n : RingId) (s : State) :
    (s.miss n).hwys = s.hwys := rfl
@[simp] theorem State.miss_chans (n : RingId) (s : State) :
    (s.miss n).chans = s.chans := rfl
@[simp] theorem State.miss_tim (n : RingId) (s : State) :
    (s.miss n).tim = s.tim := rfl
@[simp] theorem State.miss_frames (n : RingId) (s : State) :
    (s.miss n).frames = s.frames := rfl
@[simp] theorem State.miss_pending (n : RingId) (s : State) :
    (s.miss n).pending = s.pending := rfl

/-! ### Staging, ports and channels -/

@[simp] theorem State.stageTarget_dev (h : HwyId) (n : Nat) (x : Target) (s : State) :
    (s.stageTarget h n x).dev = s.dev := rfl
@[simp] theorem State.stageTarget_cfg (h : HwyId) (n : Nat) (x : Target) (s : State) :
    (s.stageTarget h n x).cfg = s.cfg := rfl
@[simp] theorem State.stageTarget_link (h : HwyId) (n : Nat) (x : Target) (s : State) :
    (s.stageTarget h n x).link = s.link := rfl
@[simp] theorem State.stageTarget_proc (h : HwyId) (n : Nat) (x : Target) (s : State) :
    (s.stageTarget h n x).proc = s.proc := rfl
@[simp] theorem State.stageTarget_comp (h : HwyId) (n : Nat) (x : Target) (s : State) :
    (s.stageTarget h n x).comp = s.comp := rfl
@[simp] theorem State.stageTarget_map (h : HwyId) (n : Nat) (x : Target) (s : State) :
    (s.stageTarget h n x).map = s.map := rfl
@[simp] theorem State.stageTarget_hwys (h : HwyId) (n : Nat) (x : Target) (s : State) :
    (s.stageTarget h n x).hwys = s.hwys := rfl
@[simp] theorem State.stageTarget_chans (h : HwyId) (n : Nat) (x : Target) (s : State) :
    (s.stageTarget h n x).chans = s.chans := rfl
@[simp] theorem State.stageTarget_tim (h : HwyId) (n : Nat) (x : Target) (s : State) :
    (s.stageTarget h n x).tim = s.tim := rfl
@[simp] theorem State.stageTarget_frames (h : HwyId) (n : Nat) (x : Target) (s : State) :
    (s.stageTarget h n x).frames = s.frames := rfl
@[simp] theorem State.stageTarget_pending (h : HwyId) (n : Nat) (x : Target) (s : State) :
    (s.stageTarget h n x).pending = s.pending := rfl

@[simp] theorem State.stageChan_dev (c : ChanId) (e : ChanEntry) (s : State) :
    (s.stageChan c e).dev = s.dev := rfl
@[simp] theorem State.stageChan_cfg (c : ChanId) (e : ChanEntry) (s : State) :
    (s.stageChan c e).cfg = s.cfg := rfl
@[simp] theorem State.stageChan_link (c : ChanId) (e : ChanEntry) (s : State) :
    (s.stageChan c e).link = s.link := rfl
@[simp] theorem State.stageChan_proc (c : ChanId) (e : ChanEntry) (s : State) :
    (s.stageChan c e).proc = s.proc := rfl
@[simp] theorem State.stageChan_comp (c : ChanId) (e : ChanEntry) (s : State) :
    (s.stageChan c e).comp = s.comp := rfl
@[simp] theorem State.stageChan_map (c : ChanId) (e : ChanEntry) (s : State) :
    (s.stageChan c e).map = s.map := rfl
@[simp] theorem State.stageChan_hwys (c : ChanId) (e : ChanEntry) (s : State) :
    (s.stageChan c e).hwys = s.hwys := rfl
@[simp] theorem State.stageChan_chans (c : ChanId) (e : ChanEntry) (s : State) :
    (s.stageChan c e).chans = s.chans := rfl
@[simp] theorem State.stageChan_tim (c : ChanId) (e : ChanEntry) (s : State) :
    (s.stageChan c e).tim = s.tim := rfl
@[simp] theorem State.stageChan_frames (c : ChanId) (e : ChanEntry) (s : State) :
    (s.stageChan c e).frames = s.frames := rfl
@[simp] theorem State.stageChan_pending (c : ChanId) (e : ChanEntry) (s : State) :
    (s.stageChan c e).pending = s.pending := rfl

@[simp] theorem State.stageSlots_dev (c : ChanId) (e : ChanEntry) (d : Dir) (h : HwyId) (l : List Nat) (s : State) :
    (s.stageSlots c e d h l).dev = s.dev := rfl
@[simp] theorem State.stageSlots_cfg (c : ChanId) (e : ChanEntry) (d : Dir) (h : HwyId) (l : List Nat) (s : State) :
    (s.stageSlots c e d h l).cfg = s.cfg := rfl
@[simp] theorem State.stageSlots_link (c : ChanId) (e : ChanEntry) (d : Dir) (h : HwyId) (l : List Nat) (s : State) :
    (s.stageSlots c e d h l).link = s.link := rfl
@[simp] theorem State.stageSlots_proc (c : ChanId) (e : ChanEntry) (d : Dir) (h : HwyId) (l : List Nat) (s : State) :
    (s.stageSlots c e d h l).proc = s.proc := rfl
@[simp] theorem State.stageSlots_comp (c : ChanId) (e : ChanEntry) (d : Dir) (h : HwyId) (l : List Nat) (s : State) :
    (s.stageSlots c e d h l).comp = s.comp := rfl
@[simp] theorem State.stageSlots_map (c : ChanId) (e : ChanEntry) (d : Dir) (h : HwyId) (l : List Nat) (s : State) :
    (s.stageSlots c e d h l).map = s.map := rfl
@[simp] theorem State.stageSlots_hwys (c : ChanId) (e : ChanEntry) (d : Dir) (h : HwyId) (l : List Nat) (s : State) :
    (s.stageSlots c e d h l).hwys = s.hwys := rfl
@[simp] theorem State.stageSlots_chans (c : ChanId) (e : ChanEntry) (d : Dir) (h : HwyId) (l : List Nat) (s : State) :
    (s.stageSlots c e d h l).chans = s.chans := rfl
@[simp] theorem State.stageSlots_tim (c : ChanId) (e : ChanEntry) (d : Dir) (h : HwyId) (l : List Nat) (s : State) :
    (s.stageSlots c e d h l).tim = s.tim := rfl
@[simp] theorem State.stageSlots_frames (c : ChanId) (e : ChanEntry) (d : Dir) (h : HwyId) (l : List Nat) (s : State) :
    (s.stageSlots c e d h l).frames = s.frames := rfl
@[simp] theorem State.stageSlots_pending (c : ChanId) (e : ChanEntry) (d : Dir) (h : HwyId) (l : List Nat) (s : State) :
    (s.stageSlots c e d h l).pending = s.pending := rfl

@[simp] theorem State.setHwy_dev (h : HwyId) (p : Highway) (s : State) :
    (s.setHwy h p).dev = s.dev := rfl
@[simp] theorem State.setHwy_cfg (h : HwyId) (p : Highway) (s : State) :
    (s.setHwy h p).cfg = s.cfg := rfl
@[simp] theorem State.setHwy_link (h : HwyId) (p : Highway) (s : State) :
    (s.setHwy h p).link = s.link := rfl
@[simp] theorem State.setHwy_proc (h : HwyId) (p : Highway) (s : State) :
    (s.setHwy h p).proc = s.proc := rfl
@[simp] theorem State.setHwy_comp (h : HwyId) (p : Highway) (s : State) :
    (s.setHwy h p).comp = s.comp := rfl
@[simp] theorem State.setHwy_mc (h : HwyId) (p : Highway) (s : State) :
    (s.setHwy h p).mc = s.mc := rfl
@[simp] theorem State.setHwy_map (h : HwyId) (p : Highway) (s : State) :
    (s.setHwy h p).map = s.map := rfl
@[simp] theorem State.setHwy_chans (h : HwyId) (p : Highway) (s : State) :
    (s.setHwy h p).chans = s.chans := rfl
@[simp] theorem State.setHwy_tim (h : HwyId) (p : Highway) (s : State) :
    (s.setHwy h p).tim = s.tim := rfl
@[simp] theorem State.setHwy_frames (h : HwyId) (p : Highway) (s : State) :
    (s.setHwy h p).frames = s.frames := rfl
@[simp] theorem State.setHwy_pending (h : HwyId) (p : Highway) (s : State) :
    (s.setHwy h p).pending = s.pending := rfl

@[simp] theorem State.setChan_dev (c : ChanId) (ch : Chan) (s : State) :
    (s.setChan c ch).dev = s.dev := rfl
@[simp] theorem State.setChan_cfg (c : ChanId) (ch : Chan) (s : State) :
    (s.setChan c ch).cfg = s.cfg := rfl
@[simp] theorem State.setChan_link (c : ChanId) (ch : Chan) (s : State) :
    (s.setChan c ch).link = s.link := rfl
@[simp] theorem State.setChan_proc (c : ChanId) (ch : Chan) (s : State) :
    (s.setChan c ch).proc = s.proc := rfl
@[simp] theorem State.setChan_comp (c : ChanId) (ch : Chan) (s : State) :
    (s.setChan c ch).comp = s.comp := rfl
@[simp] theorem State.setChan_mc (c : ChanId) (ch : Chan) (s : State) :
    (s.setChan c ch).mc = s.mc := rfl
@[simp] theorem State.setChan_map (c : ChanId) (ch : Chan) (s : State) :
    (s.setChan c ch).map = s.map := rfl
@[simp] theorem State.setChan_hwys (c : ChanId) (ch : Chan) (s : State) :
    (s.setChan c ch).hwys = s.hwys := rfl
@[simp] theorem State.setChan_tim (c : ChanId) (ch : Chan) (s : State) :
    (s.setChan c ch).tim = s.tim := rfl
@[simp] theorem State.setChan_frames (c : ChanId) (ch : Chan) (s : State) :
    (s.setChan c ch).frames = s.frames := rfl
@[simp] theorem State.setChan_pending (c : ChanId) (ch : Chan) (s : State) :
    (s.setChan c ch).pending = s.pending := rfl

/-! ### Send frames -/

@[simp] theorem State.sendFrames_dev (reads : Vector ReadFrame 16) (s : State) :
    (s.sendFrames reads).dev = s.dev := rfl
@[simp] theorem State.sendFrames_cfg (reads : Vector ReadFrame 16) (s : State) :
    (s.sendFrames reads).cfg = s.cfg := rfl
@[simp] theorem State.sendFrames_link (reads : Vector ReadFrame 16) (s : State) :
    (s.sendFrames reads).link = s.link := rfl
@[simp] theorem State.sendFrames_proc (reads : Vector ReadFrame 16) (s : State) :
    (s.sendFrames reads).proc = s.proc := rfl
@[simp] theorem State.sendFrames_comp (reads : Vector ReadFrame 16) (s : State) :
    (s.sendFrames reads).comp = s.comp := rfl
@[simp] theorem State.sendFrames_mc (reads : Vector ReadFrame 16) (s : State) :
    (s.sendFrames reads).mc = s.mc := rfl
@[simp] theorem State.sendFrames_map (reads : Vector ReadFrame 16) (s : State) :
    (s.sendFrames reads).map = s.map := rfl
@[simp] theorem State.sendFrames_chans (reads : Vector ReadFrame 16) (s : State) :
    (s.sendFrames reads).chans = s.chans := rfl
@[simp] theorem State.sendFrames_tim (reads : Vector ReadFrame 16) (s : State) :
    (s.sendFrames reads).tim = s.tim := rfl
@[simp] theorem State.sendFrames_frames (reads : Vector ReadFrame 16) (s : State) :
    (s.sendFrames reads).frames = s.frames := rfl
@[simp] theorem State.sendFrames_pending (reads : Vector ReadFrame 16) (s : State) :
    (s.sendFrames reads).pending = s.pending := rfl

/-! ### The device -/

@[simp] theorem State.halt_cfg (k : Cause) (s : State) :
    (s.halt k).cfg = s.cfg := rfl
@[simp] theorem State.halt_map (k : Cause) (s : State) :
    (s.halt k).map = s.map := rfl
@[simp] theorem State.halt_hwys (k : Cause) (s : State) :
    (s.halt k).hwys = s.hwys := rfl
@[simp] theorem State.halt_tim (k : Cause) (s : State) :
    (s.halt k).tim = s.tim := rfl
@[simp] theorem State.halt_frames (k : Cause) (s : State) :
    (s.halt k).frames = s.frames := rfl
@[simp] theorem State.halt_pending (k : Cause) (s : State) :
    (s.halt k).pending = s.pending := rfl

@[simp] theorem State.goOnline_cfg (b : SetupBlock) (s : State) :
    (s.goOnline b).cfg = s.cfg := rfl
@[simp] theorem State.goOnline_link (b : SetupBlock) (s : State) :
    (s.goOnline b).link = s.link := rfl
@[simp] theorem State.goOnline_mc (b : SetupBlock) (s : State) :
    (s.goOnline b).mc = s.mc := rfl
@[simp] theorem State.goOnline_map (b : SetupBlock) (s : State) :
    (s.goOnline b).map = s.map := rfl
@[simp] theorem State.goOnline_hwys (b : SetupBlock) (s : State) :
    (s.goOnline b).hwys = s.hwys := rfl
@[simp] theorem State.goOnline_chans (b : SetupBlock) (s : State) :
    (s.goOnline b).chans = s.chans := rfl
@[simp] theorem State.goOnline_frames (b : SetupBlock) (s : State) :
    (s.goOnline b).frames = s.frames := rfl
@[simp] theorem State.goOnline_pending (b : SetupBlock) (s : State) :
    (s.goOnline b).pending = s.pending := rfl

@[simp] theorem State.stopHalted_cfg (s : State) :
    (s.stopHalted).cfg = s.cfg := rfl
@[simp] theorem State.stopHalted_link (s : State) :
    (s.stopHalted).link = s.link := rfl
@[simp] theorem State.stopHalted_proc (s : State) :
    (s.stopHalted).proc = s.proc := rfl
@[simp] theorem State.stopHalted_comp (s : State) :
    (s.stopHalted).comp = s.comp := rfl
@[simp] theorem State.stopHalted_hwys (s : State) :
    (s.stopHalted).hwys = s.hwys := rfl
@[simp] theorem State.stopHalted_tim (s : State) :
    (s.stopHalted).tim = s.tim := rfl
@[simp] theorem State.stopHalted_frames (s : State) :
    (s.stopHalted).frames = s.frames := rfl
@[simp] theorem State.stopHalted_pending (s : State) :
    (s.stopHalted).pending = s.pending := rfl

@[simp] theorem State.deviceReset_cfg (s : State) :
    (s.deviceReset).cfg = s.cfg := rfl
@[simp] theorem State.deviceReset_frames (s : State) :
    (s.deviceReset).frames = s.frames := rfl
@[simp] theorem State.deviceReset_pending (s : State) :
    (s.deviceReset).pending = s.pending := rfl

@[simp] theorem State.configWrite_dev (a b : Bool) (n : Nat) (s : State) :
    (s.configWrite a b n).dev = s.dev := rfl
@[simp] theorem State.configWrite_link (a b : Bool) (n : Nat) (s : State) :
    (s.configWrite a b n).link = s.link := rfl
@[simp] theorem State.configWrite_proc (a b : Bool) (n : Nat) (s : State) :
    (s.configWrite a b n).proc = s.proc := rfl
@[simp] theorem State.configWrite_comp (a b : Bool) (n : Nat) (s : State) :
    (s.configWrite a b n).comp = s.comp := rfl
@[simp] theorem State.configWrite_mc (a b : Bool) (n : Nat) (s : State) :
    (s.configWrite a b n).mc = s.mc := rfl
@[simp] theorem State.configWrite_map (a b : Bool) (n : Nat) (s : State) :
    (s.configWrite a b n).map = s.map := rfl
@[simp] theorem State.configWrite_hwys (a b : Bool) (n : Nat) (s : State) :
    (s.configWrite a b n).hwys = s.hwys := rfl
@[simp] theorem State.configWrite_chans (a b : Bool) (n : Nat) (s : State) :
    (s.configWrite a b n).chans = s.chans := rfl
@[simp] theorem State.configWrite_tim (a b : Bool) (n : Nat) (s : State) :
    (s.configWrite a b n).tim = s.tim := rfl
@[simp] theorem State.configWrite_frames (a b : Bool) (n : Nat) (s : State) :
    (s.configWrite a b n).frames = s.frames := rfl
@[simp] theorem State.configWrite_pending (a b : Bool) (n : Nat) (s : State) :
    (s.configWrite a b n).pending = s.pending := rfl

@[simp] theorem State.advanceCounter_dev (s : State) :
    (s.advanceCounter).dev = s.dev := rfl
@[simp] theorem State.advanceCounter_cfg (s : State) :
    (s.advanceCounter).cfg = s.cfg := rfl
@[simp] theorem State.advanceCounter_link (s : State) :
    (s.advanceCounter).link = s.link := rfl
@[simp] theorem State.advanceCounter_proc (s : State) :
    (s.advanceCounter).proc = s.proc := rfl
@[simp] theorem State.advanceCounter_comp (s : State) :
    (s.advanceCounter).comp = s.comp := rfl
@[simp] theorem State.advanceCounter_mc (s : State) :
    (s.advanceCounter).mc = s.mc := rfl
@[simp] theorem State.advanceCounter_map (s : State) :
    (s.advanceCounter).map = s.map := rfl
@[simp] theorem State.advanceCounter_hwys (s : State) :
    (s.advanceCounter).hwys = s.hwys := rfl
@[simp] theorem State.advanceCounter_chans (s : State) :
    (s.advanceCounter).chans = s.chans := rfl
@[simp] theorem State.advanceCounter_pending (s : State) :
    (s.advanceCounter).pending = s.pending := rfl

@[simp] theorem State.pulse_dev (r : RefInput) (s : State) :
    (s.pulse r).dev = s.dev := rfl
@[simp] theorem State.pulse_cfg (r : RefInput) (s : State) :
    (s.pulse r).cfg = s.cfg := rfl
@[simp] theorem State.pulse_link (r : RefInput) (s : State) :
    (s.pulse r).link = s.link := rfl
@[simp] theorem State.pulse_proc (r : RefInput) (s : State) :
    (s.pulse r).proc = s.proc := rfl
@[simp] theorem State.pulse_comp (r : RefInput) (s : State) :
    (s.pulse r).comp = s.comp := rfl
@[simp] theorem State.pulse_mc (r : RefInput) (s : State) :
    (s.pulse r).mc = s.mc := rfl
@[simp] theorem State.pulse_map (r : RefInput) (s : State) :
    (s.pulse r).map = s.map := rfl
@[simp] theorem State.pulse_hwys (r : RefInput) (s : State) :
    (s.pulse r).hwys = s.hwys := rfl
@[simp] theorem State.pulse_chans (r : RefInput) (s : State) :
    (s.pulse r).chans = s.chans := rfl
@[simp] theorem State.pulse_frames (r : RefInput) (s : State) :
    (s.pulse r).frames = s.frames := rfl
@[simp] theorem State.pulse_pending (r : RefInput) (s : State) :
    (s.pulse r).pending = s.pending := rfl

end Sys2Proof.Machine
end

