-- ==== Sys2Proof/Laws/Keeps.lean ====
section
/-! SUPPORT. What the shared operations leave as it is: one lemma for each part of the state an operation
cannot touch.  An operation that issues one which is not sent may halt the device (R195); what a halt touches stands
while operations are sent. -/

set_option Elab.async false

namespace Sys2Proof.Machine

/-! ### The completion writer and the request processor -/

@[simp] theorem State.notify_dev (n : RingId) (s : State) :
    (s.notify n).dev = s.dev := by
  unfold State.notify; split <;> rfl
@[simp] theorem State.notify_cfg (n : RingId) (s : State) :
    (s.notify n).cfg = s.cfg := by
  unfold State.notify; split <;> rfl
@[simp] theorem State.notify_proc (n : RingId) (s : State) :
    (s.notify n).proc = s.proc := by
  unfold State.notify; split <;> rfl
@[simp] theorem State.notify_comp (n : RingId) (s : State) :
    (s.notify n).comp = s.comp := by
  unfold State.notify; split <;> rfl
@[simp] theorem State.notify_mc (n : RingId) (s : State) :
    (s.notify n).mc = s.mc := by
  unfold State.notify; split <;> rfl
@[simp] theorem State.notify_map (n : RingId) (s : State) :
    (s.notify n).map = s.map := by
  unfold State.notify; split <;> rfl
@[simp] theorem State.notify_hwys (n : RingId) (s : State) :
    (s.notify n).hwys = s.hwys := by
  unfold State.notify; split <;> rfl
@[simp] theorem State.notify_chans (n : RingId) (s : State) :
    (s.notify n).chans = s.chans := by
  unfold State.notify; split <;> rfl
@[simp] theorem State.notify_tim (n : RingId) (s : State) :
    (s.notify n).tim = s.tim := by
  unfold State.notify; split <;> rfl
@[simp] theorem State.notify_frames (n : RingId) (s : State) :
    (s.notify n).frames = s.frames := by
  unfold State.notify; split <;> rfl
@[simp] theorem State.notify_pending (n : RingId) (s : State) :
    (s.notify n).pending = s.pending := by
  unfold State.notify; split <;> rfl

@[simp] theorem State.place_dev (n : RingId) (r : Record) (s : State) (hb : s.cfg.busMaster = true) :
    (s.place n r).dev = s.dev := by
  unfold State.place; dsimp only; rw [if_pos hb]; split <;> simp
@[simp] theorem State.place_cfg (n : RingId) (r : Record) (s : State) :
    (s.place n r).cfg = s.cfg := by
  unfold State.place; dsimp only; split_ifs <;> simp
@[simp] theorem State.place_proc (n : RingId) (r : Record) (s : State) (hb : s.cfg.busMaster = true) :
    (s.place n r).proc = s.proc := by
  unfold State.place; dsimp only; rw [if_pos hb]; split <;> simp
@[simp] theorem State.place_mc (n : RingId) (r : Record) (s : State) (hb : s.cfg.busMaster = true) :
    (s.place n r).mc = s.mc := by
  unfold State.place; dsimp only; rw [if_pos hb]; split <;> simp
@[simp] theorem State.place_map (n : RingId) (r : Record) (s : State) :
    (s.place n r).map = s.map := by
  unfold State.place; dsimp only; split_ifs <;> simp
@[simp] theorem State.place_hwys (n : RingId) (r : Record) (s : State) :
    (s.place n r).hwys = s.hwys := by
  unfold State.place; dsimp only; split_ifs <;> simp
@[simp] theorem State.place_chans (n : RingId) (r : Record) (s : State) (hb : s.cfg.busMaster = true) :
    (s.place n r).chans = s.chans := by
  unfold State.place; dsimp only; rw [if_pos hb]; split <;> simp
@[simp] theorem State.place_tim (n : RingId) (r : Record) (s : State) :
    (s.place n r).tim = s.tim := by
  unfold State.place; dsimp only; split_ifs <;> simp
@[simp] theorem State.place_frames (n : RingId) (r : Record) (s : State) :
    (s.place n r).frames = s.frames := by
  unfold State.place; dsimp only; split_ifs <;> simp
@[simp] theorem State.place_pending (n : RingId) (r : Record) (s : State) :
    (s.place n r).pending = s.pending := by
  unfold State.place; dsimp only; split_ifs <;> simp

@[simp] theorem State.offer_dev (n : RingId) (r : Record) (s : State) (hb : s.cfg.busMaster = true) :
    (s.offer n r).dev = s.dev := by
  unfold State.offer; split_ifs <;> simp [hb]
@[simp] theorem State.offer_cfg (n : RingId) (r : Record) (s : State) :
    (s.offer n r).cfg = s.cfg := by
  unfold State.offer; split_ifs <;> simp
@[simp] theorem State.offer_proc (n : RingId) (r : Record) (s : State) (hb : s.cfg.busMaster = true) :
    (s.offer n r).proc = s.proc := by
  unfold State.offer; split_ifs <;> simp [hb]
@[simp] theorem State.offer_mc (n : RingId) (r : Record) (s : State) (hb : s.cfg.busMaster = true) :
    (s.offer n r).mc = s.mc := by
  unfold State.offer; split_ifs <;> simp [hb]
@[simp] theorem State.offer_map (n : RingId) (r : Record) (s : State) :
    (s.offer n r).map = s.map := by
  unfold State.offer; split_ifs <;> simp
@[simp] theorem State.offer_hwys (n : RingId) (r : Record) (s : State) :
    (s.offer n r).hwys = s.hwys := by
  unfold State.offer; split_ifs <;> simp
@[simp] theorem State.offer_chans (n : RingId) (r : Record) (s : State) (hb : s.cfg.busMaster = true) :
    (s.offer n r).chans = s.chans := by
  unfold State.offer; split_ifs <;> simp [hb]
@[simp] theorem State.offer_tim (n : RingId) (r : Record) (s : State) :
    (s.offer n r).tim = s.tim := by
  unfold State.offer; split_ifs <;> simp
@[simp] theorem State.offer_frames (n : RingId) (r : Record) (s : State) :
    (s.offer n r).frames = s.frames := by
  unfold State.offer; split_ifs <;> simp
@[simp] theorem State.offer_pending (n : RingId) (r : Record) (s : State) :
    (s.offer n r).pending = s.pending := by
  unfold State.offer; split_ifs <;> simp

@[simp] theorem State.fetch_dev (s : State) (hb : s.cfg.busMaster = true) :
    (s.fetch).dev = s.dev := by
  unfold State.fetch; rw [if_pos hb]; rfl
@[simp] theorem State.fetch_cfg (s : State) :
    (s.fetch).cfg = s.cfg := by
  unfold State.fetch; split <;> rfl
@[simp] theorem State.fetch_comp (s : State) (hb : s.cfg.busMaster = true) :
    (s.fetch).comp = s.comp := by
  unfold State.fetch; rw [if_pos hb]; rfl
@[simp] theorem State.fetch_mc (s : State) (hb : s.cfg.busMaster = true) :
    (s.fetch).mc = s.mc := by
  unfold State.fetch; rw [if_pos hb]; rfl
@[simp] theorem State.fetch_map (s : State) :
    (s.fetch).map = s.map := by
  unfold State.fetch; split <;> rfl
@[simp] theorem State.fetch_hwys (s : State) :
    (s.fetch).hwys = s.hwys := by
  unfold State.fetch; split <;> rfl
@[simp] theorem State.fetch_chans (s : State) (hb : s.cfg.busMaster = true) :
    (s.fetch).chans = s.chans := by
  unfold State.fetch; rw [if_pos hb]; rfl
@[simp] theorem State.fetch_tim (s : State) :
    (s.fetch).tim = s.tim := by
  unfold State.fetch; split <;> rfl
@[simp] theorem State.fetch_frames (s : State) :
    (s.fetch).frames = s.frames := by
  unfold State.fetch; split <;> rfl
@[simp] theorem State.fetch_pending (s : State) :
    (s.fetch).pending = s.pending := by
  unfold State.fetch; split <;> rfl

@[simp] theorem State.procNext_dev (s : State) (hb : s.cfg.busMaster = true) :
    (s.procNext).dev = s.dev := by
  unfold State.procNext; split_ifs <;> simp [hb]
@[simp] theorem State.procNext_cfg (s : State) :
    (s.procNext).cfg = s.cfg := by
  unfold State.procNext; split_ifs <;> simp
@[simp] theorem State.procNext_comp (s : State) (hb : s.cfg.busMaster = true) :
    (s.procNext).comp = s.comp := by
  unfold State.procNext; split_ifs <;> simp [hb]
@[simp] theorem State.procNext_map (s : State) :
    (s.procNext).map = s.map := by
  unfold State.procNext; split_ifs <;> simp
@[simp] theorem State.procNext_hwys (s : State) :
    (s.procNext).hwys = s.hwys := by
  unfold State.procNext; split_ifs <;> simp
@[simp] theorem State.procNext_chans (s : State) (hb : s.cfg.busMaster = true) :
    (s.procNext).chans = s.chans := by
  unfold State.procNext; split_ifs <;> simp [hb]
@[simp] theorem State.procNext_tim (s : State) :
    (s.procNext).tim = s.tim := by
  unfold State.procNext; split_ifs <;> simp
@[simp] theorem State.procNext_frames (s : State) :
    (s.procNext).frames = s.frames := by
  unfold State.procNext; split_ifs <;> simp
@[simp] theorem State.procNext_pending (s : State) :
    (s.procNext).pending = s.pending := by
  unfold State.procNext; split_ifs <;> simp

@[simp] theorem State.placeDone_dev (n : RingId) (d : ReqDone) (s : State) (hb : s.cfg.busMaster = true) :
    (s.placeDone n d).dev = s.dev := by
  unfold State.placeDone; dsimp only; split <;> simp [hb]
@[simp] theorem State.placeDone_cfg (n : RingId) (d : ReqDone) (s : State) :
    (s.placeDone n d).cfg = s.cfg := by
  unfold State.placeDone; dsimp only; split <;> simp
@[simp] theorem State.placeDone_map (n : RingId) (d : ReqDone) (s : State) :
    (s.placeDone n d).map = s.map := by
  unfold State.placeDone; dsimp only; split <;> simp
@[simp] theorem State.placeDone_hwys (n : RingId) (d : ReqDone) (s : State) :
    (s.placeDone n d).hwys = s.hwys := by
  unfold State.placeDone; dsimp only; split <;> simp
@[simp] theorem State.placeDone_chans (n : RingId) (d : ReqDone) (s : State) (hb : s.cfg.busMaster = true) :
    (s.placeDone n d).chans = s.chans := by
  unfold State.placeDone; dsimp only; split <;> simp [hb]
@[simp] theorem State.placeDone_tim (n : RingId) (d : ReqDone) (s : State) :
    (s.placeDone n d).tim = s.tim := by
  unfold State.placeDone; dsimp only; split <;> simp
@[simp] theorem State.placeDone_frames (n : RingId) (d : ReqDone) (s : State) :
    (s.placeDone n d).frames = s.frames := by
  unfold State.placeDone; dsimp only; split <;> simp
@[simp] theorem State.placeDone_pending (n : RingId) (d : ReqDone) (s : State) :
    (s.placeDone n d).pending = s.pending := by
  unfold State.placeDone; dsimp only; split <;> simp

@[simp] theorem State.handDone_dev (n : RingId) (d : ReqDone) (s : State) (hb : s.cfg.busMaster = true) :
    (s.handDone n d).dev = s.dev := by
  unfold State.handDone; split_ifs <;> simp [hb]
@[simp] theorem State.handDone_cfg (n : RingId) (d : ReqDone) (s : State) :
    (s.handDone n d).cfg = s.cfg := by
  unfold State.handDone; split_ifs <;> simp
@[simp] theorem State.handDone_map (n : RingId) (d : ReqDone) (s : State) :
    (s.handDone n d).map = s.map := by
  unfold State.handDone; split_ifs <;> simp
@[simp] theorem State.handDone_hwys (n : RingId) (d : ReqDone) (s : State) :
    (s.handDone n d).hwys = s.hwys := by
  unfold State.handDone; split_ifs <;> simp
@[simp] theorem State.handDone_chans (n : RingId) (d : ReqDone) (s : State) (hb : s.cfg.busMaster = true) :
    (s.handDone n d).chans = s.chans := by
  unfold State.handDone; split_ifs <;> simp [hb]
@[simp] theorem State.handDone_tim (n : RingId) (d : ReqDone) (s : State) :
    (s.handDone n d).tim = s.tim := by
  unfold State.handDone; split_ifs <;> simp
@[simp] theorem State.handDone_frames (n : RingId) (d : ReqDone) (s : State) :
    (s.handDone n d).frames = s.frames := by
  unfold State.handDone; split_ifs <;> simp
@[simp] theorem State.handDone_pending (n : RingId) (d : ReqDone) (s : State) :
    (s.handDone n d).pending = s.pending := by
  unfold State.handDone; split_ifs <;> simp

@[simp] theorem State.finishRequest_dev (h : Hand) (st : Status) (v : Nat) (f : Word32) (s : State) (hb : s.cfg.busMaster = true) :
    (s.finishRequest h st v f).dev = s.dev := by
  simp [hb, State.finishRequest]
@[simp] theorem State.finishRequest_cfg (h : Hand) (st : Status) (v : Nat) (f : Word32) (s : State) :
    (s.finishRequest h st v f).cfg = s.cfg := by
  simp [State.finishRequest]
@[simp] theorem State.finishRequest_map (h : Hand) (st : Status) (v : Nat) (f : Word32) (s : State) :
    (s.finishRequest h st v f).map = s.map := by
  simp [State.finishRequest]
@[simp] theorem State.finishRequest_hwys (h : Hand) (st : Status) (v : Nat) (f : Word32) (s : State) :
    (s.finishRequest h st v f).hwys = s.hwys := by
  simp [State.finishRequest]
@[simp] theorem State.finishRequest_chans (h : Hand) (st : Status) (v : Nat) (f : Word32) (s : State) (hb : s.cfg.busMaster = true) :
    (s.finishRequest h st v f).chans = s.chans := by
  simp [hb, State.finishRequest]
@[simp] theorem State.finishRequest_tim (h : Hand) (st : Status) (v : Nat) (f : Word32) (s : State) :
    (s.finishRequest h st v f).tim = s.tim := by
  simp [State.finishRequest]
@[simp] theorem State.finishRequest_frames (h : Hand) (st : Status) (v : Nat) (f : Word32) (s : State) :
    (s.finishRequest h st v f).frames = s.frames := by
  simp [State.finishRequest]
@[simp] theorem State.finishRequest_pending (h : Hand) (st : Status) (v : Nat) (f : Word32) (s : State) :
    (s.finishRequest h st v f).pending = s.pending := by
  simp [State.finishRequest]

@[simp] theorem State.failRequest_dev (h : Hand) (st : Status) (s : State) (hb : s.cfg.busMaster = true) :
    (s.failRequest h st).dev = s.dev := by
  simp [hb, State.failRequest]
@[simp] theorem State.failRequest_cfg (h : Hand) (st : Status) (s : State) :
    (s.failRequest h st).cfg = s.cfg := by
  simp [State.failRequest]
@[simp] theorem State.failRequest_map (h : Hand) (st : Status) (s : State) :
    (s.failRequest h st).map = s.map := by
  simp [State.failRequest]
@[simp] theorem State.failRequest_hwys (h : Hand) (st : Status) (s : State) :
    (s.failRequest h st).hwys = s.hwys := by
  simp [State.failRequest]
@[simp] theorem State.failRequest_chans (h : Hand) (st : Status) (s : State) (hb : s.cfg.busMaster = true) :
    (s.failRequest h st).chans = s.chans := by
  simp [hb, State.failRequest]
@[simp] theorem State.failRequest_tim (h : Hand) (st : Status) (s : State) :
    (s.failRequest h st).tim = s.tim := by
  simp [State.failRequest]
@[simp] theorem State.failRequest_frames (h : Hand) (st : Status) (s : State) :
    (s.failRequest h st).frames = s.frames := by
  simp [State.failRequest]
@[simp] theorem State.failRequest_pending (h : Hand) (st : Status) (s : State) :
    (s.failRequest h st).pending = s.pending := by
  simp [State.failRequest]

@[simp] theorem State.writeResult_dev (r : ReqRecord) (h : Hand) (d : List Byte) (s : State) (hb : s.cfg.busMaster = true) :
    (s.writeResult r h d).dev = s.dev := by
  unfold State.writeResult; dsimp only; split <;> simp [hb]
@[simp] theorem State.writeResult_cfg (r : ReqRecord) (h : Hand) (d : List Byte) (s : State) :
    (s.writeResult r h d).cfg = s.cfg := by
  unfold State.writeResult; dsimp only; split <;> simp
@[simp] theorem State.writeResult_map (r : ReqRecord) (h : Hand) (d : List Byte) (s : State) :
    (s.writeResult r h d).map = s.map := by
  unfold State.writeResult; dsimp only; split <;> simp
@[simp] theorem State.writeResult_hwys (r : ReqRecord) (h : Hand) (d : List Byte) (s : State) :
    (s.writeResult r h d).hwys = s.hwys := by
  unfold State.writeResult; dsimp only; split <;> simp
@[simp] theorem State.writeResult_chans (r : ReqRecord) (h : Hand) (d : List Byte) (s : State) (hb : s.cfg.busMaster = true) :
    (s.writeResult r h d).chans = s.chans := by
  unfold State.writeResult; dsimp only; split <;> simp [hb]
@[simp] theorem State.writeResult_tim (r : ReqRecord) (h : Hand) (d : List Byte) (s : State) :
    (s.writeResult r h d).tim = s.tim := by
  unfold State.writeResult; dsimp only; split <;> simp
@[simp] theorem State.writeResult_frames (r : ReqRecord) (h : Hand) (d : List Byte) (s : State) :
    (s.writeResult r h d).frames = s.frames := by
  unfold State.writeResult; dsimp only; split <;> simp
@[simp] theorem State.writeResult_pending (r : ReqRecord) (h : Hand) (d : List Byte) (s : State) :
    (s.writeResult r h d).pending = s.pending := by
  unfold State.writeResult; dsimp only; split <;> simp

@[simp] theorem State.takePost_dev (p : Post) (s : State) (hb : s.cfg.busMaster = true) :
    (s.takePost p).dev = s.dev := by
  cases p <;> simp [hb, State.takePost]
@[simp] theorem State.takePost_cfg (p : Post) (s : State) :
    (s.takePost p).cfg = s.cfg := by
  cases p <;> simp [State.takePost]
@[simp] theorem State.takePost_map (p : Post) (s : State) :
    (s.takePost p).map = s.map := by
  cases p <;> simp [State.takePost]
@[simp] theorem State.takePost_hwys (p : Post) (s : State) :
    (s.takePost p).hwys = s.hwys := by
  cases p <;> simp [State.takePost]
@[simp] theorem State.takePost_chans (p : Post) (s : State) (hb : s.cfg.busMaster = true) :
    (s.takePost p).chans = s.chans := by
  cases p <;> simp [hb, State.takePost]
@[simp] theorem State.takePost_tim (p : Post) (s : State) :
    (s.takePost p).tim = s.tim := by
  cases p <;> simp [State.takePost]
@[simp] theorem State.takePost_frames (p : Post) (s : State) :
    (s.takePost p).frames = s.frames := by
  cases p <;> simp [State.takePost]
@[simp] theorem State.takePost_pending (p : Post) (s : State) :
    (s.takePost p).pending = s.pending := by
  cases p <;> simp [State.takePost]

/-- Records are taken one after the other. -/
@[simp] theorem State.takePosts_nil (s : State) : s.takePosts [] = s := rfl
@[simp] theorem State.takePosts_cons (p : Post) (ps : List Post) (s : State) :
    s.takePosts (p :: ps) = (s.takePost p).takePosts ps := rfl

@[simp] theorem State.takePosts_dev (ps : List Post) (s : State) (hb : s.cfg.busMaster = true) :
    (s.takePosts ps).dev = s.dev := by
  induction ps generalizing s with
  | nil => rfl
  | cons p ps ih => simp [hb, ih]
@[simp] theorem State.takePosts_cfg (ps : List Post) (s : State) :
    (s.takePosts ps).cfg = s.cfg := by
  induction ps generalizing s with
  | nil => rfl
  | cons p ps ih => simp [ih]
@[simp] theorem State.takePosts_map (ps : List Post) (s : State) :
    (s.takePosts ps).map = s.map := by
  induction ps generalizing s with
  | nil => rfl
  | cons p ps ih => simp [ih]
@[simp] theorem State.takePosts_hwys (ps : List Post) (s : State) :
    (s.takePosts ps).hwys = s.hwys := by
  induction ps generalizing s with
  | nil => rfl
  | cons p ps ih => simp [ih]
@[simp] theorem State.takePosts_chans (ps : List Post) (s : State) (hb : s.cfg.busMaster = true) :
    (s.takePosts ps).chans = s.chans := by
  induction ps generalizing s with
  | nil => rfl
  | cons p ps ih => simp [hb, ih]
@[simp] theorem State.takePosts_tim (ps : List Post) (s : State) :
    (s.takePosts ps).tim = s.tim := by
  induction ps generalizing s with
  | nil => rfl
  | cons p ps ih => simp [ih]
@[simp] theorem State.takePosts_frames (ps : List Post) (s : State) :
    (s.takePosts ps).frames = s.frames := by
  induction ps generalizing s with
  | nil => rfl
  | cons p ps ih => simp [ih]
@[simp] theorem State.takePosts_pending (ps : List Post) (s : State) :
    (s.takePosts ps).pending = s.pending := by
  induction ps generalizing s with
  | nil => rfl
  | cons p ps ih => simp [ih]

/-! ### Channels -/

@[simp] theorem State.issueReq_dev (r : OpReq) (s : State) :
    (s.issueReq r).dev = s.dev := by
  cases r <;> rfl
@[simp] theorem State.issueReq_cfg (r : OpReq) (s : State) :
    (s.issueReq r).cfg = s.cfg := by
  cases r <;> rfl
@[simp] theorem State.issueReq_proc (r : OpReq) (s : State) :
    (s.issueReq r).proc = s.proc := by
  cases r <;> rfl
@[simp] theorem State.issueReq_comp (r : OpReq) (s : State) :
    (s.issueReq r).comp = s.comp := by
  cases r <;> rfl
@[simp] theorem State.issueReq_mc (r : OpReq) (s : State) :
    (s.issueReq r).mc = s.mc := by
  cases r <;> rfl
@[simp] theorem State.issueReq_map (r : OpReq) (s : State) :
    (s.issueReq r).map = s.map := by
  cases r <;> rfl
@[simp] theorem State.issueReq_hwys (r : OpReq) (s : State) :
    (s.issueReq r).hwys = s.hwys := by
  cases r <;> rfl
@[simp] theorem State.issueReq_chans (r : OpReq) (s : State) :
    (s.issueReq r).chans = s.chans := by
  cases r <;> rfl
@[simp] theorem State.issueReq_tim (r : OpReq) (s : State) :
    (s.issueReq r).tim = s.tim := by
  cases r <;> rfl
@[simp] theorem State.issueReq_frames (r : OpReq) (s : State) :
    (s.issueReq r).frames = s.frames := by
  cases r <;> rfl
@[simp] theorem State.issueReq_pending (r : OpReq) (s : State) :
    (s.issueReq r).pending = s.pending := by
  cases r <;> rfl

theorem State.issueReqs_link_only (rs : List OpReq) (s : State) :
    ∃ l, rs.foldl (fun s r => s.issueReq r) s = { s with link := l } := by
  induction rs generalizing s with
  | nil => exact ⟨s.link, rfl⟩
  | cons r rs ih =>
    obtain ⟨l, hl⟩ := ih (s.issueReq r)
    exact ⟨l, by rw [List.foldl_cons, hl]; cases r <;> rfl⟩

/-- A channel's step changes its record and the operations in flight, and nothing else. -/
theorem State.chanStep_eq (c : ChanId) (o : ChanOut) (s : State) :
    ∃ l, s.chanStep c o = { s with chans := s.chans.set c o.ch, link := l } := by
  obtain ⟨l, hl⟩ := State.issueReqs_link_only o.ops
    { s with chans := s.chans.set c o.ch, link := s.link.staleChan c o.stales }
  exact ⟨l, by rw [State.chanStep, hl]⟩

@[simp] theorem State.chanStep_chans (c : ChanId) (o : ChanOut) (s : State) :
    (s.chanStep c o).chans = s.chans.set c o.ch := by
  obtain ⟨l, hl⟩ := s.chanStep_eq c o; rw [hl]

@[simp] theorem State.chanStep_dev (c : ChanId) (o : ChanOut) (s : State) :
    (s.chanStep c o).dev = s.dev := by
  obtain ⟨l, hl⟩ := s.chanStep_eq c o; rw [hl]
@[simp] theorem State.chanStep_cfg (c : ChanId) (o : ChanOut) (s : State) :
    (s.chanStep c o).cfg = s.cfg := by
  obtain ⟨l, hl⟩ := s.chanStep_eq c o; rw [hl]
@[simp] theorem State.chanStep_proc (c : ChanId) (o : ChanOut) (s : State) :
    (s.chanStep c o).proc = s.proc := by
  obtain ⟨l, hl⟩ := s.chanStep_eq c o; rw [hl]
@[simp] theorem State.chanStep_comp (c : ChanId) (o : ChanOut) (s : State) :
    (s.chanStep c o).comp = s.comp := by
  obtain ⟨l, hl⟩ := s.chanStep_eq c o; rw [hl]
@[simp] theorem State.chanStep_mc (c : ChanId) (o : ChanOut) (s : State) :
    (s.chanStep c o).mc = s.mc := by
  obtain ⟨l, hl⟩ := s.chanStep_eq c o; rw [hl]
@[simp] theorem State.chanStep_map (c : ChanId) (o : ChanOut) (s : State) :
    (s.chanStep c o).map = s.map := by
  obtain ⟨l, hl⟩ := s.chanStep_eq c o; rw [hl]
@[simp] theorem State.chanStep_hwys (c : ChanId) (o : ChanOut) (s : State) :
    (s.chanStep c o).hwys = s.hwys := by
  obtain ⟨l, hl⟩ := s.chanStep_eq c o; rw [hl]
@[simp] theorem State.chanStep_tim (c : ChanId) (o : ChanOut) (s : State) :
    (s.chanStep c o).tim = s.tim := by
  obtain ⟨l, hl⟩ := s.chanStep_eq c o; rw [hl]
@[simp] theorem State.chanStep_frames (c : ChanId) (o : ChanOut) (s : State) :
    (s.chanStep c o).frames = s.frames := by
  obtain ⟨l, hl⟩ := s.chanStep_eq c o; rw [hl]
@[simp] theorem State.chanStep_pending (c : ChanId) (o : ChanOut) (s : State) :
    (s.chanStep c o).pending = s.pending := by
  obtain ⟨l, hl⟩ := s.chanStep_eq c o; rw [hl]

@[simp] theorem State.chanPump_dev (c : ChanId) (s : State) :
    (s.chanPump c).1.dev = s.dev := by
  simp [State.chanPump]
@[simp] theorem State.chanPump_cfg (c : ChanId) (s : State) :
    (s.chanPump c).1.cfg = s.cfg := by
  simp [State.chanPump]
@[simp] theorem State.chanPump_proc (c : ChanId) (s : State) :
    (s.chanPump c).1.proc = s.proc := by
  simp [State.chanPump]
@[simp] theorem State.chanPump_comp (c : ChanId) (s : State) :
    (s.chanPump c).1.comp = s.comp := by
  simp [State.chanPump]
@[simp] theorem State.chanPump_mc (c : ChanId) (s : State) :
    (s.chanPump c).1.mc = s.mc := by
  simp [State.chanPump]
@[simp] theorem State.chanPump_map (c : ChanId) (s : State) :
    (s.chanPump c).1.map = s.map := by
  simp [State.chanPump]
@[simp] theorem State.chanPump_hwys (c : ChanId) (s : State) :
    (s.chanPump c).1.hwys = s.hwys := by
  simp [State.chanPump]
@[simp] theorem State.chanPump_tim (c : ChanId) (s : State) :
    (s.chanPump c).1.tim = s.tim := by
  simp [State.chanPump]
@[simp] theorem State.chanPump_frames (c : ChanId) (s : State) :
    (s.chanPump c).1.frames = s.frames := by
  simp [State.chanPump]
@[simp] theorem State.chanPump_pending (c : ChanId) (s : State) :
    (s.chanPump c).1.pending = s.pending := by
  simp [State.chanPump]

@[simp] theorem State.chanAct_dev (c : ChanId) (o : ChanOut) (s : State) :
    (s.chanAct c o).1.dev = s.dev := by
  simp [State.chanAct]
@[simp] theorem State.chanAct_cfg (c : ChanId) (o : ChanOut) (s : State) :
    (s.chanAct c o).1.cfg = s.cfg := by
  simp [State.chanAct]
@[simp] theorem State.chanAct_proc (c : ChanId) (o : ChanOut) (s : State) :
    (s.chanAct c o).1.proc = s.proc := by
  simp [State.chanAct]
@[simp] theorem State.chanAct_comp (c : ChanId) (o : ChanOut) (s : State) :
    (s.chanAct c o).1.comp = s.comp := by
  simp [State.chanAct]
@[simp] theorem State.chanAct_mc (c : ChanId) (o : ChanOut) (s : State) :
    (s.chanAct c o).1.mc = s.mc := by
  simp [State.chanAct]
@[simp] theorem State.chanAct_map (c : ChanId) (o : ChanOut) (s : State) :
    (s.chanAct c o).1.map = s.map := by
  simp [State.chanAct]
@[simp] theorem State.chanAct_hwys (c : ChanId) (o : ChanOut) (s : State) :
    (s.chanAct c o).1.hwys = s.hwys := by
  simp [State.chanAct]
@[simp] theorem State.chanAct_tim (c : ChanId) (o : ChanOut) (s : State) :
    (s.chanAct c o).1.tim = s.tim := by
  simp [State.chanAct]
@[simp] theorem State.chanAct_frames (c : ChanId) (o : ChanOut) (s : State) :
    (s.chanAct c o).1.frames = s.frames := by
  simp [State.chanAct]
@[simp] theorem State.chanAct_pending (c : ChanId) (o : ChanOut) (s : State) :
    (s.chanAct c o).1.pending = s.pending := by
  simp [State.chanAct]

@[simp] theorem State.chanEvent_dev (c : ChanId) (o : ChanOut) (s : State) (hb : s.cfg.busMaster = true) :
    (s.chanEvent c o).dev = s.dev := by
  simp [hb, State.chanEvent]
@[simp] theorem State.chanEvent_cfg (c : ChanId) (o : ChanOut) (s : State) :
    (s.chanEvent c o).cfg = s.cfg := by
  simp [State.chanEvent]
@[simp] theorem State.chanEvent_map (c : ChanId) (o : ChanOut) (s : State) :
    (s.chanEvent c o).map = s.map := by
  simp [State.chanEvent]
@[simp] theorem State.chanEvent_hwys (c : ChanId) (o : ChanOut) (s : State) :
    (s.chanEvent c o).hwys = s.hwys := by
  simp [State.chanEvent]
@[simp] theorem State.chanEvent_tim (c : ChanId) (o : ChanOut) (s : State) :
    (s.chanEvent c o).tim = s.tim := by
  simp [State.chanEvent]
@[simp] theorem State.chanEvent_frames (c : ChanId) (o : ChanOut) (s : State) :
    (s.chanEvent c o).frames = s.frames := by
  simp [State.chanEvent]
@[simp] theorem State.chanEvent_pending (c : ChanId) (o : ChanOut) (s : State) :
    (s.chanEvent c o).pending = s.pending := by
  simp [State.chanEvent]

@[simp] theorem State.moveChans_dev (reads : Vector ReadFrame 16) (cs : List ChanId) (s : State) :
    (s.moveChans reads cs).1.dev = s.dev := by
  have h : ∀ (cs : List ChanId) (a : State × List (List Post)), (cs.foldl (fun a c =>
      let r := a.1.chanAct c (a.1.chans[c].frame (a.1.chanEnv c) reads[a.1.chans[c].hwy])
      (r.1, a.2 ++ [r.2])) a).1.dev = a.1.dev := by
    intro cs
    induction cs with
    | nil => intro a; rfl
    | cons c cs ih => intro a; rw [List.foldl_cons]; exact (ih _).trans (by simp)
  exact h cs (s, [])
@[simp] theorem State.moveChans_cfg (reads : Vector ReadFrame 16) (cs : List ChanId) (s : State) :
    (s.moveChans reads cs).1.cfg = s.cfg := by
  have h : ∀ (cs : List ChanId) (a : State × List (List Post)), (cs.foldl (fun a c =>
      let r := a.1.chanAct c (a.1.chans[c].frame (a.1.chanEnv c) reads[a.1.chans[c].hwy])
      (r.1, a.2 ++ [r.2])) a).1.cfg = a.1.cfg := by
    intro cs
    induction cs with
    | nil => intro a; rfl
    | cons c cs ih => intro a; rw [List.foldl_cons]; exact (ih _).trans (by simp)
  exact h cs (s, [])
@[simp] theorem State.moveChans_proc (reads : Vector ReadFrame 16) (cs : List ChanId) (s : State) :
    (s.moveChans reads cs).1.proc = s.proc := by
  have h : ∀ (cs : List ChanId) (a : State × List (List Post)), (cs.foldl (fun a c =>
      let r := a.1.chanAct c (a.1.chans[c].frame (a.1.chanEnv c) reads[a.1.chans[c].hwy])
      (r.1, a.2 ++ [r.2])) a).1.proc = a.1.proc := by
    intro cs
    induction cs with
    | nil => intro a; rfl
    | cons c cs ih => intro a; rw [List.foldl_cons]; exact (ih _).trans (by simp)
  exact h cs (s, [])
@[simp] theorem State.moveChans_comp (reads : Vector ReadFrame 16) (cs : List ChanId) (s : State) :
    (s.moveChans reads cs).1.comp = s.comp := by
  have h : ∀ (cs : List ChanId) (a : State × List (List Post)), (cs.foldl (fun a c =>
      let r := a.1.chanAct c (a.1.chans[c].frame (a.1.chanEnv c) reads[a.1.chans[c].hwy])
      (r.1, a.2 ++ [r.2])) a).1.comp = a.1.comp := by
    intro cs
    induction cs with
    | nil => intro a; rfl
    | cons c cs ih => intro a; rw [List.foldl_cons]; exact (ih _).trans (by simp)
  exact h cs (s, [])
@[simp] theorem State.moveChans_mc (reads : Vector ReadFrame 16) (cs : List ChanId) (s : State) :
    (s.moveChans reads cs).1.mc = s.mc := by
  have h : ∀ (cs : List ChanId) (a : State × List (List Post)), (cs.foldl (fun a c =>
      let r := a.1.chanAct c (a.1.chans[c].frame (a.1.chanEnv c) reads[a.1.chans[c].hwy])
      (r.1, a.2 ++ [r.2])) a).1.mc = a.1.mc := by
    intro cs
    induction cs with
    | nil => intro a; rfl
    | cons c cs ih => intro a; rw [List.foldl_cons]; exact (ih _).trans (by simp)
  exact h cs (s, [])
@[simp] theorem State.moveChans_map (reads : Vector ReadFrame 16) (cs : List ChanId) (s : State) :
    (s.moveChans reads cs).1.map = s.map := by
  have h : ∀ (cs : List ChanId) (a : State × List (List Post)), (cs.foldl (fun a c =>
      let r := a.1.chanAct c (a.1.chans[c].frame (a.1.chanEnv c) reads[a.1.chans[c].hwy])
      (r.1, a.2 ++ [r.2])) a).1.map = a.1.map := by
    intro cs
    induction cs with
    | nil => intro a; rfl
    | cons c cs ih => intro a; rw [List.foldl_cons]; exact (ih _).trans (by simp)
  exact h cs (s, [])
@[simp] theorem State.moveChans_hwys (reads : Vector ReadFrame 16) (cs : List ChanId) (s : State) :
    (s.moveChans reads cs).1.hwys = s.hwys := by
  have h : ∀ (cs : List ChanId) (a : State × List (List Post)), (cs.foldl (fun a c =>
      let r := a.1.chanAct c (a.1.chans[c].frame (a.1.chanEnv c) reads[a.1.chans[c].hwy])
      (r.1, a.2 ++ [r.2])) a).1.hwys = a.1.hwys := by
    intro cs
    induction cs with
    | nil => intro a; rfl
    | cons c cs ih => intro a; rw [List.foldl_cons]; exact (ih _).trans (by simp)
  exact h cs (s, [])
@[simp] theorem State.moveChans_tim (reads : Vector ReadFrame 16) (cs : List ChanId) (s : State) :
    (s.moveChans reads cs).1.tim = s.tim := by
  have h : ∀ (cs : List ChanId) (a : State × List (List Post)), (cs.foldl (fun a c =>
      let r := a.1.chanAct c (a.1.chans[c].frame (a.1.chanEnv c) reads[a.1.chans[c].hwy])
      (r.1, a.2 ++ [r.2])) a).1.tim = a.1.tim := by
    intro cs
    induction cs with
    | nil => intro a; rfl
    | cons c cs ih => intro a; rw [List.foldl_cons]; exact (ih _).trans (by simp)
  exact h cs (s, [])
@[simp] theorem State.moveChans_frames (reads : Vector ReadFrame 16) (cs : List ChanId) (s : State) :
    (s.moveChans reads cs).1.frames = s.frames := by
  have h : ∀ (cs : List ChanId) (a : State × List (List Post)), (cs.foldl (fun a c =>
      let r := a.1.chanAct c (a.1.chans[c].frame (a.1.chanEnv c) reads[a.1.chans[c].hwy])
      (r.1, a.2 ++ [r.2])) a).1.frames = a.1.frames := by
    intro cs
    induction cs with
    | nil => intro a; rfl
    | cons c cs ih => intro a; rw [List.foldl_cons]; exact (ih _).trans (by simp)
  exact h cs (s, [])
@[simp] theorem State.moveChans_pending (reads : Vector ReadFrame 16) (cs : List ChanId) (s : State) :
    (s.moveChans reads cs).1.pending = s.pending := by
  have h : ∀ (cs : List ChanId) (a : State × List (List Post)), (cs.foldl (fun a c =>
      let r := a.1.chanAct c (a.1.chans[c].frame (a.1.chanEnv c) reads[a.1.chans[c].hwy])
      (r.1, a.2 ++ [r.2])) a).1.pending = a.1.pending := by
    intro cs
    induction cs with
    | nil => intro a; rfl
    | cons c cs ih => intro a; rw [List.foldl_cons]; exact (ih _).trans (by simp)
  exact h cs (s, [])

@[simp] theorem State.applyEntries_dev (es : List (ChanId × ChanEntry)) (s : State) :
    (s.applyEntries es).1.dev = s.dev := by
  have h : ∀ (es : List (ChanId × ChanEntry)) (a : State × List (List Post)), (es.foldl (fun a e =>
      let r := a.1.chanAct e.1 (a.1.chans[e.1].applyEntry e.2 (a.1.chanEnv e.1))
      (r.1, a.2 ++ [r.2])) a).1.dev = a.1.dev := by
    intro es
    induction es with
    | nil => intro a; rfl
    | cons e es ih => intro a; rw [List.foldl_cons]; exact (ih _).trans (by simp)
  exact h es (s, [])
@[simp] theorem State.applyEntries_cfg (es : List (ChanId × ChanEntry)) (s : State) :
    (s.applyEntries es).1.cfg = s.cfg := by
  have h : ∀ (es : List (ChanId × ChanEntry)) (a : State × List (List Post)), (es.foldl (fun a e =>
      let r := a.1.chanAct e.1 (a.1.chans[e.1].applyEntry e.2 (a.1.chanEnv e.1))
      (r.1, a.2 ++ [r.2])) a).1.cfg = a.1.cfg := by
    intro es
    induction es with
    | nil => intro a; rfl
    | cons e es ih => intro a; rw [List.foldl_cons]; exact (ih _).trans (by simp)
  exact h es (s, [])
@[simp] theorem State.applyEntries_proc (es : List (ChanId × ChanEntry)) (s : State) :
    (s.applyEntries es).1.proc = s.proc := by
  have h : ∀ (es : List (ChanId × ChanEntry)) (a : State × List (List Post)), (es.foldl (fun a e =>
      let r := a.1.chanAct e.1 (a.1.chans[e.1].applyEntry e.2 (a.1.chanEnv e.1))
      (r.1, a.2 ++ [r.2])) a).1.proc = a.1.proc := by
    intro es
    induction es with
    | nil => intro a; rfl
    | cons e es ih => intro a; rw [List.foldl_cons]; exact (ih _).trans (by simp)
  exact h es (s, [])
@[simp] theorem State.applyEntries_comp (es : List (ChanId × ChanEntry)) (s : State) :
    (s.applyEntries es).1.comp = s.comp := by
  have h : ∀ (es : List (ChanId × ChanEntry)) (a : State × List (List Post)), (es.foldl (fun a e =>
      let r := a.1.chanAct e.1 (a.1.chans[e.1].applyEntry e.2 (a.1.chanEnv e.1))
      (r.1, a.2 ++ [r.2])) a).1.comp = a.1.comp := by
    intro es
    induction es with
    | nil => intro a; rfl
    | cons e es ih => intro a; rw [List.foldl_cons]; exact (ih _).trans (by simp)
  exact h es (s, [])
@[simp] theorem State.applyEntries_mc (es : List (ChanId × ChanEntry)) (s : State) :
    (s.applyEntries es).1.mc = s.mc := by
  have h : ∀ (es : List (ChanId × ChanEntry)) (a : State × List (List Post)), (es.foldl (fun a e =>
      let r := a.1.chanAct e.1 (a.1.chans[e.1].applyEntry e.2 (a.1.chanEnv e.1))
      (r.1, a.2 ++ [r.2])) a).1.mc = a.1.mc := by
    intro es
    induction es with
    | nil => intro a; rfl
    | cons e es ih => intro a; rw [List.foldl_cons]; exact (ih _).trans (by simp)
  exact h es (s, [])
@[simp] theorem State.applyEntries_map (es : List (ChanId × ChanEntry)) (s : State) :
    (s.applyEntries es).1.map = s.map := by
  have h : ∀ (es : List (ChanId × ChanEntry)) (a : State × List (List Post)), (es.foldl (fun a e =>
      let r := a.1.chanAct e.1 (a.1.chans[e.1].applyEntry e.2 (a.1.chanEnv e.1))
      (r.1, a.2 ++ [r.2])) a).1.map = a.1.map := by
    intro es
    induction es with
    | nil => intro a; rfl
    | cons e es ih => intro a; rw [List.foldl_cons]; exact (ih _).trans (by simp)
  exact h es (s, [])
@[simp] theorem State.applyEntries_hwys (es : List (ChanId × ChanEntry)) (s : State) :
    (s.applyEntries es).1.hwys = s.hwys := by
  have h : ∀ (es : List (ChanId × ChanEntry)) (a : State × List (List Post)), (es.foldl (fun a e =>
      let r := a.1.chanAct e.1 (a.1.chans[e.1].applyEntry e.2 (a.1.chanEnv e.1))
      (r.1, a.2 ++ [r.2])) a).1.hwys = a.1.hwys := by
    intro es
    induction es with
    | nil => intro a; rfl
    | cons e es ih => intro a; rw [List.foldl_cons]; exact (ih _).trans (by simp)
  exact h es (s, [])
@[simp] theorem State.applyEntries_tim (es : List (ChanId × ChanEntry)) (s : State) :
    (s.applyEntries es).1.tim = s.tim := by
  have h : ∀ (es : List (ChanId × ChanEntry)) (a : State × List (List Post)), (es.foldl (fun a e =>
      let r := a.1.chanAct e.1 (a.1.chans[e.1].applyEntry e.2 (a.1.chanEnv e.1))
      (r.1, a.2 ++ [r.2])) a).1.tim = a.1.tim := by
    intro es
    induction es with
    | nil => intro a; rfl
    | cons e es ih => intro a; rw [List.foldl_cons]; exact (ih _).trans (by simp)
  exact h es (s, [])
@[simp] theorem State.applyEntries_frames (es : List (ChanId × ChanEntry)) (s : State) :
    (s.applyEntries es).1.frames = s.frames := by
  have h : ∀ (es : List (ChanId × ChanEntry)) (a : State × List (List Post)), (es.foldl (fun a e =>
      let r := a.1.chanAct e.1 (a.1.chans[e.1].applyEntry e.2 (a.1.chanEnv e.1))
      (r.1, a.2 ++ [r.2])) a).1.frames = a.1.frames := by
    intro es
    induction es with
    | nil => intro a; rfl
    | cons e es ih => intro a; rw [List.foldl_cons]; exact (ih _).trans (by simp)
  exact h es (s, [])
@[simp] theorem State.applyEntries_pending (es : List (ChanId × ChanEntry)) (s : State) :
    (s.applyEntries es).1.pending = s.pending := by
  have h : ∀ (es : List (ChanId × ChanEntry)) (a : State × List (List Post)), (es.foldl (fun a e =>
      let r := a.1.chanAct e.1 (a.1.chans[e.1].applyEntry e.2 (a.1.chanEnv e.1))
      (r.1, a.2 ++ [r.2])) a).1.pending = a.1.pending := by
    intro es
    induction es with
    | nil => intro a; rfl
    | cons e es ih => intro a; rw [List.foldl_cons]; exact (ih _).trans (by simp)
  exact h es (s, [])

@[simp] theorem State.applySet_dev (o : FrameOrder) (s : State) :
    (s.applySet o).1.dev = s.dev := by
  simp [State.applySet]
@[simp] theorem State.applySet_cfg (o : FrameOrder) (s : State) :
    (s.applySet o).1.cfg = s.cfg := by
  simp [State.applySet]
@[simp] theorem State.applySet_proc (o : FrameOrder) (s : State) :
    (s.applySet o).1.proc = s.proc := by
  simp [State.applySet]
@[simp] theorem State.applySet_comp (o : FrameOrder) (s : State) :
    (s.applySet o).1.comp = s.comp := by
  simp [State.applySet]
@[simp] theorem State.applySet_hwys (o : FrameOrder) (s : State) :
    (s.applySet o).1.hwys = s.hwys := by
  simp [State.applySet]
@[simp] theorem State.applySet_tim (o : FrameOrder) (s : State) :
    (s.applySet o).1.tim = s.tim := by
  simp [State.applySet]
@[simp] theorem State.applySet_frames (o : FrameOrder) (s : State) :
    (s.applySet o).1.frames = s.frames := by
  simp [State.applySet]
@[simp] theorem State.applySet_pending (o : FrameOrder) (s : State) :
    (s.applySet o).1.pending = s.pending := by
  simp [State.applySet]

@[simp] theorem State.closeAll_dev (s : State) (hb : s.cfg.busMaster = true) :
    (s.closeAll).dev = s.dev := by
  have h : ∀ (cs : List ChanId) (s : State), s.cfg.busMaster = true →
      (cs.foldl (fun s c => s.chanEvent c (s.chans[c].close (s.chanEnv c))) s).dev = s.dev := by
    intro cs
    induction cs with
    | nil => intro s _; rfl
    | cons c cs ih => intro s hb; rw [List.foldl_cons]; exact (ih _ (by simpa using hb)).trans (by simp [hb])
  exact h _ s hb
@[simp] theorem State.closeAll_cfg (s : State) :
    (s.closeAll).cfg = s.cfg := by
  have h : ∀ (cs : List ChanId) (s : State),
      (cs.foldl (fun s c => s.chanEvent c (s.chans[c].close (s.chanEnv c))) s).cfg = s.cfg := by
    intro cs
    induction cs with
    | nil => intro s; rfl
    | cons c cs ih => intro s; rw [List.foldl_cons]; exact (ih _).trans (by simp)
  exact h _ s
@[simp] theorem State.closeAll_map (s : State) :
    (s.closeAll).map = s.map := by
  have h : ∀ (cs : List ChanId) (s : State),
      (cs.foldl (fun s c => s.chanEvent c (s.chans[c].close (s.chanEnv c))) s).map = s.map := by
    intro cs
    induction cs with
    | nil => intro s; rfl
    | cons c cs ih => intro s; rw [List.foldl_cons]; exact (ih _).trans (by simp)
  exact h _ s
@[simp] theorem State.closeAll_hwys (s : State) :
    (s.closeAll).hwys = s.hwys := by
  have h : ∀ (cs : List ChanId) (s : State),
      (cs.foldl (fun s c => s.chanEvent c (s.chans[c].close (s.chanEnv c))) s).hwys = s.hwys := by
    intro cs
    induction cs with
    | nil => intro s; rfl
    | cons c cs ih => intro s; rw [List.foldl_cons]; exact (ih _).trans (by simp)
  exact h _ s
@[simp] theorem State.closeAll_tim (s : State) :
    (s.closeAll).tim = s.tim := by
  have h : ∀ (cs : List ChanId) (s : State),
      (cs.foldl (fun s c => s.chanEvent c (s.chans[c].close (s.chanEnv c))) s).tim = s.tim := by
    intro cs
    induction cs with
    | nil => intro s; rfl
    | cons c cs ih => intro s; rw [List.foldl_cons]; exact (ih _).trans (by simp)
  exact h _ s
@[simp] theorem State.closeAll_frames (s : State) :
    (s.closeAll).frames = s.frames := by
  have h : ∀ (cs : List ChanId) (s : State),
      (cs.foldl (fun s c => s.chanEvent c (s.chans[c].close (s.chanEnv c))) s).frames = s.frames := by
    intro cs
    induction cs with
    | nil => intro s; rfl
    | cons c cs ih => intro s; rw [List.foldl_cons]; exact (ih _).trans (by simp)
  exact h _ s
@[simp] theorem State.closeAll_pending (s : State) :
    (s.closeAll).pending = s.pending := by
  have h : ∀ (cs : List ChanId) (s : State),
      (cs.foldl (fun s c => s.chanEvent c (s.chans[c].close (s.chanEnv c))) s).pending = s.pending := by
    intro cs
    induction cs with
    | nil => intro s; rfl
    | cons c cs ih => intro s; rw [List.foldl_cons]; exact (ih _).trans (by simp)
  exact h _ s

@[simp] theorem State.stopClear_cfg (s : State) :
    (s.stopClear).cfg = s.cfg := by
  simp [State.stopClear]
@[simp] theorem State.stopClear_hwys (s : State) :
    (s.stopClear).hwys = s.hwys := by
  simp [State.stopClear]
@[simp] theorem State.stopClear_tim (s : State) :
    (s.stopClear).tim = s.tim := by
  simp [State.stopClear]
@[simp] theorem State.stopClear_frames (s : State) :
    (s.stopClear).frames = s.frames := by
  simp [State.stopClear]
@[simp] theorem State.stopClear_pending (s : State) :
    (s.stopClear).pending = s.pending := by
  simp [State.stopClear]

/-! ### Timing and highways -/

@[simp] theorem State.withTiming_dev (r : Timing × List TimOcc) (s : State) (hb : s.cfg.busMaster = true) :
    (s.withTiming r).dev = s.dev := by
  simp [hb, State.withTiming]
@[simp] theorem State.withTiming_cfg (r : Timing × List TimOcc) (s : State) :
    (s.withTiming r).cfg = s.cfg := by
  simp [State.withTiming]
@[simp] theorem State.withTiming_map (r : Timing × List TimOcc) (s : State) :
    (s.withTiming r).map = s.map := by
  simp [State.withTiming]
@[simp] theorem State.withTiming_hwys (r : Timing × List TimOcc) (s : State) :
    (s.withTiming r).hwys = s.hwys := by
  simp [State.withTiming]
@[simp] theorem State.withTiming_chans (r : Timing × List TimOcc) (s : State) (hb : s.cfg.busMaster = true) :
    (s.withTiming r).chans = s.chans := by
  simp [hb, State.withTiming]
@[simp] theorem State.withTiming_frames (r : Timing × List TimOcc) (s : State) :
    (s.withTiming r).frames = s.frames := by
  simp [State.withTiming]
@[simp] theorem State.withTiming_pending (r : Timing × List TimOcc) (s : State) :
    (s.withTiming r).pending = s.pending := by
  simp [State.withTiming]

@[simp] theorem State.withTiming_tim (r : Timing × List TimOcc) (s : State) : (s.withTiming r).tim = r.1 := by
  simp [State.withTiming]

@[simp] theorem State.arrival_dev (h : HwyId) (f : Frame) (b : Bool) (s : State) (hb : s.cfg.busMaster = true) :
    (s.arrival h f b).dev = s.dev := by
  unfold State.arrival; split <;> simp [hb]
@[simp] theorem State.arrival_cfg (h : HwyId) (f : Frame) (b : Bool) (s : State) :
    (s.arrival h f b).cfg = s.cfg := by
  unfold State.arrival; split <;> simp
@[simp] theorem State.arrival_map (h : HwyId) (f : Frame) (b : Bool) (s : State) :
    (s.arrival h f b).map = s.map := by
  unfold State.arrival; split <;> simp
@[simp] theorem State.arrival_chans (h : HwyId) (f : Frame) (b : Bool) (s : State) (hb : s.cfg.busMaster = true) :
    (s.arrival h f b).chans = s.chans := by
  unfold State.arrival; split <;> simp [hb]
@[simp] theorem State.arrival_frames (h : HwyId) (f : Frame) (b : Bool) (s : State) :
    (s.arrival h f b).frames = s.frames := by
  unfold State.arrival; split <;> simp
@[simp] theorem State.arrival_pending (h : HwyId) (f : Frame) (b : Bool) (s : State) :
    (s.arrival h f b).pending = s.pending := by
  unfold State.arrival; split <;> simp

@[simp] theorem State.changeHwy_dev (h : HwyId) (r : ReqRecord) (k : HwyChange) (s : State) (hb : s.cfg.busMaster = true) :
    (s.changeHwy h r k).dev = s.dev := by
  unfold State.changeHwy; dsimp only; split <;> simp [hb]
@[simp] theorem State.changeHwy_cfg (h : HwyId) (r : ReqRecord) (k : HwyChange) (s : State) :
    (s.changeHwy h r k).cfg = s.cfg := by
  unfold State.changeHwy; dsimp only; split <;> simp
@[simp] theorem State.changeHwy_chans (h : HwyId) (r : ReqRecord) (k : HwyChange) (s : State) (hb : s.cfg.busMaster = true) :
    (s.changeHwy h r k).chans = s.chans := by
  unfold State.changeHwy; dsimp only; split <;> simp [hb]
@[simp] theorem State.changeHwy_frames (h : HwyId) (r : ReqRecord) (k : HwyChange) (s : State) :
    (s.changeHwy h r k).frames = s.frames := by
  unfold State.changeHwy; dsimp only; split <;> simp
@[simp] theorem State.changeHwy_pending (h : HwyId) (r : ReqRecord) (k : HwyChange) (s : State) :
    (s.changeHwy h r k).pending = s.pending := by
  unfold State.changeHwy; dsimp only; split <;> simp

/-! ### Requests -/

@[simp] theorem State.stagingDone_dev (h : Hand) (i : Bool) (st : Status) (s : State) (hb : s.cfg.busMaster = true) :
    (s.stagingDone h i st).dev = s.dev := by
  unfold State.stagingDone; split <;> simp [hb]
@[simp] theorem State.stagingDone_cfg (h : Hand) (i : Bool) (st : Status) (s : State) :
    (s.stagingDone h i st).cfg = s.cfg := by
  unfold State.stagingDone; split <;> simp
@[simp] theorem State.stagingDone_map (h : Hand) (i : Bool) (st : Status) (s : State) :
    (s.stagingDone h i st).map = s.map := by
  unfold State.stagingDone; split <;> simp
@[simp] theorem State.stagingDone_hwys (h : Hand) (i : Bool) (st : Status) (s : State) :
    (s.stagingDone h i st).hwys = s.hwys := by
  unfold State.stagingDone; split <;> simp
@[simp] theorem State.stagingDone_chans (h : Hand) (i : Bool) (st : Status) (s : State) (hb : s.cfg.busMaster = true) :
    (s.stagingDone h i st).chans = s.chans := by
  unfold State.stagingDone; split <;> simp [hb]
@[simp] theorem State.stagingDone_tim (h : Hand) (i : Bool) (st : Status) (s : State) :
    (s.stagingDone h i st).tim = s.tim := by
  unfold State.stagingDone; split <;> simp
@[simp] theorem State.stagingDone_frames (h : Hand) (i : Bool) (st : Status) (s : State) :
    (s.stagingDone h i st).frames = s.frames := by
  unfold State.stagingDone; split <;> simp
@[simp] theorem State.stagingDone_pending (h : Hand) (i : Bool) (st : Status) (s : State) :
    (s.stagingDone h i st).pending = s.pending := by
  unfold State.stagingDone; split <;> simp

@[simp] theorem State.resultEnd_dev (b : Bool) (s : State) (hb : s.cfg.busMaster = true) :
    (s.resultEnd b).dev = s.dev := by
  unfold State.resultEnd; split
  · split <;> simp [hb]
  · rfl
@[simp] theorem State.resultEnd_cfg (b : Bool) (s : State) :
    (s.resultEnd b).cfg = s.cfg := by
  unfold State.resultEnd; split
  · split <;> simp
  · rfl
@[simp] theorem State.resultEnd_map (b : Bool) (s : State) :
    (s.resultEnd b).map = s.map := by
  unfold State.resultEnd; split
  · split <;> simp
  · rfl
@[simp] theorem State.resultEnd_hwys (b : Bool) (s : State) :
    (s.resultEnd b).hwys = s.hwys := by
  unfold State.resultEnd; split
  · split <;> simp
  · rfl
@[simp] theorem State.resultEnd_chans (b : Bool) (s : State) (hb : s.cfg.busMaster = true) :
    (s.resultEnd b).chans = s.chans := by
  unfold State.resultEnd; split
  · split <;> simp [hb]
  · rfl
@[simp] theorem State.resultEnd_tim (b : Bool) (s : State) :
    (s.resultEnd b).tim = s.tim := by
  unfold State.resultEnd; split
  · split <;> simp
  · rfl
@[simp] theorem State.resultEnd_frames (b : Bool) (s : State) :
    (s.resultEnd b).frames = s.frames := by
  unfold State.resultEnd; split
  · split <;> simp
  · rfl
@[simp] theorem State.resultEnd_pending (b : Bool) (s : State) :
    (s.resultEnd b).pending = s.pending := by
  unfold State.resultEnd; split
  · split <;> simp
  · rfl

/-! ### The device -/

@[simp] theorem State.placeOverflow_dev (n : RingId) (s : State) (hb : s.cfg.busMaster = true) :
    (s.placeOverflow n).dev = s.dev := by
  unfold State.placeOverflow; split <;> simp [hb]
@[simp] theorem State.placeOverflow_cfg (n : RingId) (s : State) :
    (s.placeOverflow n).cfg = s.cfg := by
  unfold State.placeOverflow; split <;> simp
@[simp] theorem State.placeOverflow_proc (n : RingId) (s : State) (hb : s.cfg.busMaster = true) :
    (s.placeOverflow n).proc = s.proc := by
  unfold State.placeOverflow; split <;> simp [hb]
@[simp] theorem State.placeOverflow_mc (n : RingId) (s : State) (hb : s.cfg.busMaster = true) :
    (s.placeOverflow n).mc = s.mc := by
  unfold State.placeOverflow; split <;> simp [hb]
@[simp] theorem State.placeOverflow_map (n : RingId) (s : State) :
    (s.placeOverflow n).map = s.map := by
  unfold State.placeOverflow; split <;> simp
@[simp] theorem State.placeOverflow_hwys (n : RingId) (s : State) :
    (s.placeOverflow n).hwys = s.hwys := by
  unfold State.placeOverflow; split <;> simp
@[simp] theorem State.placeOverflow_chans (n : RingId) (s : State) (hb : s.cfg.busMaster = true) :
    (s.placeOverflow n).chans = s.chans := by
  unfold State.placeOverflow; split <;> simp [hb]
@[simp] theorem State.placeOverflow_tim (n : RingId) (s : State) :
    (s.placeOverflow n).tim = s.tim := by
  unfold State.placeOverflow; split <;> simp
@[simp] theorem State.placeOverflow_frames (n : RingId) (s : State) :
    (s.placeOverflow n).frames = s.frames := by
  unfold State.placeOverflow; split <;> simp
@[simp] theorem State.placeOverflow_pending (n : RingId) (s : State) :
    (s.placeOverflow n).pending = s.pending := by
  unfold State.placeOverflow; split <;> simp

@[simp] theorem State.placeHeld_dev (n : RingId) (s : State) (hb : s.cfg.busMaster = true) :
    (s.placeHeld n).dev = s.dev := by
  unfold State.placeHeld; split
  · split <;> simp [hb]
  · rfl
@[simp] theorem State.placeHeld_cfg (n : RingId) (s : State) :
    (s.placeHeld n).cfg = s.cfg := by
  unfold State.placeHeld; split
  · split <;> simp
  · rfl
@[simp] theorem State.placeHeld_map (n : RingId) (s : State) :
    (s.placeHeld n).map = s.map := by
  unfold State.placeHeld; split
  · split <;> simp
  · rfl
@[simp] theorem State.placeHeld_hwys (n : RingId) (s : State) :
    (s.placeHeld n).hwys = s.hwys := by
  unfold State.placeHeld; split
  · split <;> simp
  · rfl
@[simp] theorem State.placeHeld_chans (n : RingId) (s : State) (hb : s.cfg.busMaster = true) :
    (s.placeHeld n).chans = s.chans := by
  unfold State.placeHeld; split
  · split <;> simp [hb]
  · rfl
@[simp] theorem State.placeHeld_tim (n : RingId) (s : State) :
    (s.placeHeld n).tim = s.tim := by
  unfold State.placeHeld; split
  · split <;> simp
  · rfl
@[simp] theorem State.placeHeld_frames (n : RingId) (s : State) :
    (s.placeHeld n).frames = s.frames := by
  unfold State.placeHeld; split
  · split <;> simp
  · rfl
@[simp] theorem State.placeHeld_pending (n : RingId) (s : State) :
    (s.placeHeld n).pending = s.pending := by
  unfold State.placeHeld; split
  · split <;> simp
  · rfl

@[simp] theorem State.fillSpace_dev (n : RingId) (s : State) (hb : s.cfg.busMaster = true) :
    (s.fillSpace n).dev = s.dev := by
  simp [hb, State.fillSpace]
@[simp] theorem State.fillSpace_cfg (n : RingId) (s : State) :
    (s.fillSpace n).cfg = s.cfg := by
  simp [State.fillSpace]
@[simp] theorem State.fillSpace_map (n : RingId) (s : State) :
    (s.fillSpace n).map = s.map := by
  simp [State.fillSpace]
@[simp] theorem State.fillSpace_hwys (n : RingId) (s : State) :
    (s.fillSpace n).hwys = s.hwys := by
  simp [State.fillSpace]
@[simp] theorem State.fillSpace_chans (n : RingId) (s : State) (hb : s.cfg.busMaster = true) :
    (s.fillSpace n).chans = s.chans := by
  simp [hb, State.fillSpace]
@[simp] theorem State.fillSpace_tim (n : RingId) (s : State) :
    (s.fillSpace n).tim = s.tim := by
  simp [State.fillSpace]
@[simp] theorem State.fillSpace_frames (n : RingId) (s : State) :
    (s.fillSpace n).frames = s.frames := by
  simp [State.fillSpace]
@[simp] theorem State.fillSpace_pending (n : RingId) (s : State) :
    (s.fillSpace n).pending = s.pending := by
  simp [State.fillSpace]

@[simp] theorem State.judgeArm_dev (n : RingId) (s : State) :
    (s.judgeArm n).dev = s.dev := by
  unfold State.judgeArm; split <;> simp
@[simp] theorem State.judgeArm_cfg (n : RingId) (s : State) :
    (s.judgeArm n).cfg = s.cfg := by
  unfold State.judgeArm; split <;> simp
@[simp] theorem State.judgeArm_proc (n : RingId) (s : State) :
    (s.judgeArm n).proc = s.proc := by
  unfold State.judgeArm; split <;> simp
@[simp] theorem State.judgeArm_mc (n : RingId) (s : State) :
    (s.judgeArm n).mc = s.mc := by
  unfold State.judgeArm; split <;> simp
@[simp] theorem State.judgeArm_map (n : RingId) (s : State) :
    (s.judgeArm n).map = s.map := by
  unfold State.judgeArm; split <;> simp
@[simp] theorem State.judgeArm_hwys (n : RingId) (s : State) :
    (s.judgeArm n).hwys = s.hwys := by
  unfold State.judgeArm; split <;> simp
@[simp] theorem State.judgeArm_chans (n : RingId) (s : State) :
    (s.judgeArm n).chans = s.chans := by
  unfold State.judgeArm; split <;> simp
@[simp] theorem State.judgeArm_tim (n : RingId) (s : State) :
    (s.judgeArm n).tim = s.tim := by
  unfold State.judgeArm; split <;> simp
@[simp] theorem State.judgeArm_frames (n : RingId) (s : State) :
    (s.judgeArm n).frames = s.frames := by
  unfold State.judgeArm; split <;> simp
@[simp] theorem State.judgeArm_pending (n : RingId) (s : State) :
    (s.judgeArm n).pending = s.pending := by
  unfold State.judgeArm; split <;> simp

@[simp] theorem State.takeHead_dev (n : RingId) (v : Word32) (s : State) (hb : s.cfg.busMaster = true) :
    (s.takeHead n v).dev = s.dev := by
  unfold State.takeHead; dsimp only; split_ifs <;> simp [hb]
@[simp] theorem State.takeHead_cfg (n : RingId) (v : Word32) (s : State) :
    (s.takeHead n v).cfg = s.cfg := by
  unfold State.takeHead; dsimp only; split_ifs <;> simp
@[simp] theorem State.takeHead_map (n : RingId) (v : Word32) (s : State) :
    (s.takeHead n v).map = s.map := by
  unfold State.takeHead; dsimp only; split_ifs <;> simp
@[simp] theorem State.takeHead_hwys (n : RingId) (v : Word32) (s : State) :
    (s.takeHead n v).hwys = s.hwys := by
  unfold State.takeHead; dsimp only; split_ifs <;> simp
@[simp] theorem State.takeHead_chans (n : RingId) (v : Word32) (s : State) (hb : s.cfg.busMaster = true) :
    (s.takeHead n v).chans = s.chans := by
  unfold State.takeHead; dsimp only; split_ifs <;> simp [hb]
@[simp] theorem State.takeHead_tim (n : RingId) (v : Word32) (s : State) :
    (s.takeHead n v).tim = s.tim := by
  unfold State.takeHead; dsimp only; split_ifs <;> simp
@[simp] theorem State.takeHead_frames (n : RingId) (v : Word32) (s : State) :
    (s.takeHead n v).frames = s.frames := by
  unfold State.takeHead; dsimp only; split_ifs <;> simp
@[simp] theorem State.takeHead_pending (n : RingId) (v : Word32) (s : State) :
    (s.takeHead n v).pending = s.pending := by
  unfold State.takeHead; dsimp only; split_ifs <;> simp

@[simp] theorem State.startFails_cfg (k : Cause) (s : State) :
    (s.startFails k).cfg = s.cfg := by
  unfold State.startFails; split <;> rfl
@[simp] theorem State.startFails_link (k : Cause) (s : State) :
    (s.startFails k).link = s.link := by
  unfold State.startFails; split <;> rfl
@[simp] theorem State.startFails_proc (k : Cause) (s : State) :
    (s.startFails k).proc = s.proc := by
  unfold State.startFails; split <;> rfl
@[simp] theorem State.startFails_comp (k : Cause) (s : State) :
    (s.startFails k).comp = s.comp := by
  unfold State.startFails; split <;> rfl
@[simp] theorem State.startFails_mc (k : Cause) (s : State) :
    (s.startFails k).mc = s.mc := by
  unfold State.startFails; split <;> rfl
@[simp] theorem State.startFails_map (k : Cause) (s : State) :
    (s.startFails k).map = s.map := by
  unfold State.startFails; split <;> rfl
@[simp] theorem State.startFails_hwys (k : Cause) (s : State) :
    (s.startFails k).hwys = s.hwys := by
  unfold State.startFails; split <;> rfl
@[simp] theorem State.startFails_chans (k : Cause) (s : State) :
    (s.startFails k).chans = s.chans := by
  unfold State.startFails; split <;> rfl
@[simp] theorem State.startFails_tim (k : Cause) (s : State) :
    (s.startFails k).tim = s.tim := by
  unfold State.startFails; split <;> rfl
@[simp] theorem State.startFails_frames (k : Cause) (s : State) :
    (s.startFails k).frames = s.frames := by
  unfold State.startFails; split <;> rfl
@[simp] theorem State.startFails_pending (k : Cause) (s : State) :
    (s.startFails k).pending = s.pending := by
  unfold State.startFails; split <;> rfl

@[simp] theorem State.setupData_cfg (d : List Byte) (s : State) :
    (s.setupData d).cfg = s.cfg := by
  unfold State.setupData; split <;> simp
@[simp] theorem State.setupData_link (d : List Byte) (s : State) :
    (s.setupData d).link = s.link := by
  unfold State.setupData; split <;> simp
@[simp] theorem State.setupData_mc (d : List Byte) (s : State) :
    (s.setupData d).mc = s.mc := by
  unfold State.setupData; split <;> simp
@[simp] theorem State.setupData_map (d : List Byte) (s : State) :
    (s.setupData d).map = s.map := by
  unfold State.setupData; split <;> simp
@[simp] theorem State.setupData_hwys (d : List Byte) (s : State) :
    (s.setupData d).hwys = s.hwys := by
  unfold State.setupData; split <;> simp
@[simp] theorem State.setupData_chans (d : List Byte) (s : State) :
    (s.setupData d).chans = s.chans := by
  unfold State.setupData; split <;> simp
@[simp] theorem State.setupData_frames (d : List Byte) (s : State) :
    (s.setupData d).frames = s.frames := by
  unfold State.setupData; split <;> simp
@[simp] theorem State.setupData_pending (d : List Byte) (s : State) :
    (s.setupData d).pending = s.pending := by
  unfold State.setupData; split <;> simp

@[simp] theorem State.startRule_cfg (s : State) :
    (s.startRule).cfg = s.cfg := by
  unfold State.startRule; split_ifs <;> simp
@[simp] theorem State.startRule_proc (s : State) :
    (s.startRule).proc = s.proc := by
  unfold State.startRule; split_ifs <;> simp
@[simp] theorem State.startRule_comp (s : State) :
    (s.startRule).comp = s.comp := by
  unfold State.startRule; split_ifs <;> simp
@[simp] theorem State.startRule_mc (s : State) :
    (s.startRule).mc = s.mc := by
  unfold State.startRule; split_ifs <;> simp
@[simp] theorem State.startRule_map (s : State) :
    (s.startRule).map = s.map := by
  unfold State.startRule; split_ifs <;> simp
@[simp] theorem State.startRule_hwys (s : State) :
    (s.startRule).hwys = s.hwys := by
  unfold State.startRule; split_ifs <;> simp
@[simp] theorem State.startRule_chans (s : State) :
    (s.startRule).chans = s.chans := by
  unfold State.startRule; split_ifs <;> simp
@[simp] theorem State.startRule_tim (s : State) :
    (s.startRule).tim = s.tim := by
  unfold State.startRule; split_ifs <;> simp
@[simp] theorem State.startRule_frames (s : State) :
    (s.startRule).frames = s.frames := by
  unfold State.startRule; split_ifs <;> simp
@[simp] theorem State.startRule_pending (s : State) :
    (s.startRule).pending = s.pending := by
  unfold State.startRule; split_ifs <;> simp

@[simp] theorem State.stopProcessor_dev (s : State) :
    (s.stopProcessor).dev = s.dev := by
  unfold State.stopProcessor; split <;> rfl
@[simp] theorem State.stopProcessor_cfg (s : State) :
    (s.stopProcessor).cfg = s.cfg := by
  unfold State.stopProcessor; split <;> rfl
@[simp] theorem State.stopProcessor_link (s : State) :
    (s.stopProcessor).link = s.link := by
  unfold State.stopProcessor; split <;> rfl
@[simp] theorem State.stopProcessor_map (s : State) :
    (s.stopProcessor).map = s.map := by
  unfold State.stopProcessor; split <;> rfl
@[simp] theorem State.stopProcessor_hwys (s : State) :
    (s.stopProcessor).hwys = s.hwys := by
  unfold State.stopProcessor; split <;> rfl
@[simp] theorem State.stopProcessor_chans (s : State) :
    (s.stopProcessor).chans = s.chans := by
  unfold State.stopProcessor; split <;> rfl
@[simp] theorem State.stopProcessor_tim (s : State) :
    (s.stopProcessor).tim = s.tim := by
  unfold State.stopProcessor; split <;> rfl
@[simp] theorem State.stopProcessor_frames (s : State) :
    (s.stopProcessor).frames = s.frames := by
  unfold State.stopProcessor; split <;> rfl
@[simp] theorem State.stopProcessor_pending (s : State) :
    (s.stopProcessor).pending = s.pending := by
  unfold State.stopProcessor; split <;> rfl

@[simp] theorem State.stopRule_cfg (s : State) :
    (s.stopRule).cfg = s.cfg := by
  unfold State.stopRule; split <;> try split
  all_goals simp [State.stopOnline]
@[simp] theorem State.stopRule_link (s : State) :
    (s.stopRule).link = s.link := by
  unfold State.stopRule; split <;> try split
  all_goals simp [State.stopOnline]
@[simp] theorem State.stopRule_hwys (s : State) :
    (s.stopRule).hwys = s.hwys := by
  unfold State.stopRule; split <;> try split
  all_goals simp [State.stopOnline]
@[simp] theorem State.stopRule_tim (s : State) :
    (s.stopRule).tim = s.tim := by
  unfold State.stopRule; split <;> try split
  all_goals simp [State.stopOnline]
@[simp] theorem State.stopRule_frames (s : State) :
    (s.stopRule).frames = s.frames := by
  unfold State.stopRule; split <;> try split
  all_goals simp [State.stopOnline]
@[simp] theorem State.stopRule_pending (s : State) :
    (s.stopRule).pending = s.pending := by
  unfold State.stopRule; split <;> try split
  all_goals simp [State.stopOnline]

@[simp] theorem State.fetchStep_dev (s : State) (hb : s.cfg.busMaster = true) :
    (s.fetchStep).dev = s.dev := by
  unfold State.fetchStep; split <;> simp [hb]
@[simp] theorem State.fetchStep_cfg (s : State) :
    (s.fetchStep).cfg = s.cfg := by
  unfold State.fetchStep; split <;> simp
@[simp] theorem State.fetchStep_comp (s : State) (hb : s.cfg.busMaster = true) :
    (s.fetchStep).comp = s.comp := by
  unfold State.fetchStep; split <;> simp [hb]
@[simp] theorem State.fetchStep_mc (s : State) (hb : s.cfg.busMaster = true) :
    (s.fetchStep).mc = s.mc := by
  unfold State.fetchStep; split <;> simp [hb]
@[simp] theorem State.fetchStep_map (s : State) :
    (s.fetchStep).map = s.map := by
  unfold State.fetchStep; split <;> simp
@[simp] theorem State.fetchStep_hwys (s : State) :
    (s.fetchStep).hwys = s.hwys := by
  unfold State.fetchStep; split <;> simp
@[simp] theorem State.fetchStep_chans (s : State) (hb : s.cfg.busMaster = true) :
    (s.fetchStep).chans = s.chans := by
  unfold State.fetchStep; split <;> simp [hb]
@[simp] theorem State.fetchStep_tim (s : State) :
    (s.fetchStep).tim = s.tim := by
  unfold State.fetchStep; split <;> simp
@[simp] theorem State.fetchStep_frames (s : State) :
    (s.fetchStep).frames = s.frames := by
  unfold State.fetchStep; split <;> simp
@[simp] theorem State.fetchStep_pending (s : State) :
    (s.fetchStep).pending = s.pending := by
  unfold State.fetchStep; split <;> simp

@[simp] theorem State.takeTail_dev (c : Count16) (s : State) (hb : s.cfg.busMaster = true) :
    (s.takeTail c).dev = s.dev := by
  simp [hb, State.takeTail]
@[simp] theorem State.takeTail_cfg (c : Count16) (s : State) :
    (s.takeTail c).cfg = s.cfg := by
  simp [State.takeTail]
@[simp] theorem State.takeTail_comp (c : Count16) (s : State) (hb : s.cfg.busMaster = true) :
    (s.takeTail c).comp = s.comp := by
  simp [hb, State.takeTail]
@[simp] theorem State.takeTail_mc (c : Count16) (s : State) (hb : s.cfg.busMaster = true) :
    (s.takeTail c).mc = s.mc := by
  simp [hb, State.takeTail]
@[simp] theorem State.takeTail_map (c : Count16) (s : State) :
    (s.takeTail c).map = s.map := by
  simp [State.takeTail]
@[simp] theorem State.takeTail_hwys (c : Count16) (s : State) :
    (s.takeTail c).hwys = s.hwys := by
  simp [State.takeTail]
@[simp] theorem State.takeTail_chans (c : Count16) (s : State) (hb : s.cfg.busMaster = true) :
    (s.takeTail c).chans = s.chans := by
  simp [hb, State.takeTail]
@[simp] theorem State.takeTail_tim (c : Count16) (s : State) :
    (s.takeTail c).tim = s.tim := by
  simp [State.takeTail]
@[simp] theorem State.takeTail_frames (c : Count16) (s : State) :
    (s.takeTail c).frames = s.frames := by
  simp [State.takeTail]
@[simp] theorem State.takeTail_pending (c : Count16) (s : State) :
    (s.takeTail c).pending = s.pending := by
  simp [State.takeTail]

@[simp] theorem State.stoppingEnd_cfg (s : State) :
    (s.stoppingEnd).cfg = s.cfg := by
  unfold State.stoppingEnd; split <;> rfl
@[simp] theorem State.stoppingEnd_link (s : State) :
    (s.stoppingEnd).link = s.link := by
  unfold State.stoppingEnd; split <;> rfl
@[simp] theorem State.stoppingEnd_proc (s : State) :
    (s.stoppingEnd).proc = s.proc := by
  unfold State.stoppingEnd; split <;> rfl
@[simp] theorem State.stoppingEnd_comp (s : State) :
    (s.stoppingEnd).comp = s.comp := by
  unfold State.stoppingEnd; split <;> rfl
@[simp] theorem State.stoppingEnd_mc (s : State) :
    (s.stoppingEnd).mc = s.mc := by
  unfold State.stoppingEnd; split <;> rfl
@[simp] theorem State.stoppingEnd_map (s : State) :
    (s.stoppingEnd).map = s.map := by
  unfold State.stoppingEnd; split <;> rfl
@[simp] theorem State.stoppingEnd_hwys (s : State) :
    (s.stoppingEnd).hwys = s.hwys := by
  unfold State.stoppingEnd; split <;> rfl
@[simp] theorem State.stoppingEnd_chans (s : State) :
    (s.stoppingEnd).chans = s.chans := by
  unfold State.stoppingEnd; split <;> rfl
@[simp] theorem State.stoppingEnd_tim (s : State) :
    (s.stoppingEnd).tim = s.tim := by
  unfold State.stoppingEnd; split <;> rfl
@[simp] theorem State.stoppingEnd_frames (s : State) :
    (s.stoppingEnd).frames = s.frames := by
  unfold State.stoppingEnd; split <;> rfl
@[simp] theorem State.stoppingEnd_pending (s : State) :
    (s.stoppingEnd).pending = s.pending := by
  unfold State.stoppingEnd; split <;> rfl

@[simp] theorem State.resettingEnd_cfg (s : State) :
    (s.resettingEnd).cfg = s.cfg := by
  unfold State.resettingEnd; split <;> rfl
@[simp] theorem State.resettingEnd_link (s : State) :
    (s.resettingEnd).link = s.link := by
  unfold State.resettingEnd; split <;> rfl
@[simp] theorem State.resettingEnd_proc (s : State) :
    (s.resettingEnd).proc = s.proc := by
  unfold State.resettingEnd; split <;> rfl
@[simp] theorem State.resettingEnd_comp (s : State) :
    (s.resettingEnd).comp = s.comp := by
  unfold State.resettingEnd; split <;> rfl
@[simp] theorem State.resettingEnd_mc (s : State) :
    (s.resettingEnd).mc = s.mc := by
  unfold State.resettingEnd; split <;> rfl
@[simp] theorem State.resettingEnd_map (s : State) :
    (s.resettingEnd).map = s.map := by
  unfold State.resettingEnd; split <;> rfl
@[simp] theorem State.resettingEnd_hwys (s : State) :
    (s.resettingEnd).hwys = s.hwys := by
  unfold State.resettingEnd; split <;> rfl
@[simp] theorem State.resettingEnd_chans (s : State) :
    (s.resettingEnd).chans = s.chans := by
  unfold State.resettingEnd; split <;> rfl
@[simp] theorem State.resettingEnd_tim (s : State) :
    (s.resettingEnd).tim = s.tim := by
  unfold State.resettingEnd; split <;> rfl
@[simp] theorem State.resettingEnd_frames (s : State) :
    (s.resettingEnd).frames = s.frames := by
  unfold State.resettingEnd; split <;> rfl
@[simp] theorem State.resettingEnd_pending (s : State) :
    (s.resettingEnd).pending = s.pending := by
  unfold State.resettingEnd; split <;> rfl

@[simp] theorem State.finish_cfg (s : State) :
    (s.finish).cfg = s.cfg := by
  simp [State.finish]
@[simp] theorem State.finish_link (s : State) :
    (s.finish).link = s.link := by
  simp [State.finish]
@[simp] theorem State.finish_proc (s : State) :
    (s.finish).proc = s.proc := by
  simp [State.finish]
@[simp] theorem State.finish_comp (s : State) :
    (s.finish).comp = s.comp := by
  simp [State.finish]
@[simp] theorem State.finish_mc (s : State) :
    (s.finish).mc = s.mc := by
  simp [State.finish]
@[simp] theorem State.finish_map (s : State) :
    (s.finish).map = s.map := by
  simp [State.finish]
@[simp] theorem State.finish_hwys (s : State) :
    (s.finish).hwys = s.hwys := by
  simp [State.finish]
@[simp] theorem State.finish_chans (s : State) :
    (s.finish).chans = s.chans := by
  simp [State.finish]
@[simp] theorem State.finish_tim (s : State) :
    (s.finish).tim = s.tim := by
  simp [State.finish]
@[simp] theorem State.finish_frames (s : State) :
    (s.finish).frames = s.frames := by
  simp [State.finish]
@[simp] theorem State.finish_pending (s : State) :
    (s.finish).pending = s.pending := by
  simp [State.finish]

/-! ### Ends -/

@[simp] theorem State.chanFails_dev (c : ChanId) (k : Option ChanOpKind) (b : Bool) (s : State) (hb : s.cfg.busMaster = true) :
    (s.chanFails c k b).dev = s.dev := by
  simp [hb, State.chanFails]
@[simp] theorem State.chanFails_cfg (c : ChanId) (k : Option ChanOpKind) (b : Bool) (s : State) :
    (s.chanFails c k b).cfg = s.cfg := by
  simp [State.chanFails]
@[simp] theorem State.chanFails_map (c : ChanId) (k : Option ChanOpKind) (b : Bool) (s : State) :
    (s.chanFails c k b).map = s.map := by
  simp [State.chanFails]
@[simp] theorem State.chanFails_hwys (c : ChanId) (k : Option ChanOpKind) (b : Bool) (s : State) :
    (s.chanFails c k b).hwys = s.hwys := by
  simp [State.chanFails]
@[simp] theorem State.chanFails_tim (c : ChanId) (k : Option ChanOpKind) (b : Bool) (s : State) :
    (s.chanFails c k b).tim = s.tim := by
  simp [State.chanFails]
@[simp] theorem State.chanFails_frames (c : ChanId) (k : Option ChanOpKind) (b : Bool) (s : State) :
    (s.chanFails c k b).frames = s.frames := by
  simp [State.chanFails]
@[simp] theorem State.chanFails_pending (c : ChanId) (k : Option ChanOpKind) (b : Bool) (s : State) :
    (s.chanFails c k b).pending = s.pending := by
  simp [State.chanFails]

@[simp] theorem State.fails_cfg (k : OpKind) (b : Bool) (s : State) :
    (s.fails k b).cfg = s.cfg := by
  cases k <;> simp [State.fails]
@[simp] theorem State.fails_map (k : OpKind) (b : Bool) (s : State) :
    (s.fails k b).map = s.map := by
  cases k <;> simp [State.fails]
@[simp] theorem State.fails_hwys (k : OpKind) (b : Bool) (s : State) :
    (s.fails k b).hwys = s.hwys := by
  cases k <;> simp [State.fails]
@[simp] theorem State.fails_tim (k : OpKind) (b : Bool) (s : State) :
    (s.fails k b).tim = s.tim := by
  cases k <;> simp [State.fails]
@[simp] theorem State.fails_frames (k : OpKind) (b : Bool) (s : State) :
    (s.fails k b).frames = s.frames := by
  cases k <;> simp [State.fails]
@[simp] theorem State.fails_pending (k : OpKind) (b : Bool) (s : State) :
    (s.fails k b).pending = s.pending := by
  cases k <;> simp [State.fails]

@[simp] theorem State.discarded_dev (o : Op) (s : State) (hb : s.cfg.busMaster = true) :
    (s.discarded o).dev = s.dev := by
  unfold State.discarded; split <;> simp [hb]
@[simp] theorem State.discarded_cfg (o : Op) (s : State) :
    (s.discarded o).cfg = s.cfg := by
  unfold State.discarded; split <;> simp
@[simp] theorem State.discarded_map (o : Op) (s : State) :
    (s.discarded o).map = s.map := by
  unfold State.discarded; split <;> simp
@[simp] theorem State.discarded_hwys (o : Op) (s : State) :
    (s.discarded o).hwys = s.hwys := by
  unfold State.discarded; split <;> simp
@[simp] theorem State.discarded_tim (o : Op) (s : State) :
    (s.discarded o).tim = s.tim := by
  unfold State.discarded; split <;> simp
@[simp] theorem State.discarded_frames (o : Op) (s : State) :
    (s.discarded o).frames = s.frames := by
  unfold State.discarded; split <;> simp
@[simp] theorem State.discarded_pending (o : Op) (s : State) :
    (s.discarded o).pending = s.pending := by
  unfold State.discarded; split <;> simp

@[simp] theorem State.failOp_cfg (id : Nat) (b : Bool) (s : State) :
    (s.failOp id b).cfg = s.cfg := by
  unfold State.failOp; split
  · split <;> simp
  · rfl
@[simp] theorem State.failOp_map (id : Nat) (b : Bool) (s : State) :
    (s.failOp id b).map = s.map := by
  unfold State.failOp; split
  · split <;> simp
  · rfl
@[simp] theorem State.failOp_hwys (id : Nat) (b : Bool) (s : State) :
    (s.failOp id b).hwys = s.hwys := by
  unfold State.failOp; split
  · split <;> simp
  · rfl
@[simp] theorem State.failOp_tim (id : Nat) (b : Bool) (s : State) :
    (s.failOp id b).tim = s.tim := by
  unfold State.failOp; split
  · split <;> simp
  · rfl
@[simp] theorem State.failOp_frames (id : Nat) (b : Bool) (s : State) :
    (s.failOp id b).frames = s.frames := by
  unfold State.failOp; split
  · split <;> simp
  · rfl
@[simp] theorem State.failOp_pending (id : Nat) (b : Bool) (s : State) :
    (s.failOp id b).pending = s.pending := by
  unfold State.failOp; split
  · split <;> simp
  · rfl

@[simp] theorem State.staleEnd_dev (id : Nat) (s : State) (hb : s.cfg.busMaster = true) :
    (s.staleEnd id).dev = s.dev := by
  unfold State.staleEnd; split
  · split <;> simp [hb]
  · rfl
@[simp] theorem State.staleEnd_cfg (id : Nat) (s : State) :
    (s.staleEnd id).cfg = s.cfg := by
  unfold State.staleEnd; split
  · split <;> simp
  · rfl
@[simp] theorem State.staleEnd_map (id : Nat) (s : State) :
    (s.staleEnd id).map = s.map := by
  unfold State.staleEnd; split
  · split <;> simp
  · rfl
@[simp] theorem State.staleEnd_hwys (id : Nat) (s : State) :
    (s.staleEnd id).hwys = s.hwys := by
  unfold State.staleEnd; split
  · split <;> simp
  · rfl
@[simp] theorem State.staleEnd_tim (id : Nat) (s : State) :
    (s.staleEnd id).tim = s.tim := by
  unfold State.staleEnd; split
  · split <;> simp
  · rfl
@[simp] theorem State.staleEnd_frames (id : Nat) (s : State) :
    (s.staleEnd id).frames = s.frames := by
  unfold State.staleEnd; split
  · split <;> simp
  · rfl
@[simp] theorem State.staleEnd_pending (id : Nat) (s : State) :
    (s.staleEnd id).pending = s.pending := by
  unfold State.staleEnd; split
  · split <;> simp
  · rfl

/-! ### The device frame event -/

@[simp] theorem State.beginEvent_cfg (s : State) :
    (s.beginEvent).cfg = s.cfg := by
  unfold State.beginEvent; dsimp only; split <;> simp
@[simp] theorem State.beginEvent_hwys (s : State) :
    (s.beginEvent).hwys = s.hwys := by
  unfold State.beginEvent; dsimp only; split <;> simp
@[simp] theorem State.beginEvent_pending (s : State) :
    (s.beginEvent).pending = s.pending := by
  unfold State.beginEvent; dsimp only; split <;> simp

@[simp] theorem State.runEvent_dev (o : FrameOrder) (s : State) (hb : s.cfg.busMaster = true) :
    (s.runEvent o).dev = s.dev := by
  unfold State.runEvent; dsimp only; split <;> simp [hb]
@[simp] theorem State.runEvent_cfg (o : FrameOrder) (s : State) :
    (s.runEvent o).cfg = s.cfg := by
  unfold State.runEvent; dsimp only; split <;> simp
@[simp] theorem State.runEvent_frames (o : FrameOrder) (s : State) :
    (s.runEvent o).frames = s.frames := by
  unfold State.runEvent; dsimp only; split <;> simp
@[simp] theorem State.runEvent_pending (o : FrameOrder) (s : State) :
    (s.runEvent o).pending = s.pending := by
  unfold State.runEvent; dsimp only; split <;> simp

@[simp] theorem State.frameEvent_cfg (o : FrameOrder) (s : State) :
    (s.frameEvent o).cfg = s.cfg := by
  simp [State.frameEvent]
@[simp] theorem State.frameEvent_pending (o : FrameOrder) (s : State) :
    (s.frameEvent o).pending = s.pending := by
  simp [State.frameEvent]

end Sys2Proof.Machine
end

