-- ==== Sys2Proof/Laws/Ops.lean ====
section
/-! SUPPORT. One lemma for each shared operation that says what it does, in the terms of Safety.lean. -/

set_option Elab.async false

namespace Sys2Proof.Machine

/-! ### Keyed collections -/

section Keyed

variable {κ ν : Type} [DecidableEq κ] {rank : κ → Nat}

@[simp] theorem lookupKey_putKey_self (k : κ) (v : ν) (l : List (κ × ν)) :
    lookupKey k (putKey rank k v l) = some v := by
  induction l with
  | nil => simp [putKey, lookupKey]
  | cons e l ih =>
    obtain ⟨k', v'⟩ := e
    by_cases h : k' = k
    · simp [putKey, lookupKey, h]
    · by_cases hr : rank k < rank k' <;> simp [putKey, lookupKey, h, hr, ih]

theorem lookupKey_putKey_other {k k' : κ} (h : k' ≠ k) (v : ν) (l : List (κ × ν)) :
    lookupKey k' (putKey rank k v l) = lookupKey k' l := by
  induction l with
  | nil => simp [putKey, lookupKey, Ne.symm h]
  | cons e l ih =>
    obtain ⟨k'', v''⟩ := e
    by_cases h1 : k'' = k
    · subst h1; simp [putKey, lookupKey, Ne.symm h]
    · by_cases hr : rank k < rank k''
      · simp [putKey, lookupKey, h1, hr, Ne.symm h]
      · simp only [putKey, h1, hr, if_false, lookupKey, ih]

/-- A key is listed exactly when a value stands under it. -/
theorem lookupKey_isSome (k : κ) (l : List (κ × ν)) : (lookupKey k l).isSome = true ↔ k ∈ l.map Prod.fst := by
  induction l with
  | nil => simp [lookupKey]
  | cons e l ih =>
    obtain ⟨k', v'⟩ := e
    by_cases h : k' = k
    · simp [lookupKey, h]
    · simp [lookupKey, h, ih, Ne.symm h]

/-- Putting a value under a key lists the key and no other new one (R22). -/
theorem mem_putKey_keys (k k' : κ) (v : ν) (l : List (κ × ν)) :
    k' ∈ (putKey rank k v l).map Prod.fst ↔ k' = k ∨ k' ∈ l.map Prod.fst := by
  rw [← lookupKey_isSome, ← lookupKey_isSome]
  by_cases h : k' = k
  · subst h; simp
  · simp [lookupKey_putKey_other h, h]

/-- A key that ranks below every key of a collection is not in it. -/
theorem lookupKey_below {k : κ} {l : List (κ × ν)} (h : ∀ e ∈ l, rank k < rank e.1) : lookupKey k l = none := by
  rw [← Option.not_isSome_iff_eq_none, lookupKey_isSome]
  intro hm
  obtain ⟨e, he, rfl⟩ := List.mem_map.1 hm
  exact Nat.lt_irrefl _ (h e he)

omit [DecidableEq κ] in
theorem Rising.cons {e : κ × ν} {l : List (κ × ν)} :
    Rising rank (e :: l) ↔ (∀ x ∈ l, rank e.1 < rank x.1) ∧ Rising rank l := by
  simp only [Rising, List.map_cons, List.pairwise_cons, List.forall_mem_map]

/-- Putting an entry keeps the canonical form. -/
theorem Rising.putKey (hr : Function.Injective rank) (k : κ) (v : ν) {l : List (κ × ν)} (h : Rising rank l) :
    Rising rank (putKey rank k v l) := by
  induction l with
  | nil => simp [Machine.putKey, Rising]
  | cons e l ih =>
    obtain ⟨k', v'⟩ := e
    obtain ⟨h1, h2⟩ := Rising.cons.1 h
    by_cases hk : k' = k
    · subst hk; simp only [Machine.putKey, if_true]; exact Rising.cons.2 ⟨h1, h2⟩
    · by_cases hlt : rank k < rank k'
      · simp only [Machine.putKey, hk, hlt, if_false, if_true]
        refine Rising.cons.2 ⟨fun x hx => ?_, h⟩
        rcases List.mem_cons.1 hx with rfl | hx
        · exact hlt
        · exact hlt.trans (h1 x hx)
      · simp only [Machine.putKey, hk, hlt, if_false]
        refine Rising.cons.2 ⟨fun x hx => ?_, ih h2⟩
        have hx' : x.1 ∈ (Machine.putKey rank k v l).map Prod.fst := List.mem_map_of_mem hx
        rcases (mem_putKey_keys k x.1 v l).1 hx' with hx' | hx'
        · rw [hx']
          exact lt_of_le_of_ne (Nat.le_of_not_lt hlt) fun he => hk (hr he)
        · obtain ⟨y, hy, he⟩ := List.mem_map.1 hx'
          rw [← he]; exact h1 y hy

omit [DecidableEq κ] in
/-- Taking entries out keeps it. -/
theorem Rising.filter (p : κ × ν → Bool) {l : List (κ × ν)} (h : Rising rank l) : Rising rank (l.filter p) := by
  unfold Rising at *
  rw [List.pairwise_map] at *
  exact h.filter p

omit [DecidableEq κ] in
/-- There is at most one entry for each key. -/
theorem Rising.nodup {l : List (κ × ν)} (h : Rising rank l) : (l.map Prod.fst).Nodup := by
  unfold Rising at h
  rw [List.pairwise_map] at h
  rw [List.Nodup, List.pairwise_map]
  exact h.imp fun hlt he => by rw [he] at hlt; exact Nat.lt_irrefl _ hlt

/-- In a collection in canonical form replacing keeps the number of entries, adding makes one more (R22). -/
theorem putKey_length (k : κ) (v : ν) {l : List (κ × ν)} (h : Rising rank l) :
    (putKey rank k v l).length = if (lookupKey k l).isSome then l.length else l.length + 1 := by
  induction l with
  | nil => simp [putKey, lookupKey]
  | cons e l ih =>
    obtain ⟨k', v'⟩ := e
    obtain ⟨h1, h2⟩ := Rising.cons.1 h
    by_cases hk : k' = k
    · simp [putKey, lookupKey, hk]
    · by_cases hlt : rank k < rank k'
      · have : lookupKey k l = none := lookupKey_below (rank := rank) fun x hx => hlt.trans (h1 x hx)
        simp [putKey, lookupKey, hk, hlt, this]
      · simp only [putKey, lookupKey, hk, hlt, if_false, List.length_cons, ih h2]
        split <;> rfl

/-- Two collections in canonical form with the same entry, or none, under every key are the same data: the order in which
the entries were put leaves no trace (R21). -/
theorem Rising.ext (hr : Function.Injective rank) {l l' : List (κ × ν)} (h : Rising rank l) (h' : Rising rank l')
    (he : ∀ k, lookupKey k l = lookupKey k l') : l = l' := by
  induction l generalizing l' with
  | nil =>
    cases l' with
    | nil => rfl
    | cons e' r' => have := he e'.1; simp [lookupKey] at this
  | cons e r ih =>
    cases l' with
    | nil => have := he e.1; simp [lookupKey] at this
    | cons e' r' =>
      obtain ⟨k, v⟩ := e
      obtain ⟨k', v'⟩ := e'
      obtain ⟨h1, h2⟩ := Rising.cons.1 h
      obtain ⟨h1', h2'⟩ := Rising.cons.1 h'
      have hk : k = k' := by
        apply hr
        rcases Nat.lt_trichotomy (rank k) (rank k') with hlt | heq | hlt
        · have hn : lookupKey k r' = none := lookupKey_below (rank := rank) fun x hx => hlt.trans (h1' x hx)
          have := he k
          simp [lookupKey, hn, show k' ≠ k from fun e => by rw [e] at hlt; exact Nat.lt_irrefl _ hlt] at this
        · exact heq
        · have hn : lookupKey k' r = none := lookupKey_below (rank := rank) fun x hx => hlt.trans (h1 x hx)
          have := he k'
          simp [lookupKey, hn, show k ≠ k' from fun e => by rw [e] at hlt; exact Nat.lt_irrefl _ hlt] at this
      subst hk
      have hv : v = v' := by have := he k; simpa [lookupKey] using this
      subst hv
      rw [ih h2 h2' fun k2 => ?_]
      by_cases hk2 : k = k2
      · subst hk2
        rw [lookupKey_below (rank := rank) h1, lookupKey_below (rank := rank) h1']
      · have := he k2
        simpa [lookupKey, hk2] using this

end Keyed

theorem chanRank_injective : Function.Injective chanRank := fun _ _ h => Fin.ext h

theorem SlotRef.rank_injective : Function.Injective SlotRef.rank := by
  rintro ⟨h, n⟩ ⟨h', n'⟩ he
  have h1 := h.isLt
  have h2 := h'.isLt
  have he' : 16 * n + h.val = 16 * n' + h'.val := he
  obtain rfl : n = n' := by omega
  obtain rfl : h = h' := Fin.ext (by omega)
  rfl

/-! ### The link interface -/

@[simp] theorem State.issueRead_link (k : OpKind) (a : Addr) (n : Nat) (s : State) :
    (s.issueRead k a n).link = s.link.issue k a n [] := rfl

@[simp] theorem State.issueWrite_link (k : OpKind) (a : Addr) (d : List Byte) (s : State) :
    (s.issueWrite k a d).link = s.link.issue k a d.length d := rfl

@[simp] theorem layoutBytes_length (n : Nat) (fs : List FieldVal) : (layoutBytes n fs).length = n := by
  simp [layoutBytes]

@[simp] theorem Record.bytes_length (p : Bool) (r : Record) : (r.bytes p).length = 16 := by
  cases r <;> simp [Record.bytes]

/-! ### Rings -/

@[simp] theorem State.ring_setRing_self (n : RingId) (r : Ring) (s : State) : (s.setRing n r).ring n = r := by
  simp [State.ring, State.setRing]

theorem State.ring_setRing_other {n m : RingId} (h : m ≠ n) (r : Ring) (s : State) :
    (s.setRing n r).ring m = s.ring m := by
  have : n.val ≠ m.val := fun e => h (Fin.ext e.symm)
  simp [State.ring, State.setRing, Vector.getElem_set_ne, this]

theorem Ring.full_iff (r : Ring) : r.full = false ↔ r.unconsumed < r.size := by
  simp [Ring.full]

theorem Ring.miss_eq_dropped (r : Ring) : r.miss = r.dropped := rfl

/-- Placing a record while operations are sent (R163, R164, R175). -/
theorem State.place_eq (n : RingId) (rec : Record) (s : State) (h : s.cfg.busMaster = true) :
    s.place n rec = afterPlace n rec s := by
  unfold State.place afterPlace State.notify messagesOf recordOp Ring.placed Ring.nextAddr phaseOf State.ring
  simp only [State.issueWrite, State.setRing, Link.issue, h, if_true, Record.bytes_length]
  cases s.comp.rings[n].armed <;> cases s.cfg.messages <;> simp

/-- The processor goes on while operations are sent (R40, R146, R147, R158). -/
theorem State.procNext_eq (s : State) (h : s.cfg.busMaster = true) : s.procNext = afterRequest s := by
  unfold State.procNext afterRequest State.fetch fetchOp
  simp only [State.issueRead, Link.issue, h]
  split_ifs <;> rfl

/-- The handing of a REQUEST_DONE in ONLINE while operations are sent (R168, R170, R177). -/
theorem State.handDone_eq (n : RingId) (d : ReqDone) (s : State) (h : s.cfg.busMaster = true)
    (ho : s.dev.st = .online) : s.handDone n d = afterDone n d s := by
  have hp : (s.place n (.requestDone d)).cfg.busMaster = true := by simpa using h
  have hm : (s.miss n).cfg.busMaster = true := h
  have ho1 : (s.place n (.requestDone d)).isOnline = true := by simp [State.isOnline, State.place_dev _ _ _ h, ho]
  have ho2 : s.isOnline = true := by simp [State.isOnline, ho]
  unfold State.handDone State.placeDone afterDone
  rw [ho2, if_neg (by simp)]
  by_cases hf : (s.ring n).full = false
  · have hlt : s.comp.rings[n].unconsumed < s.comp.rings[n].size := (Ring.full_iff _).1 hf
    rw [if_pos hlt, hf, if_pos (by rfl)]
    dsimp only
    rw [if_pos ho1, State.procNext_eq _ hp, State.place_eq _ _ _ h]
  · have hn : ¬ s.comp.rings[n].unconsumed < s.comp.rings[n].size := fun e => hf ((Ring.full_iff _).2 e)
    rw [if_neg hn]
    simp only [Bool.not_eq_false] at hf
    simp only [hf, Bool.not_true, if_neg Bool.false_ne_true]
    split_ifs
    · exact State.procNext_eq _ hm
    · rfl

theorem State.finishRequest_eq (r : ReqRecord) (h : Hand) (st : Status) (v : Nat) (s : State)
    (hb : s.cfg.busMaster = true) (ho : s.dev.st = .online) (hr : h.ring = ringOf r) (ht : h.tag = r.tag) :
    s.finishRequest h st v 0 = answer r st v s := by
  rw [State.finishRequest, State.handDone_eq _ _ _ hb ho, answer, hr, ht]

/-! ### HALTED -/

theorem Chan.halt_eq (ch : Chan) : ch.halt = haltedChan ch := by
  unfold Chan.halt haltedChan
  cases h : ch.st <;> simp <;> rfl

/-- Entry to HALTED (R191). -/
theorem State.halt_eq (k : Cause) (s : State) : s.halt k = afterHalt k s := by
  unfold State.halt afterHalt
  congr 1
  · exact congrArg (fun l => ({ s.link with ops := l } : Link)) (List.map_congr_left fun o _ => by simp)
  · exact Vector.map_congr_left fun ch _ => ch.halt_eq

/-- Placing a record while operations are not sent: the device halts (R178, R195). -/
theorem State.place_unsent (n : RingId) (rec : Record) (s : State) (h : s.cfg.busMaster = false) :
    s.place n rec =
      afterHalt .completionWrite { s with comp := { s.comp with rings := s.comp.rings.set n s.comp.rings[n].placed } } := by
  unfold State.place
  simp only [h, Bool.false_eq_true, if_false, State.halt_eq]
  rfl

/-! ### What a command's work ends with -/

theorem State.allClosed_iff (s : State) : s.allClosed = true ↔ ∀ c : ChanId, s.chans[c].st = .closed := by
  simp only [State.allClosed, Vector.all_eq_true, decide_eq_true_eq]
  exact ⟨fun h c => h c.val c.isLt, fun h i hi => h ⟨i, hi⟩⟩

theorem State.quiet_iff (s : State) : s.quiet = true ↔ s.link.ops = [] := by
  simp [State.quiet, List.isEmpty_iff]

/-- Neither STOPPING nor RESETTING has reached its end. -/
theorem State.finish_eq_self (s : State)
    (h1 : ¬(s.dev.st = .stopping ∧ (∀ c : ChanId, s.chans[c].st = .closed) ∧ s.link.ops = []))
    (h2 : ¬(s.dev.st = .resetting ∧ s.link.ops = [])) : s.finish = s := by
  have e1 : s.stoppingEnd = s :=
    if_neg fun e => h1 ⟨e.1, s.allClosed_iff.1 e.2.1, s.quiet_iff.1 e.2.2⟩
  rw [State.finish, e1]
  exact if_neg fun e => h2 ⟨e.1, s.quiet_iff.1 e.2⟩

theorem State.finish_online (s : State) (h : s.dev.st = .online) : s.finish = s :=
  s.finish_eq_self (by simp [h]) (by simp [h])

/-- The ends of STOPPING and RESETTING (R190, R194). -/
theorem State.finish_eq (s : State) : s.finish = ended s := by
  unfold State.finish State.stoppingEnd State.resettingEnd ended
  simp only [State.allClosed_iff, State.quiet_iff]
  by_cases h1 : s.dev.st = .stopping ∧ (∀ c : ChanId, s.chans[c].st = .closed) ∧ s.link.ops = []
  · rw [if_pos h1, if_neg (by simp), if_pos (Or.inl h1)]
  · by_cases h2 : s.dev.st = .resetting ∧ s.link.ops = []
    · rw [if_neg h1, if_pos h2, if_pos (Or.inr h2)]
    · rw [if_neg h1, if_neg h2, if_neg (by rintro (h | h); exacts [h1 h, h2 h])]

/-- In a settled state nothing more comes about. -/
theorem Settled.finish {s : State} (h : Settled s) : s.finish = s := State.finish_eq_self _ h.1 h.2

/-- A command that leaves the device ONLINE ends with its own work. -/
theorem done_online (s : State) (ho : s.dev.st = .online) : done s = .next s := by
  rw [done, State.finish_online _ ho]

end Sys2Proof.Machine
end

