-- ==== Sys2Proof/Laws/Channels.lean ====
section
/-! SUPPORT. A channel's view of its operations, and what its steps come to, in the terms of Safety.lean. -/

set_option Elab.async false

namespace Sys2Proof.Machine

/-! ### What is in flight (R69) -/

theorem State.anyLive_iff (s : State) (c : ChanId) (f : OpKind → Bool) :
    (s.link.ops.any fun o => o.isOf c && o.mark == .live && f o.kind) = true ↔ LiveOf c (fun k => f k = true) s := by
  unfold LiveOf Op.isOf
  simp only [List.any_eq_true, Bool.and_eq_true, beq_iff_eq, bne_iff_ne]
  constructor
  · rintro ⟨o, h1, ⟨⟨h2, h3⟩, h4⟩, h5⟩; exact ⟨o, h1, h4, h2, h5⟩
  · rintro ⟨o, h1, h4, h2, h5⟩; exact ⟨o, h1, ⟨⟨h2, by rw [h4]; decide⟩, h4⟩, h5⟩

theorem State.liveWb_iff (s : State) (c : ChanId) :
    (s.chanEnv c).liveWb = true ↔ LiveOf c (fun k => k.isWriteBack = true) s := s.anyLive_iff c _

theorem State.liveDesc_iff (s : State) (c : ChanId) :
    (s.chanEnv c).liveDesc = true ↔ LiveOf c (fun k => k.isDescRead = true) s := s.anyLive_iff c _

theorem State.anyOp_iff (s : State) (c : ChanId) :
    (s.chanEnv c).anyOp = true ↔ ∃ o ∈ s.link.ops, o.kind.chan? = some c ∧ o.mark ≠ .dropped := by
  unfold State.chanEnv Op.isOf
  simp only [List.any_eq_true, Bool.and_eq_true, beq_iff_eq, bne_iff_ne]

/-! ### Steps -/

/-- One operation sent (R195). -/
theorem State.issueReq_eq (r : OpReq) (s : State) :
    s.issueReq r =
      match r with
      | .read k a n => issued k a n [] s
      | .write k a d => issued k a d.length d s := by
  cases r <;> simp [State.issueReq, State.issueRead, State.issueWrite, Link.issue, issued]

theorem State.setChan_self (s : State) (c : ChanId) : ({ s with chans := s.chans.set c s.chans[c] } : State) = s := by
  have : s.chans.set c s.chans[c] = s.chans := by simp
  rw [this]

/-- A step that changes nothing. -/
theorem State.chanStep_only (s : State) (c : ChanId) : s.chanStep c s.chans[c].only = s := s.setChan_self c

/-- A channel that can go on to nothing stays (R72, R79, R84, R85). -/
theorem State.chanPump_only (s : State) (c : ChanId) (h : s.chans[c].pump (s.chanEnv c) = s.chans[c].only) :
    s.chanPump c = (s, []) := by
  unfold State.chanPump
  rw [h]
  show (s.chanStep c s.chans[c].only, ([] : List Post)) = _
  rw [State.chanStep_only]

/-- An event taken while operations are sent and the device is ONLINE (R168, R169). -/
theorem State.takePosts_event (s : State) (e : Event) (h : s.cfg.busMaster = true) :
    s.takePosts (eventPost s.isOnline s.now e) = afterEvent e s := by
  unfold eventPost afterEvent State.isOnline State.now
  by_cases ho : s.dev.st = .online
  · rw [if_pos ho, if_pos (by simpa using ho)]
    show s.offer s.comp.eventRing _ = _
    unfold State.offer afterOffer State.isOnline
    rw [if_pos (by simpa using ho)]
    by_cases hf : (s.ring s.comp.eventRing).full = false
    · have hlt : s.comp.rings[s.comp.eventRing].unconsumed < s.comp.rings[s.comp.eventRing].size := (Ring.full_iff _).1 hf
      rw [if_neg (by simp [hf]), if_pos hlt, State.place_eq _ _ _ h]
    · have hn : ¬s.comp.rings[s.comp.eventRing].unconsumed < s.comp.rings[s.comp.eventRing].size :=
        fun e => hf ((Ring.full_iff _).2 e)
      rw [if_pos (by simpa using hf), if_neg hn]; rfl
  · rw [if_neg ho, if_neg (by simpa using ho)]; rfl

/-! ### The end of a binding (R82, R83) -/

/-- What becomes of the copies and the ready data. -/
theorem Chan.dropCopies_eq (ch : Chan) : ch.dropCopies = setAside ch := by
  unfold Chan.dropCopies Chan.shortCurrent setAside Current.entry
  cases ch.current with
  | none => rfl
  | some cur => by_cases h : cur.moved = 0 <;> simp [h, Nat.one_le_iff_ne_zero]

/-- What becomes of the channel's operations in flight: live reads turn stale (R69). -/
theorem State.opsOf_staleReads (c : ChanId) (s : State) :
    opsOf c { s with link := s.link.staleChan c .reads } = (opsOf c s).map readStaled := by
  have key : ∀ l : List Op, ((l.map fun o =>
        if (o.kind.chan? == some c && o.kind.isRead) && o.mark == .live then { o with mark := .stale } else o).filter
          fun o => o.kind.chan? == some c) =
      (l.filter fun o => o.kind.chan? == some c).map readStaled := by
    intro l
    induction l with
    | nil => rfl
    | cons o l ih =>
      by_cases hc : o.kind.chan? = some c <;> by_cases hr : o.kind.isRead = true <;> by_cases hm : o.mark = .live <;>
        simp_all [readStaled]
  exact key s.link.ops

/-- An issued operation joins those of its channel, and no other channel's (R69). -/
theorem opsOf_issued (c : ChanId) (k : OpKind) (a : Addr) (n : Nat) (d : List Byte) (s : State) :
    opsOf c (issued k a n d s) = opsOf c s ++
      if k.chan? = some c then [{ id := s.link.nextId, kind := k, mark := .live, addr := a, len := n, data := d }] else [] := by
  unfold opsOf issued
  by_cases h : k.chan? = some c <;> simp [h]

/-- When the next device frame event is the STOP clear event (R18, R189). -/
theorem State.stopClearDue_iff {s : State} (h : s.dev.st = .online) : s.stopClearDue = true ↔ ¬NoStopClear s := by
  simp [State.stopClearDue, h, and_assoc]

/-! ### Moments -/

/-- A channel issues an operation while operations are sent (R195). -/
theorem Chan.issue_sent (ch : Chan) (env : ChanEnv) (r : OpReq) (rest : ChanOut) (h : env.sent = true) :
    ch.issue env r rest = { rest with ops := r :: rest.ops } := if_pos h

theorem State.canWriteBack_iff (s : State) (c : ChanId) :
    s.chans[c].canWriteBack (s.chanEnv c) = true ↔ WritesBack c s := by
  unfold Chan.canWriteBack WritesBack
  rw [← State.liveWb_iff]
  cases hq : s.chans[c].queue <;> cases hs : s.chans[c].st <;> simp <;> tauto

theorem State.canPrime_iff (s : State) (c : ChanId) : s.chans[c].canPrime (s.chanEnv c) = true ↔ Primes c s := by
  unfold Chan.canPrime Primes
  rw [← State.liveDesc_iff]
  simp only [Bool.and_eq_true, decide_eq_true_eq, List.isEmpty_iff, Bool.not_eq_true', Option.isNone_iff_eq_none,
    Bool.not_eq_true]
  tauto

theorem State.canWalk_iff (s : State) (c : ChanId) : s.chans[c].canWalk = true ↔ Walks c s := by
  unfold Chan.canWalk Walks
  simp only [Bool.and_eq_true, decide_eq_true_eq, List.isEmpty_iff, Bool.not_eq_true', and_assoc]

theorem State.canClose_iff (s : State) (c : ChanId) : s.chans[c].canClose (s.chanEnv c) = true ↔ Closes c s := by
  unfold Chan.canClose Closes
  have : (!(s.chanEnv c).anyOp) = true ↔ ∀ o ∈ s.link.ops, o.kind.chan? = some c → o.mark = .dropped := by
    rw [Bool.not_eq_true', ← Bool.not_eq_true, State.anyOp_iff]
    push Not; rfl
  rw [Bool.and_eq_true, this]
  simp only [Bool.and_eq_true, decide_eq_true_eq, List.isEmpty_iff, and_assoc]

/-- A step that issues one operation and does nothing else, while operations are sent. -/
theorem State.chanStep_issue (s : State) (c : ChanId) (ch : Chan) (env : ChanEnv) (r : OpReq) (h : env.sent = true) :
    s.chanStep c (ch.issue env r ch.only) = (withChan c ch s).issueReq r := by rw [Chan.issue_sent _ _ _ _ h]; rfl

theorem Chan.issue_posts (ch : Chan) (env : ChanEnv) (r : OpReq) (h : env.sent = true) :
    (ch.issue env r ch.only).posts = [] := by rw [Chan.issue_sent _ _ _ _ h]; rfl

/-- What a channel goes on to while operations are sent, and the record it hands on (R72, R79, R84, R85). -/
theorem State.chanPump_eq (s : State) (c : ChanId) (h : s.cfg.busMaster = true) :
    s.chanPump c = (wentOn c s,
      if Closes c s then eventPost s.isOnline s.now (.chanClosed c s.chans[c].closeFailed) else []) := by
  have hs : (s.chanEnv c).sent = true := h
  have hw : WritesBack c s → ¬Closes c s := by
    rintro ⟨⟨e, he, -⟩, -⟩ ⟨-, hq, -⟩; rw [hq] at he; cases he
  have hp : Primes c s → ¬Closes c s := by
    rintro ⟨h1, -⟩ ⟨h2, -⟩; rw [h1] at h2; cases h2
  have hk : Walks c s → ¬Closes c s := by
    rintro ⟨-, -, h1, -⟩ ⟨-, -, h2, -⟩; rw [h1] at h2; cases h2
  unfold State.chanPump Chan.pump wentOn
  simp only [State.canWriteBack_iff, State.canPrime_iff, State.canWalk_iff, State.canClose_iff]
  by_cases h1 : WritesBack c s
  · obtain ⟨e, he, -⟩ := h1.1
    simp only [if_pos h1, if_neg (hw h1)]
    unfold Chan.issueWriteBack
    cases hq : s.chans[c].queue with
    | nil => rw [hq] at he; cases he
    | cons a r =>
      dsimp only
      rw [State.chanStep_issue _ _ _ _ _ hs, Chan.issue_posts _ _ _ hs,
        show withChan c s.chans[c] s = s from s.setChan_self c, State.issueReq_eq]
      rfl
  · simp only [if_neg h1]
    by_cases h2 : Primes c s
    · simp only [if_pos h2, if_neg (hp h2), Chan.issuePriming]
      rw [State.chanStep_issue _ _ _ _ _ hs, Chan.issue_posts _ _ _ hs,
        show withChan c s.chans[c] s = s from s.setChan_self c, State.issueReq_eq]
      rfl
    · simp only [if_neg h2]
      by_cases h3 : Walks c s
      · simp only [if_pos h3, if_neg (hk h3), Chan.beginWalk]
        rw [State.chanStep_issue _ _ _ _ _ hs, Chan.issue_posts _ _ _ hs, State.issueReq_eq]
        simp [Chan.flushRead, flushReadIssued, withChan, Chan.descAddr, State.chanEnv, issued]
      · simp only [if_neg h3]
        by_cases h4 : Closes c s
        · simp only [if_pos h4]; rfl
        · simp only [if_neg h4, State.chanStep_only]; rfl

@[simp] theorem wentOn_cfg (c : ChanId) (s : State) : (wentOn c s).cfg = s.cfg := by
  unfold wentOn; split_ifs <;> [split; skip; skip; skip; skip] <;> rfl

@[simp] theorem wentOn_dev (c : ChanId) (s : State) : (wentOn c s).dev = s.dev := by
  unfold wentOn; split_ifs <;> [split; skip; skip; skip; skip] <;> rfl

@[simp] theorem wentOn_tim (c : ChanId) (s : State) : (wentOn c s).tim = s.tim := by
  unfold wentOn; split_ifs <;> [split; skip; skip; skip; skip] <;> rfl

theorem State.takePosts_append (ps qs : List Post) (s : State) :
    s.takePosts (ps ++ qs) = (s.takePosts ps).takePosts qs := List.foldl_append ..

/-- A channel's step with what it goes on to while operations are sent, and its records (R85, R168, R169). -/
theorem State.chanEvent_eq (s : State) (c : ChanId) (o : ChanOut) (h : s.cfg.busMaster = true) :
    done (s.chanEvent c o) = .next (moment c (fun t => t.takePosts o.posts) (s.chanStep c o)) := by
  have hb : (s.chanStep c o).cfg.busMaster = true := by simpa using h
  unfold State.chanEvent State.chanAct
  rw [State.chanPump_eq _ _ hb, done, State.finish_eq]
  unfold moment
  by_cases hc : Closes c (s.chanStep c o)
  · simp only [if_pos hc, State.takePosts_append]
    have hw : (wentOn c (s.chanStep c o)).cfg.busMaster = true := by simpa using h
    have := State.takePosts_event ((wentOn c (s.chanStep c o)).takePosts o.posts)
      (.chanClosed c (s.chanStep c o).chans[c].closeFailed) (by simpa using h)
    rw [← this]
    congr 2
    unfold State.isOnline State.now
    rw [State.takePosts_dev _ _ hw, State.takePosts_tim, wentOn_dev, wentOn_tim]
  · simp only [if_neg hc, List.append_nil]

end Sys2Proof.Machine
end

