-- ==== Sys2Proof/Laws/Posts.lean ====
section
/-! SUPPORT. Records handed together: that every one is taken, in whatever order, and where a record taken ends up. -/

set_option Elab.async false

namespace Sys2Proof.Machine

/-! ### Every record is taken once (R172) -/

theorem flatten_filter_nonempty {α : Type} (gs : List (List α)) :
    (gs.filter fun g => !g.isEmpty).flatten = gs.flatten := by
  induction gs with
  | nil => rfl
  | cons g gs ih => cases g <;> simp [ih]

theorem flatten_set_perm {α : Type} (x : α) (rest : List α) (gs : List (List α)) (k : Nat)
    (h : gs[k]? = some (x :: rest)) : (x :: (gs.set k rest).flatten).Perm gs.flatten := by
  induction gs generalizing k with
  | nil => simp at h
  | cons g gs ih =>
    cases k with
    | zero =>
      simp only [List.getElem?_cons_zero, Option.some.injEq] at h
      subst h; simp
    | succ k =>
      simp only [List.getElem?_cons_succ] at h
      simp only [List.set_cons_succ, List.flatten_cons]
      exact List.perm_middle.symm.trans ((ih k h).append_left g)

theorem interleave_perm {α : Type} (fuel : Nat) (picks : List Nat) (gs : List (List α))
    (h : gs.flatten.length ≤ fuel) : (interleave fuel picks gs).Perm gs.flatten := by
  induction fuel generalizing picks gs with
  | zero => rw [List.eq_nil_of_length_eq_zero (Nat.le_zero.1 h)]; rfl
  | succ fuel ih =>
    unfold interleave
    dsimp only
    have hl := flatten_filter_nonempty gs
    have hne : ∀ g ∈ gs.filter fun g => !g.isEmpty, g ≠ [] := by
      intro g hg; simpa [List.isEmpty_iff] using (List.mem_filter.1 hg).2
    generalize (gs.filter fun g => !g.isEmpty) = live at hl hne
    rw [← hl]
    rw [← hl] at h
    cases hk : live[picks.headD 0 % live.length]? with
    | none =>
      have : live = [] := by
        rcases Nat.eq_zero_or_pos live.length with e | e
        · exact List.eq_nil_of_length_eq_zero e
        · have := List.getElem?_eq_none_iff.1 hk
          exact absurd (Nat.mod_lt (picks.headD 0) e) (by omega)
      subst this; exact .refl _
    | some g =>
      cases g with
      | nil => exact absurd rfl (hne _ (List.mem_of_getElem? hk))
      | cons x rest =>
        have hp := flatten_set_perm x rest live _ hk
        have := hp.length_eq
        simp only [List.length_cons] at this
        exact ((ih _ _ (by omega)).cons x).trans hp

/-- The records of the sources are each taken once, in whatever order (R172). -/
theorem merge_perm {α : Type} (picks : List Nat) (gs : List (List α)) : (merge picks gs).Perm gs.flatten :=
  interleave_perm _ _ _ le_rfl

/-! ### Where a record ends up (R163, R168, R169) -/

/-- Records go on to be taken: nothing in flight is lost by it, and no missed count falls. -/
structure Grows (s t : State) : Prop where
  cfg : t.cfg = s.cfg
  dev : t.dev = s.dev
  ops : ∀ o ∈ s.link.ops, o ∈ t.link.ops
  missed : ∀ n : RingId, s.comp.rings[n].missed ≤ t.comp.rings[n].missed
  eventRing : t.comp.eventRing = s.comp.eventRing

theorem Grows.refl (s : State) : Grows s s := ⟨rfl, rfl, fun _ h => h, fun _ => le_rfl, rfl⟩

theorem Grows.trans {s t u : State} (h : Grows s t) (k : Grows t u) : Grows s u :=
  ⟨k.cfg.trans h.cfg, k.dev.trans h.dev, fun o ho => k.ops o (h.ops o ho), fun n => (h.missed n).trans (k.missed n),
    k.eventRing.trans h.eventRing⟩

theorem Handed.grows {n : RingId} {rec : Record} {s t : State} (h : Handed n rec s) (g : Grows s t) :
    Handed n rec t := by
  rcases h with ⟨o, ho, hk⟩ | h
  · exact .inl ⟨o, g.ops o ho, hk⟩
  · exact .inr (h.trans_le (g.missed n))

theorem grows_setRing (s : State) (n : RingId) (r : Ring) (h : s.comp.rings[n].missed ≤ r.missed) :
    Grows s (s.setRing n r) := by
  refine ⟨rfl, rfl, fun _ h => h, fun m => ?_, rfl⟩
  by_cases e : m = n
  · subst e; simpa [State.setRing] using h
  · have : n.val ≠ m.val := fun h => e (Fin.ext h.symm)
    simp [State.setRing, Vector.getElem_set_ne, this]

theorem grows_afterPlace (s : State) (n : RingId) (rec : Record) : Grows s (afterPlace n rec s) := by
  refine ⟨rfl, rfl, fun o h => by simp [afterPlace, h], fun m => ?_, rfl⟩
  exact (grows_setRing s n s.comp.rings[n].placed le_rfl).missed m

theorem Ring.le_miss (r : Ring) : r.missed ≤ r.miss.missed := by
  unfold Ring.miss Config.satAdd
  split <;> simp

theorem grows_miss (s : State) (n : RingId) : Grows s (s.miss n) := grows_setRing _ _ _ (Ring.le_miss _)

theorem grows_afterRequest (s : State) : Grows s (afterRequest s) := by
  unfold afterRequest
  split_ifs
  · exact ⟨rfl, rfl, fun _ h => h, fun _ => le_rfl, rfl⟩
  · exact ⟨rfl, rfl, fun _ h => h, fun _ => le_rfl, rfl⟩
  · exact ⟨rfl, rfl, fun o h => by simp [h], fun _ => le_rfl, rfl⟩

theorem grows_takePost (p : Post) (s : State) (hb : s.cfg.busMaster = true) : Grows s (s.takePost p) := by
  have hoffer : ∀ (n : RingId) (rec : Record), Grows s (s.offer n rec) := by
    intro n rec
    unfold State.offer
    split_ifs
    · exact grows_miss s n
    · rw [State.place_eq _ _ _ hb]; exact grows_afterPlace s n rec
    · exact .refl s
  cases p with
  | record ring r => exact hoffer _ _
  | done h st v f =>
    show Grows s (State.handDone _ _ s)
    by_cases ho : s.dev.st = .online
    · rw [State.handDone_eq _ _ _ hb ho]
      unfold afterDone
      split_ifs
      · exact (grows_afterPlace s _ _).trans (grows_afterRequest _)
      · exact (grows_miss s _).trans (grows_afterRequest _)
      · exact ⟨rfl, rfl, fun _ h => h, fun m => (grows_setRing s h.ring { s.comp.rings[h.ring] with
          held := (some { status := st, consumed := s.proc.consumed, tag := h.tag, value := v, frame := f } : Option ReqDone) }
          le_rfl).missed m, rfl⟩
    · unfold State.handDone
      rw [if_pos (by simp [State.isOnline, ho])]
      exact .refl s

theorem grows_takePosts (ps : List Post) (s : State) (hb : s.cfg.busMaster = true) : Grows s (s.takePosts ps) := by
  induction ps generalizing s with
  | nil => exact .refl s
  | cons p ps ih =>
    have g := grows_takePost p s hb
    exact g.trans (ih _ (by rw [g.cfg]; exact hb))

/-- A record among those taken in ONLINE while operations are sent is in its ring, or counted as dropped. -/
theorem handed_takePosts (n : RingId) (rec : Record) (ps : List Post) (s : State) (hb : s.cfg.busMaster = true)
    (ho : s.dev.st = .online) (h : .record (some n) rec ∈ ps ∨ n = s.comp.eventRing ∧ .record none rec ∈ ps) :
    Handed n rec (s.takePosts ps) := by
  induction ps generalizing s with
  | nil => simp at h
  | cons p ps ih =>
    have g := grows_takePost p s hb
    have hb' : (s.takePost p).cfg.busMaster = true := by rw [g.cfg]; exact hb
    have key : p = .record (some n) rec ∨ n = s.comp.eventRing ∧ p = .record none rec →
        Handed n rec (s.takePost p) := by
      intro hp
      have e : s.takePost p = s.offer n rec := by
        rcases hp with rfl | ⟨rfl, rfl⟩ <;> rfl
      rw [e]
      unfold State.offer
      rw [if_pos (by simp [State.isOnline, ho])]
      split_ifs with hf
      · right
        show 0 < ((s.setRing n (s.ring n).miss).comp.rings[n]).missed
        simp only [State.setRing, Fin.getElem_fin, Vector.getElem_set_self]
        unfold Ring.miss Config.satAdd Config.max16
        dsimp only
        split <;> omega
      · left
        rw [State.place_eq _ _ _ hb]
        exact ⟨recordOp s.link.nextId n s.comp.rings[n] rec, by simp [afterPlace], rfl, _, rfl⟩
    rw [State.takePosts_cons]
    rcases h with h | ⟨rfl, h⟩
    · rcases List.mem_cons.1 h with rfl | h
      · exact (key (.inl rfl)).grows (grows_takePosts ps _ hb')
      · exact ih _ hb' (by rw [g.dev]; exact ho) (.inl h)
    · rcases List.mem_cons.1 h with rfl | h
      · exact (key (.inr ⟨rfl, rfl⟩)).grows (grows_takePosts ps _ hb')
      · exact ih _ hb' (by rw [g.dev]; exact ho) (.inr ⟨g.eventRing.symm, h⟩)

end Sys2Proof.Machine
end

