-- ==== Sys2Proof/Laws/Requests.lean ====
section
/-! SUPPORT. What a fetched request comes to: the end of its fetch, its header checks, and its completion. -/

set_option Elab.async false

namespace Sys2Proof.Machine

/-- A fetched request is executing, with its fetch taken out of flight and the consumed count advanced. -/
def executing (f : Op) (s : State) : State :=
  { inHand f s with proc := { (inHand f s).proc with st := .executing } }

theorem Fetching.fetched {f : Op} {s : State} (h : Fetching f s) : s.fetched = some (executing f s) := by
  unfold State.fetched
  rw [h.inFlight]
  simp [h.fetching, executing, inHand, State.endOp]

/-- The completion of a request does not depend on the processor's state before it. -/
theorem afterDone_st (n : RingId) (d : ReqDone) (x : ProcState) (s : State) :
    afterDone n d { s with proc := { s.proc with st := x } } = afterDone n d s := by
  unfold afterDone afterRequest afterPlace
  split_ifs <;> rfl

theorem answer_executing (r : ReqRecord) (st : Status) (v : Nat) (x : ProcState) (s : State) :
    answer r st v { s with proc := { s.proc with st := x } } = answer r st v s :=
  afterDone_st _ _ x s

@[simp] theorem afterDone_dev (n : RingId) (d : ReqDone) (s : State) : (afterDone n d s).dev = s.dev := by
  unfold afterDone afterRequest afterPlace; split_ifs <;> rfl

/-- A request that completes in ONLINE leaves nothing more to come about within the moment. -/
theorem done_afterDone (n : RingId) (d : ReqDone) (s : State) (ho : s.dev.st = .online) :
    done (afterDone n d s) = .next (afterDone n d s) :=
  done_online _ (by simpa using ho)

theorem done_answer (r : ReqRecord) (st : Status) (v : Nat) (s : State) (ho : s.dev.st = .online) :
    done (answer r st v s) = .next (answer r st v s) :=
  done_afterDone _ _ _ ho

theorem done_answerStaged (r : ReqRecord) (st : Status) (s : State) (ho : s.dev.st = .online) :
    done (answerStaged r st s) = .next (answerStaged r st s) := by
  unfold answerStaged
  split_ifs
  · exact done_online _ ho
  · exact done_answer _ _ _ _ ho

/-- A fetched request whose header passes goes on to its own meaning (R149). -/
theorem Fetching.request {f : Op} {s : State} (h : Fetching f s) {r : ReqRecord} (hr : HeaderPasses r s)
    (body : ReqRecord → Hand → State → State) :
    s.request r body = body r { ring := ringOf r, tag := r.tag, frame := 0 } (executing f s) := by
  have hok : (executing f s).ringOk r = true := decide_eq_true hr.1
  have hh : headerOk r = true := by simp [headerOk, hr.2.1, hr.2.2]
  unfold State.request
  rw [h.fetched]
  simp [hok, hh, State.replyHand, ringOf]

/-- A fetched request whose header fails completes with BAD_FIELD (R149). -/
theorem Fetching.request_fails {f : Op} {s : State} (h : Fetching f s) {r : ReqRecord} (hr : ¬HeaderPasses r s)
    (body : ReqRecord → Hand → State → State) :
    s.request r body = (executing f s).failRequest ((executing f s).replyHand r) .badField := by
  unfold State.request
  rw [h.fetched]
  have : ((executing f s).ringOk r && headerOk r) = false := by
    rw [Bool.eq_false_iff]
    intro e
    simp only [Bool.and_eq_true, headerOk, decide_eq_true_eq, beq_iff_eq] at e
    exact hr ⟨of_decide_eq_true e.1, e.2⟩
  simp [this]

/-- The completion of an executing request, in the terms of Safety.lean. -/
theorem Fetching.finish {f : Op} {s : State} (h : Fetching f s) (r : ReqRecord) (st : Status) (v : Nat) (s1 : State)
    (hb : s1.cfg = s.cfg) (ho : s1.dev = s.dev) :
    State.finishRequest { ring := ringOf r, tag := r.tag, frame := 0 } st v 0
      { s1 with proc := { s1.proc with st := .executing } } = answer r st v s1 := by
  have hb' : s1.cfg.busMaster = true := by rw [hb]; exact h.linked
  have ho' : s1.dev.st = .online := by rw [ho]; exact h.online
  refine (State.finishRequest_eq r { ring := ringOf r, tag := r.tag, frame := 0 } st v
    { s1 with proc := { s1.proc with st := .executing } } hb' ho' rfl rfl).trans (answer_executing ..)

/-- A staging request that has changed the set, in the terms of Safety.lean (R30, R38). -/
theorem Fetching.stagingDone {f : Op} {s : State} (h : Fetching f s) (r : ReqRecord) (st : Status) (s1 : State)
    (hb : s1.cfg = s.cfg) (ho : s1.dev = s.dev) :
    State.stagingDone { ring := ringOf r, tag := r.tag, frame := 0 } r.immediate st
      { s1 with proc := { s1.proc with st := .executing } } = answerStaged r st s1 := by
  unfold State.stagingDone answerStaged
  have hc : ({ s1 with proc := { s1.proc with st := .executing } } : State).mc.count = entryCount s1 := rfl
  rw [hc]
  by_cases hi : r.immediate = true ∧ entryCount s1 ≠ 0
  · have hi' : r.flags.getLsbD 0 = true ∧ entryCount s1 ≠ 0 := hi
    rw [if_pos hi, if_pos hi']; rfl
  · have hi' : ¬(r.flags.getLsbD 0 = true ∧ entryCount s1 ≠ 0) := hi
    rw [if_neg hi, if_neg hi']; exact h.finish r st _ s1 hb ho

end Sys2Proof.Machine
end

