-- ==== Sys2Proof/Laws/Staging.lean ====
section
/-! SUPPORT. The map controller's checks and changes in the terms of Safety.lean: the slot checks of OPEN and RESLOT, what a
staged entry leaves behind, and SETHWY's classes with the slot budget. -/

set_option Elab.async false

namespace Sys2Proof.Machine

/-! ### Slots -/

theorem State.claimPasses_all (s : State) (c : ChanId) (h : HwyId) (l : List Nat) :
    (l.all fun n => s.claimPasses c h n) = claimsPass s c h l := by
  unfold claimsPass State.claimPasses
  congr 1; funext n
  generalize (s.prospective (some c) h n).1 = d
  cases d <;> simp [Bool.beq_eq_decide_eq]

/-- The highway and slot checks, each with its status, in order (R71). -/
theorem State.slotsCheck_eq (s : State) (c : ChanId) (d : Dir) (h : HwyId) (l : List Nat) :
    s.slotsCheck c d h l = slotsFailure s c d h l := by
  unfold State.slotsCheck slotsFailure
  rw [State.claimPasses_all]
  simp only [Highway.enabled, ne_eq, not_not, List.any_eq_true, decide_eq_true_eq, Bool.and_eq_true, Bool.not_eq_true']

theorem absorbTargets_eq (d : Dir) (h : HwyId) (l : List Nat) (ts : List (SlotRef × Target)) :
    absorbTargets d h l ts = absorbed d h l ts := by
  unfold absorbTargets absorbed
  cases d
  · rfl
  · rw [if_pos rfl]; simp [Bool.beq_eq_decide_eq, List.contains_eq_mem]

/-- What the staging of an OPEN or RESLOT changes (R25). -/
theorem State.stageSlots_eq (s : State) (c : ChanId) (e : ChanEntry) (d : Dir) (h : HwyId) (l : List Nat) :
    s.stageSlots c e d h l =
      { s with mc := { s.mc with targets := absorbed d h l s.mc.targets, entries := putKey chanRank c e s.mc.entries } } := by
  unfold State.stageSlots State.stageChan; simp only [absorbTargets_eq]

/-! ### The slot budget -/

theorem sum_replaced (f : Fin 16 → Nat) (h : Fin 16) (v : Nat) :
    ((List.finRange 16).map fun k => if k = h then v else f k).sum + f h = ((List.finRange 16).map f).sum + v := by
  rw [← Fin.sum_univ_def, ← Fin.sum_univ_def, ← Finset.add_sum_erase _ _ (Finset.mem_univ h),
    ← Finset.add_sum_erase _ f (Finset.mem_univ h), if_pos rfl]
  have : ∑ x ∈ Finset.univ.erase h, (if x = h then v else f x) = ∑ x ∈ Finset.univ.erase h, f x :=
    Finset.sum_congr rfl fun x hx => if_neg (Finset.ne_of_mem_erase hx)
  omega

/-- Replacing one port moves the sum of the enabled slot counts by that port's share (R48). -/
theorem budgetUsed_set (hs : Vector Highway 16) (h : HwyId) (p : Highway) :
    budgetUsed (hs.set h p) + (if hs[h].enabled then hs[h].slotCount else 0) =
      budgetUsed hs + (if p.enabled then p.slotCount else 0) := by
  have := sum_replaced (fun k => if hs[k].enabled then hs[k].slotCount else 0) h (if p.enabled then p.slotCount else 0)
  unfold budgetUsed
  rw [← this]
  congr 2
  apply List.map_congr_left
  intro k _
  by_cases hk : k = h
  · subst hk; simp
  · have : h.val ≠ k.val := fun e => hk (Fin.ext e.symm)
    simp [hk, this]

/-- The budget a SETHWY is checked against is the one it would leave (R48). -/
theorem State.budgetWith_eq (s : State) (h : HwyId) (p : Highway) (hp : p.enabled) :
    s.budgetWith h p.slotCount = budgetUsed (s.hwys.set h p) := by
  have := budgetUsed_set s.hwys h p
  have h2 : (if s.hwys[h].enabled then s.hwys[h].slotCount else 0) ≤ budgetUsed s.hwys := by
    unfold budgetUsed
    apply List.single_le_sum (by simp)
    apply List.mem_map.2 ⟨h, List.mem_finRange h, rfl⟩
  unfold State.budgetWith
  rw [if_pos hp] at this
  omega

/-! ### SETHWY -/

/-- The port after a SETHWY, by its class (R46, R49, R55). -/
theorem Highway.change_eq (r : ReqRecord) (p : Highway) : p.change r (hwyChange p r) = sethwyPort r p := by
  unfold hwyChange sethwyPort Highway.enabled
  by_cases h1 : p.align = .disabled
  · rw [if_neg (by simpa using h1)]
    by_cases h2 : reqByte r 9 = 0 <;> simp [h1, h2, Highway.change, Highway.configure, Highway.toSearching]
  · rw [if_pos h1]
    by_cases h2 : reqByte r 9 = 0
    · simp [h1, h2, Highway.change, Highway.configure, Highway.unaligned]
    · by_cases h3 : reqByte r 10 = p.slotCount
      · simp [h1, h2, h3, Highway.change]
      · by_cases h4 : p.align = .lost <;>
          simp [h2, h3, h4, h1, Highway.change, Highway.configure, Highway.unaligned, Highway.toSearching]

/-- The map entries after a SETHWY, by its class (R10). -/
theorem changeDrivers_eq (r : ReqRecord) (p : Highway) (ds : List Driver) :
    changeDrivers (reqByte r 10) ds (hwyChange p r) = sethwyMap r p ds := by
  unfold hwyChange sethwyMap Highway.enabled
  by_cases h1 : p.align = .disabled
  · rw [if_neg (by simpa using h1)]
    by_cases h2 : reqByte r 9 = 0 <;> simp [h1, h2, changeDrivers]
  · rw [if_pos h1]
    by_cases h2 : reqByte r 9 = 0
    · simp [h1, h2, changeDrivers]
    · by_cases h3 : reqByte r 10 = p.slotCount <;> simp [h1, h2, h3, changeDrivers]

end Sys2Proof.Machine
end

