-- ==== Sys2Proof/WellFormed.lean ====
section
/-! DEFINITION. What a command's operands may be: the sizes and ranges the manual gives what comes from outside. -/

namespace Sys2Proof

open Sys2Proof.Machine (kindKnown)

/-- A request record is 64 bytes, of which the constructor, the header fields and the body are 1, 7 and 56 (R199). -/
def ReqRecord.wf (r : ReqRecord) : Bool := r.body.length == 56

/-- A read that ends with data returns every byte asked for, between `lo` and `hi` of them (R195). -/
def ReadEnd.wf (lo hi : Nat) : ReadEnd → Bool
  | .data bytes => lo ≤ bytes.length && bytes.length ≤ hi
  | .error => true
  | .timeout => true

/-- An order names no highway twice (R123). -/
def FrameOrder.wf (o : FrameOrder) : Bool := decide (o.before ++ o.after).Nodup

/-- Whether a command is one the outside can send. -/
def Instr.wellFormed : Instr → Bool
  | .powerOnReset => true
  | .configurationSpaceWrite _ _ vectors => 1 ≤ vectors
  | .start => true
  | .stop => true
  | .reset => true
  | .setupAddressWrite _ _ => true
  | .requestTail _ => true
  | .ringHead _ _ => true
  | .registerWrite offset len _ => 1 ≤ len && offset + len ≤ 0x1000
  | .setupReadEnd e => e.wf 64 64
  | .requestFetch => true
  | .requestFetchError _ => true
  | .badKind kind r => !kindKnown kind && r.wf
  | .nop r => r.wf
  | .sethwy r => r.wf
  | .connect r => r.wf
  | .disconnect r => r.wf
  | .openChannel r => r.wf
  | .closeChannel r => r.wf
  | .reslot r => r.wf
  | .commit r => r.wf
  | .discard r => r.wf
  | .setref r => r.wf
  | .qhwy r => r.wf
  | .qchan r => r.wf
  | .qslot r => r.wf
  | .qtime r => r.wf
  | .resultWriteEnd _ => true
  | .deviceFrameEvent o => o.wf
  | .apply o => o.wf
  | .stopClearEvent o => o.wf
  | .frameArrival _ _ _ => true
  | .hwySilence _ o => o.wf
  | .hwyLost _ o => o.wf
  | .referencePulse _ => true
  | .referenceLoss _ o => o.wf
  | .driftWindowEnd _ o => o.wf
  | .candidateQualified _ o => o.wf
  | .selectLocked o => o.wf
  | .holdoverValid o => o.wf
  | .holdoverLimit o => o.wf
  | .waitToRestore o => o.wf
  | .operationTimeout _ => true
  | .lateAnswer _ _ => true
  | .descriptorReadEnd _ e => e.wf 32 32
  | .dataReadEnd _ e => e.wf 1 32
  | .dataWriteEnd _ _ => true
  | .writeBackEnd _ _ => true
  | .flushReadEnd _ e => e.wf 32 32
  | .staleOperationEnd _ _ => true
  | .completionWriteEnd _ _ => true
  | .writeBackIssue _ => true
  | .deferredLookaheadRead _ => true
  | .primingRead _ => true
  | .flushWalk _ => true
  | .chanClosed _ => true
  | .overflow _ => true
  | .heldRecordPlaced _ => true
  | .stoppingEnd => true
  | .resettingEnd => true

end Sys2Proof
end

