-- ==== Sys2Proof/Tests/Slice0.lean ====
section
/-! SUPPORT. Tests: what WellFormed refuses, one step of each command on a small state with its result taken from the manual. -/

namespace Sys2Proof.Tests

set_option Elab.async false

open Sys2Proof Sys2Proof.Machine

/-! ### Small states -/

/-- The state a command leaves. -/
def after (c : Instr) (s : State) : State :=
  match exec c s with
  | .next t => t
  | .fault _ => s
  | .refused _ => s

/-- The order that names no highway and picks the first source. -/
def plain : FrameOrder := { before := [], after := [], picks := [] }

/-- A request with completion ring 0, a tag and a body given by its fields at record offsets. -/
def req (fields : List FieldVal) (flags : Byte := 0) : ReqRecord :=
  { flags := flags, ring := 0, reserved := 0, tag := 0xA51C,
    body := layoutBytes 56 (fields.map fun f => (f.1 - 8, f.2.1, f.2.2)) }

/-- A valid setup block: request ring and two completion rings of 16, event ring 1, preset 999. -/
def block : List Byte := layoutBytes 64
  [(0x00, 8, 0x10000), (0x08, 2, 16), (0x0A, 1, 2), (0x0B, 1, 1), (0x0C, 4, 999), (0x10, 8, 0x20000), (0x18, 8, 0x30000),
   (0x30, 2, 16), (0x32, 2, 16)]

/-- Two rings of 16 records. -/
def rings : Vector Ring 4 :=
  #v[{ Ring.reset with base := 0x20000, size := 16 }, { Ring.reset with base := 0x30000, size := 16 }, .reset, .reset]

/-- ONLINE and IDLE, with bus mastering and message interrupts enabled. -/
def online : State :=
  { State.reset with
    dev := { Device.reset with st := .online }
    cfg := { busMaster := true, messages := true, vectors := 2 }
    proc := { st := .idle, tail := 0, consumed := 0, ringBase := 0x10000, ringSize := 16, hand := none }
    comp := { ringCount := 2, eventRing := 1, rings := rings } }

/-- ONLINE with completion ring 0 as given. -/
def withRing0 (r : Ring) : State := { online with comp := { online.comp with rings := rings.set 0 r } }

/-- A live operation. -/
def op (k : OpKind) : Op := { id := 0, kind := k, mark := .live, addr := 0x10000, len := 64, data := [] }

/-- The state with one operation in flight. -/
def flying (k : OpKind) (s : State) : State := { s with link := { s.link with ops := [op k], nextId := 1 } }

/-- The state with one discarded operation in flight. -/
def discardedOp (m : OpMark) (k : OpKind) (s : State) : State :=
  { s with link := { s.link with ops := [{ op k with mark := m }], nextId := 1 } }

/-- The fetch of the next request is in flight, with one record outstanding. -/
def fetching : State := flying .requestFetch { online with proc := { online.proc with st := .fetching, tail := 1 } }

/-- An ALIGNED port of 32 slots with one unread frame. -/
def port : Highway :=
  { Highway.reset with align := .aligned, unread := [List.replicate 32 0x41], last := some (List.replicate 32 0x40) }

/-- Highway 1 as given, each of its slots NONE. -/
def withPort (p : Highway) (s : State) : State :=
  { s with hwys := s.hwys.set 1 p, map := s.map.set 1 (List.replicate p.slotCount .none) }

/-- A receive channel of two slots of highway 1 with a ring of 4 descriptors. -/
def rx : Chan := { Chan.reset with st := .running, hwy := 1, slots := [7, 3], ringBase := 0x9000, ringSize := 4 }

/-- The same as a transmit channel. -/
def tx : Chan := { rx with dir := .tx, idle := 0x55 }

def desc (i frames : Nat) : Desc := { index := i, notify := true, frames := frames, buffer := 0x5000, cookie := 0x100 }

/-- A queued descriptor with its data writes accepted. -/
def done1 : WbEntry := { unmoved (desc 0 4) .done with actual := 4, firstFrame := 1 }

/-- Channel 9 as given. -/
def with9 (ch : Chan) (s : State) : State := withChan 9 ch s

/-- A candidate good and QUALIFIED. -/
def cand (src : Source) : Cand :=
  { src := src, st := .qualified, gap := 0, window := some { events := 10, arrivals := 10 }, drift := false,
    qualCount := 80000, qualTime := 100 }

def withTim (t : Timing) (s : State) : State := { s with tim := t }

/-- REFA selected and locked above H1. -/
def locked : Timing :=
  { Timing.reset with cands := [cand (.ref .refa), cand (.hwy 1)], sel := .locked (.ref .refa), lockedRun := 100 }

/-- No selection, with one candidate. -/
def oneCand (c : Cand) : Timing := { Timing.reset with cands := [c] }

/-- LOCKED or so to `sel` with two candidates. -/
def twoCands (c d : Cand) (sel : Selector) : Timing := { locked with cands := [c, d], sel := sel }

/-- REFB alone, its drift window one event from its end. -/
def drifting : Timing := oneCand { cand (.ref .refb) with window := some { events := 7999, arrivals := 8017 } }

/-- REFB alone, one event from QUALIFIED. -/
def qualifying : Timing := oneCand { cand (.ref .refb) with st := .qualifying, qualCount := 79999 }

/-- REFA alone, FAILED. -/
def refaLost : Timing := oneCand { cand (.ref .refa) with st := .failed, gap := 3, window := none }

/-- REFA selected, one event from a loss. -/
def refaSilent : Timing := twoCands { cand (.ref .refa) with gap := 2 } (cand (.ref .refb)) (.locked (.ref .refa))

/-- HOLDOVER, one event from its limit. -/
def holding : Timing := { Timing.reset with sel := .holdover, valid := true, holdLimit := 1, elapsed := 7999 }

/-- REFB locked below a QUALIFIED REFA, revertive with a wait to restore of 0. -/
def reverting : Timing :=
  { twoCands (cand (.ref .refa)) (cand (.ref .refb)) (.locked (.ref .refb)) with revertive := true, wtr := 0 }

/-- START waits for the setup read. -/
def starting : State := flying .setupRead { State.reset with dev := { Device.reset with st := .starting } }

/-- The data of the last operation issued. -/
def lastData (s : State) : List Byte := ((s.link.ops.getLast?).map Op.data).getD []

/-- The kind and address of the last operation issued. -/
def lastOp (s : State) : Option (OpKind × Addr) := (s.link.ops.getLast?).map fun o => (o.kind, o.addr)

/-! ### WellFormed refuses -/

theorem test_wf_vectors : (Instr.configurationSpaceWrite true true 0).wellFormed = false := by decide
theorem test_wf_write_len : (Instr.registerWrite 0x00C 0 0).wellFormed = false := by decide
theorem test_wf_write_end : (Instr.registerWrite 0xFFE 4 0).wellFormed = false := by decide
theorem test_wf_setup_len : (Instr.setupReadEnd (.data [0])).wellFormed = false := by decide
theorem test_wf_kind : (Instr.badKind 0x05 (req [])).wellFormed = false := by decide +kernel
theorem test_wf_body : (Instr.nop { req [] with body := [] }).wellFormed = false := by decide
theorem test_wf_order : (Instr.deviceFrameEvent { plain with before := [3], after := [3] }).wellFormed = false := by decide
theorem test_wf_descriptor : (Instr.descriptorReadEnd 0 (.data [0])).wellFormed = false := by decide
theorem test_wf_data_short : (Instr.dataReadEnd 0 (.data [])).wellFormed = false := by decide
theorem test_wf_data_long : (Instr.dataReadEnd 0 (.data (List.replicate 33 0))).wellFormed = false := by decide
theorem test_wf_flush : (Instr.flushReadEnd 0 (.data [0])).wellFormed = false := by decide
theorem test_wf_admits : (Instr.sethwy (req [(0x08, 1, 5)])).wellFormed = true := by decide +kernel

/-! ### The records of chapter 10 -/

/-- 10, Example: one REQUEST_DONE read in bytes. -/
theorem test_request_done_bytes :
    (Record.requestDone { status := .applied, consumed := 0x0123, tag := 0xA51C, value := 4, frame := 512880 }).bytes
        (phaseOf 40 16) =
      [0x81, 0x04, 0x23, 0x01, 0x1C, 0xA5, 0x00, 0x00, 0x04, 0x00, 0x00, 0x00, 0x70, 0xD3, 0x07, 0x00] := by
  decide +kernel

/-- R201, 10.4: event kind 7 TIMING, subject REFA 0x20, sub-kind 1, detail 1 loss, frame number at 0x08. -/
theorem test_event_bytes :
    (Record.event (.timing (.candidateFailed (.ref .refa) .loss)) 5).bytes false =
      [0x03, 0x07, 0x20, 0x01, 0x01, 0, 0, 0, 0x05, 0, 0, 0, 0, 0, 0, 0] := by decide +kernel

/-- R202: OWN clear, NOTIFY kept in bit 1, status DONE 1, frames actual at 0x04. -/
theorem test_write_back_bytes : done1.bytes = [0x02, 0x01, 0, 0, 0x04, 0, 0, 0, 0x01, 0, 0, 0] := by decide +kernel

/-! ### Register commands -/

/-- R185. -/
theorem test_power_on_reset : (after .powerOnReset online).dev.st = .offline := by decide +kernel
/-- R185. -/
theorem test_configuration_space_write :
    (after (.configurationSpaceWrite true false 4) State.reset).cfg.vectors = 4 := by decide +kernel
/-- R187: the setup read. -/
theorem test_start : lastOp (after .start { online with dev := { Device.reset with setupLow := 0x40, setupHigh := 1 } }) =
    some (.setupRead, 0x100000040) := by decide +kernel
/-- R195: with bus mastering disabled the setup read ends in error at once. -/
theorem test_start_unsent : (after .start State.reset).dev.cause = .setupError := by decide +kernel
/-- R158: a STOP in IDLE. -/
theorem test_stop : (after .stop online).proc.st = .stopped := by decide +kernel
/-- R193, R194: with an operation in flight. -/
theorem test_reset : (after .reset fetching).dev.st = .resetting := by decide +kernel
/-- R134, R140: holdover valid, a limit of 0 in force, and 5 written since the last device frame event. -/
theorem test_reset_limit :
    (after .reset (withTim
      { (oneCand (cand (.hwy 1))) with sel := .locked (.hwy 1), valid := true, holdLimit := 5 } online)).tim.sel =
      .freerun := by decide +kernel
/-- R183. -/
theorem test_setup_address : (after (.setupAddressWrite true 7) State.reset).dev.setupHigh = 7 := by decide +kernel
/-- R183: outside OFFLINE. -/
theorem test_setup_state : (after (.setupAddressWrite true 7) online).dev.lastError = .setupState := by decide +kernel
/-- R143, 7, Example: step 1, three outstanding across the wrap: the fetch is of position 14. -/
theorem test_request_tail :
    lastOp (after (.requestTail 1) { online with proc := { online.proc with tail := 65534, consumed := 65534 } }) =
      some (.requestFetch, 0x10380) := by decide +kernel
/-- 7, Example: step 3, 31 outstanding in a ring of 16. -/
theorem test_request_tail_range :
    (after (.requestTail 30) { online with proc := { online.proc with tail := 1, consumed := 65535 } }).dev.lastError =
      .tailRange := by decide +kernel
/-- 8, Example: step 7, the OVERFLOW takes the one position that returns and carries 3: kind 4, count 32, phase 1. -/
theorem test_ring_head_overflow :
    lastData (after (.ringHead 0 17)
      (withRing0 { base := 0x20000, size := 16, produced := 32, head := 16, armed := false, missed := 3, held := none })) =
      [0x84, 0, 0, 0, 3, 0, 0, 0, 0, 0, 0, 0, 0, 0, 0, 0] := by decide +kernel
/-- 8, Example: step 12, a head that would move back. -/
theorem test_ring_head_range :
    (after (.ringHead 0 20)
      (withRing0 { base := 0x20000, size := 16, produced := 36, head := 35, armed := false, missed := 0, held := none })
      ).dev.lastError = .headRange := by decide +kernel
/-- R181: two bytes of SETUP_LOW. -/
theorem test_register_width : (after (.registerWrite 0x00C 2 0) State.reset).dev.lastError = .writeWidth := by decide +kernel
/-- R181: STATUS is read-only. -/
theorem test_register_read_only : (after (.registerWrite 0x008 4 0) State.reset).dev.lastError = .writeReadOnly := by
  decide +kernel

/-! ### START's end and the fetch -/

/-- R188, R115: ONLINE, and the preset is added. -/
theorem test_setup_read_end :
    (let t := after (.setupReadEnd (.data block)) starting
     (t.dev.st, t.comp.ringCount, t.tim.counter)) = (.online, 2, 999) := by decide +kernel
/-- R188: a size that is no power of two. -/
theorem test_setup_invalid :
    (after (.setupReadEnd (.data (block.set 8 17)))
      starting).dev.cause = .setupInvalid := by
  decide +kernel
/-- R146. -/
theorem test_request_fetch :
    (after .requestFetch { online with proc := { online.proc with tail := 1 } }).proc.st = .fetching := by decide +kernel
/-- R146, R191. -/
theorem test_request_fetch_error : (after (.requestFetchError true) fetching).dev.cause = .requestFetch := by decide +kernel
/-- R149: BAD_KIND 0x10, consumed 1. -/
theorem test_bad_kind : (lastData (after (.badKind 0x0F (req [])) fetching)).take 4 = [0x81, 0x10, 0x01, 0x00] := by
  decide +kernel

/-! ### Requests -/

/-- R151. -/
theorem test_nop : lastData (after (.nop (req [])) fetching) =
    [0x81, 0x01, 0x01, 0, 0x1C, 0xA5, 0, 0, 0, 0, 0, 0, 0, 0, 0, 0] := by decide +kernel
/-- R151: a body byte that is not 0 is BAD_FIELD 0x11. -/
theorem test_nop_body : (lastData (after (.nop (req [(0x3F, 1, 1)])) fetching)).getD 1 0 = 0x11 := by decide +kernel
/-- R49: an enable enters SEARCHING. -/
theorem test_sethwy :
    (after (.sethwy (req [(0x08, 1, 5), (0x09, 1, 1), (0x0A, 1, 64)])) fetching).hwys[5].align = .searching := by
  decide +kernel
/-- R49: the value is the sum of the enabled slot counts. -/
theorem test_sethwy_value :
    (lastData (after (.sethwy (req [(0x08, 1, 5), (0x09, 1, 1), (0x0A, 1, 64)])) (withPort port fetching))).drop 8 =
      [96, 0, 0, 0, 0, 0, 0, 0] := by decide +kernel
/-- R15. -/
theorem test_connect :
    (after (.connect (req [(0x08, 1, 1), (0x09, 1, 3), (0x0A, 1, 2), (0x0D, 1, 0x7E)])) (withPort port fetching)).mc.targets =
      [(⟨1, 3⟩, .constant 0x7E)] := by decide +kernel
/-- R16: DISCONNECT of a slot past the slot count is NO_SLOT 0x13. -/
theorem test_disconnect :
    (lastData (after (.disconnect (req [(0x08, 1, 1), (0x09, 1, 32)])) (withPort port fetching))).getD 1 0 = 0x13 := by
  decide +kernel

/-- An OPEN of channel 9 for sending on H1:7 and H1:3. -/
def open9 : ReqRecord :=
  req [(0x08, 1, 9), (0x09, 1, 2), (0x0A, 1, 1), (0x0B, 1, 2), (0x0C, 1, 0x55), (0x0E, 2, 4), (0x10, 8, 0x9000),
    (0x18, 1, 7), (0x19, 1, 3)]

/-- The entry it stages. -/
def open9Params : OpenParams :=
  { dir := .tx, hwy := 1, slots := [7, 3], idle := 0x55, ringBase := 0x9000, ringSize := 4, complRing := 0 }

/-- The request processor's fetch with that OPEN staged. -/
def staged9 : State := { (withPort port fetching) with mc := { MapControl.reset with entries := [(9, .openEntry open9Params)] } }

/-- R27. -/
theorem test_open : (after (.openChannel open9) (withPort port fetching)).mc.entries = [(9, .openEntry open9Params)] := by
  decide +kernel
/-- R26: a second OPEN is CHANNEL_BUSY 0x16. -/
theorem test_open_busy : (lastData (after (.openChannel open9) staged9)).getD 1 0 = 0x16 := by decide +kernel
/-- R28: CLOSE withdraws a staged OPEN, UNSTAGED 0x03. -/
theorem test_close : (lastData (after (.closeChannel (req [(0x08, 1, 9)])) staged9)).getD 1 0 = 0x03 := by decide +kernel
/-- R29: a RESLOT of a staged OPEN changes its slots. -/
theorem test_reslot :
    (after (.reslot (req [(0x08, 1, 9), (0x0A, 1, 1), (0x0B, 1, 1), (0x18, 1, 2)])) staged9).mc.entries =
      [(9, .openEntry { open9Params with slots := [2] })] := by decide +kernel
/-- 10, Example: on an empty set, NOTHING_STAGED 0x05. -/
theorem test_commit_empty : (lastData (after (.commit (req [])) fetching)).getD 1 0 = 0x05 := by decide +kernel
/-- R31. -/
theorem test_commit : (after (.commit (req [])) staged9).proc.st = .waitingFrame := by decide +kernel
/-- R39. -/
theorem test_discard : (after (.discard (req [])) staged9).mc.entries = [] := by decide +kernel

/-- A SETREF that lists H1 and then REFB. -/
def setrefReq : ReqRecord :=
  req [(0x08, 1, 2), (0x0A, 1, 2), (0x0B, 1, 5), (0x0C, 2, 600), (0x0E, 1, 8), (0x14, 1, 0x11), (0x15, 1, 0x21)]

/-- R133: REFB is new, FAILED with pulse gap 3. -/
theorem test_setref :
    ((after (.setref setrefReq) fetching).tim.cands.map fun c => (c.src, c.st, c.gap)) =
      [(.hwy 1, .failed, 0), (.ref .refb, .failed, 3)] := by decide +kernel
/-- R128, R134: the selected REFA is removed, and H1 is QUALIFIED. -/
theorem test_setref_removes : (after (.setref setrefReq) (withTim locked fetching)).tim.sel = .acquiring (.hwy 1) := by
  decide +kernel
/-- R154: number, enabled, slot count and alignment ALIGNED 2. -/
theorem test_qhwy : (lastData (after (.qhwy (req [(0x08, 1, 1), (0x10, 8, 0x40)])) (withPort port fetching))).take 4 =
    [1, 1, 32, 2] := by decide +kernel
/-- R155: the slot list from 0x20. -/
theorem test_qchan :
    ((lastData (after (.qchan (req [(0x08, 1, 9), (0x10, 8, 0x40)])) (with9 rx fetching))).drop 0x20).take 3 = [7, 3, 0] := by
  decide +kernel
/-- R156: the active driver NONE, the prospective driver CHANNEL 9 by the staged OPEN's claim. -/
theorem test_qslot :
    (let d := lastData (after (.qslot (req [(0x08, 1, 1), (0x09, 1, 7), (0x10, 8, 0x40)])) staged9)
     [d.getD 2 9, d.getD 8 9, d.getD 0x0C 9, d.getD 0x0D 9]) = [2, 0, 3, 9] := by decide +kernel
/-- R157: the STATE view: LOCKED 2, REFA 0x20, two candidates. -/
theorem test_qtime : (lastData (after (.qtime (req [(0x08, 1, 1), (0x10, 8, 0x40)])) (withTim locked fetching))).take 4 =
    [1, 2, 0x20, 2] := by decide +kernel

/-- A query waits for its result write. -/
def waiting : State :=
  flying .resultWrite { online with proc := { online.proc with
    st := .waitingMemory, consumed := 1, tail := 1, hand := some { ring := 0, tag := 7, frame := 300000 } } }

/-- R152: OK with the frame number of the snapshot. -/
theorem test_result_write_end : (lastData (after (.resultWriteEnd .accepted) waiting)).drop 8 =
    [0xE0, 0x93, 0x04, 0x00, 0, 0, 0, 0] := by decide +kernel
/-- R152: MEMORY_ERROR 0x1A. -/
theorem test_result_write_fails : (lastData (after (.resultWriteEnd .error) waiting)).getD 1 0 = 0x1A := by decide +kernel

/-! ### Device frame events and arrivals -/

/-- R115. -/
theorem test_frame_counts : (after (.deviceFrameEvent plain) State.reset).tim.counter = 1 := by decide +kernel
/-- Highway 1 with idle byte 0xD5 and three slots of its map given. -/
def sending : State :=
  { (withPort { port with idle := 0xD5 } online) with
    map := online.map.set 1 [.none, .constant 0x7E, .connection 1 2] }

/-- 1, Example: CONSTANT, and idle for NONE. -/
theorem test_frame_sends :
    ((after (.deviceFrameEvent plain) sending).hwys[1].tx) = some [0xD5, 0x7E, 0x41] := by
  decide +kernel

/-- A COMMIT of that OPEN waits for the device frame event. -/
def committed : State :=
  { (withPort port online) with
    mc := { targets := [], entries := [(9, .openEntry open9Params)], inFlight := true }
    proc := { online.proc with
      st := .waitingFrame, consumed := 1, tail := 1, hand := some { ring := 0, tag := 7, frame := 0 } } }

/-- R72: the descriptor read of the channel that an OPEN makes PRIMING. -/
theorem test_apply : ((after (.apply plain) committed).chans[9].st, (after (.apply plain) committed).map[1].getD 7 .none) =
    (.priming, .channel 9) := by decide +kernel
/-- R35, R37, R148: the CHAN_CLOSED of a FAULTED channel, kind 3, event 6, OK, frame 1, and after it APPLIED 0x04,
consumed 1, tag 7, one entry, frame 1. -/
theorem test_apply_done :
    (after (.apply plain) { (with9 { rx with st := .faulted } committed) with
      mc := { targets := [], entries := [(9, .closeEntry)], inFlight := true } }).link.ops.map Op.data =
    [[0x83, 0x06, 9, 0, 0, 0, 0, 0, 1, 0, 0, 0, 0, 0, 0, 0], [0x81, 0x04, 0x01, 0, 7, 0, 0, 0, 1, 0, 0, 0, 1, 0, 0, 0]] := by
  decide +kernel

/-- A STOP has been taken and the processor is STOPPED. -/
def stopping : State :=
  { (with9 rx (withPort port online)) with
    dev := { online.dev with stopPending := true }, proc := { online.proc with st := .stopped } }

/-- R18, R90. -/
theorem test_stop_clear : ((after (.stopClearEvent plain) stopping).dev.st, (after (.stopClearEvent plain) stopping).chans[9].st) =
    (.stopping, .closing) := by decide +kernel
/-- R57: a third frame with two unread is a delete slip. -/
theorem test_arrival_slips :
    (after (.frameArrival 1 (List.replicate 32 0x42) true)
      (withPort { port with unread := [List.replicate 32 0x40, List.replicate 32 0x41] } online)).hwys[1].deletes = 1 := by
  decide +kernel
/-- R53: a frame of 31 bytes is a misframe. -/
theorem test_arrival_misframes :
    (after (.frameArrival 1 (List.replicate 31 0x42) true) (withPort port online)).hwys[1].misRun = 1 := by decide +kernel
/-- R54: the fourth event without a frame. -/
theorem test_hwy_silence :
    (after (.hwySilence 1 plain) (withPort { port with silence := 3 } online)).hwys[1].align = .searching := by decide +kernel
/-- R54, R167: HWY_LOST is event kind 1, subject 1. -/
theorem test_hwy_lost :
    (lastData (after (.hwyLost 1 plain) (withPort { Highway.reset with align := .searching, age := 63 } online))).take 3 =
      [0x83, 1, 1] := by decide +kernel
/-- R120: a pulse that ends a loss is the first arrival of a new window. -/
theorem test_reference_pulse :
    ((after (.referencePulse .refa) (withTim refaLost online)).tim.cands.map Cand.window) =
      [some { events := 0, arrivals := 1 }] := by decide +kernel
/-- R119, R128: the third event without a pulse fails REFA, and the QUALIFIED REFB is taken. -/
theorem test_reference_loss :
    (after (.referenceLoss .refa plain) (withTim refaSilent online)).tim.sel = .acquiring (.ref .refb) := by
  decide +kernel
/-- R120: 8017 arrivals against a limit of 16. -/
theorem test_drift_window_end :
    ((after (.driftWindowEnd (.ref .refb) plain) (withTim drifting online)).tim.cands.map Cand.drift) =
      [true] := by decide +kernel
/-- R122: the qualify time of 10 seconds is 80000 events. -/
theorem test_candidate_qualified :
    ((after (.candidateQualified (.ref .refb) plain) (withTim qualifying online)).tim.cands.map Cand.st) = [.qualified] := by
  decide +kernel
/-- R126. -/
theorem test_select_locked :
    (after (.selectLocked plain) (withTim { locked with sel := .acquiring (.ref .refa), acquire := 7999 } online)).tim.sel =
      .locked (.ref .refa) := by decide +kernel
/-- R127. -/
theorem test_holdover_valid : (after (.holdoverValid plain) (withTim { locked with lockedRun := 7999 } online)).tim.valid = true := by
  decide +kernel
/-- R129: a limit of 1 second. -/
theorem test_holdover_limit :
    (after (.holdoverLimit plain) (withTim holding online)).tim.sel = .freerun := by decide +kernel
/-- R130: a wait to restore of 0. -/
theorem test_wait_to_restore :
    (after (.waitToRestore plain) (withTim reverting online)).tim.sel = .acquiring (.ref .refa) := by decide +kernel

/-! ### The ends of operations -/

/-- R178, R191: a completion record write that times out. -/
theorem test_operation_timeout : (after (.operationTimeout 0) (flying (.recordWrite 0) online)).dev.cause = .completionWrite := by
  decide +kernel
/-- R195. -/
theorem test_late_answer : (after (.lateAnswer 3 .accepted) online).dev = online.dev := by decide +kernel

/-- The 32 bytes of a device-owned descriptor. -/
def descBytes (frames : Nat) : List Byte := layoutBytes 32 [(0x00, 1, 3), (0x0C, 2, frames), (0x10, 8, 0x5000), (0x18, 8, 0x100)]

/-- R73: RUNNING with the data read of frame 1 from the buffer. -/
theorem test_descriptor_read_end :
    lastOp (after (.descriptorReadEnd 0 (.data (descBytes 4))) (flying (.descRead 9 0) (with9 { tx with st := .priming } online))) =
      some (.dataRead 9 0, 0x5000) := by decide +kernel
/-- R95, R107: 0 frames requested is returned BAD 4. -/
theorem test_descriptor_bad :
    (lastData (after (.descriptorReadEnd 0 (.data (descBytes 0)))
      (flying (.descRead 9 0) (with9 { rx with st := .priming } online)))).take 2 = [2, 4] := by decide +kernel
/-- R75. -/
theorem test_data_read_end :
    (after (.dataReadEnd 0 (.data [0x10, 0x11]))
      (flying (.dataRead 9 0) (with9 { tx with due := some 0, readSeq := 1 } online))).chans[9].ready = some [0x10, 0x11] := by
  decide +kernel
/-- R79: the last data write lets the write-back out. -/
theorem test_data_write_end :
    lastOp (after (.dataWriteEnd 0 .accepted) (flying (.dataWrite 9 0) (with9 { rx with
      st := .starved, queue := [{ done1 with unaccepted := 1 }] } online))) =
      some (.writeBack 9 done1 false, 0x9000) := by decide +kernel
/-- R110: BUFFER_DONE kind 2, DONE 1, channel 9, cookie 0x100. -/
theorem test_write_back_end :
    lastData (after (.writeBackEnd 0 .accepted) (flying (.writeBack 9 done1 false) (with9 { rx with
      st := .starved, queue := [done1] } online))) =
      [0x82, 1, 9, 0, 0, 0, 0, 0, 0, 1, 0, 0, 0, 0, 0, 0] := by decide +kernel
/-- R97. -/
theorem test_write_back_advances :
    (after (.writeBackEnd 0 .accepted) (flying (.writeBack 9 done1 false) (with9 { rx with
      st := .starved, queue := [done1] } online))).chans[9].pos = 1 := by decide +kernel
/-- R84, R85: a host-owned descriptor ends the walk, and the channel is CLOSED. -/
theorem test_flush_read_end :
    (after (.flushReadEnd 0 (.data (List.replicate 32 0)))
      (flying (.flushRead 9 0) (with9 { rx with st := .closing, walk := .walking 0 } online))).chans[9].st = .closed := by
  decide +kernel
/-- R69. -/
theorem test_stale_operation_end :
    (after (.staleOperationEnd 0 .error) (discardedOp .stale (.dataRead 9 0) (with9 { tx with st := .faulted } online))).link.ops =
      [] := by decide +kernel
/-- R178. -/
theorem test_completion_write_end :
    (after (.completionWriteEnd 0 .accepted) (flying (.recordWrite 0) online)).link.ops = [] := by decide +kernel

/-! ### Own steps -/

/-- R79. -/
theorem test_write_back_issue :
    lastOp (after (.writeBackIssue 9) (with9 { rx with queue := [done1] } online)) = some (.writeBack 9 done1 false, 0x9000) := by
  decide +kernel
/-- R77: the lookahead index after 0. -/
theorem test_deferred_lookahead :
    lastOp (after (.deferredLookaheadRead 9) (with9 { rx with current := some (freshCopy (desc 0 4)), deferred := true } online)) =
      some (.descRead 9 1, 0x9020) := by decide +kernel
/-- R72. -/
theorem test_priming_read :
    lastOp (after (.primingRead 9) (with9 { rx with st := .priming, pos := 2 } online)) = some (.descRead 9 2, 0x9040) := by
  decide +kernel
/-- R86, R178, R195: bus mastering disabled, the read fails, and so does the CHAN_FAULT's write. -/
theorem test_priming_unsent :
    (let t := after (.primingRead 9)
       { (with9 { rx with st := .priming } online) with cfg := { State.reset.cfg with messages := true } }
     (t.chans[9].cause, t.dev.st, t.dev.cause, t.link.messages)) =
      (some (.operation .descriptorRead false), .halted, .completionWrite, []) := by decide +kernel
/-- R84. -/
theorem test_flush_walk :
    lastOp (after (.flushWalk 9) (with9 { rx with st := .closing, slots := [], pos := 3 } online)) =
      some (.flushRead 9 3, 0x9060) := by decide +kernel
/-- R85, R167: CHAN_CLOSED kind 6 with MEMORY_ERROR. -/
theorem test_chan_closed :
    (lastData (after (.chanClosed 9) (with9 { rx with st := .closing, slots := [], walk := .ended, closeFailed := true }
      online))).take 5 = [0x83, 6, 9, 0, 1] := by decide +kernel

/-- Ring 0 with a missed count, a held record and room. -/
def roomy (missed : Nat) (held : Option ReqDone) : State :=
  { withRing0 { base := 0x20000, size := 16, produced := 16, head := 2, armed := false, missed := missed, held := held } with
    proc := { online.proc with st := .waitingSpace } }

def heldDone : ReqDone := { status := .ok, consumed := 1, tag := 7, value := 0, frame := 0 }

/-- R171: count 16, so phase 0. -/
theorem test_overflow : (lastData (after (.overflow 0) (roomy 3 none))).take 5 = [0x04, 0, 0, 0, 3] := by decide +kernel
/-- R171. -/
theorem test_held_record : (after (.heldRecordPlaced 0) (roomy 0 (some heldDone))).proc.st = .idle := by decide +kernel
/-- R190. -/
theorem test_stopping_end :
    (after .stoppingEnd { online with dev := { online.dev with st := .stopping } }).dev.st = .offline := by decide +kernel
/-- R194. -/
theorem test_resetting_end :
    (after .resettingEnd { online with dev := { online.dev with st := .resetting } }).dev.st = .offline := by decide +kernel

/-- On an empty queue the block idles (log entry 1). -/
theorem test_idle : step State.reset = .next State.reset := rfl

end Sys2Proof.Tests
end

