-- ==== Sys2Proof/Tests/Witnesses.lean ====
section
/-! SUPPORT. For each statement of the provers that has hypotheses, states and operands that meet them together, a witness
for each clause and, where a clause has a range, at its boundary. -/

namespace Sys2Proof.Tests

set_option Elab.async false

open Sys2Proof Sys2Proof.Machine

/-! ### States that meet the statements' hypotheses -/

theorem settled_of {s : State} (h1 : s.dev.st ≠ .stopping) (h2 : s.dev.st ≠ .resetting) : Settled s :=
  ⟨fun g => h1 g.1, fun g => h2 g.1⟩

/-- With one operation in flight identifiers are distinct and given out. -/
theorem flying_linkInv (k : OpKind) (s : State) : LinkInv (flying k s) := by simp [LinkInv, flying, op]

theorem fetching_of {s : State} (h1 : s.cfg.busMaster = true) (h2 : s.dev.st = .online)
    (h3 : s.proc.st = .fetching) (h4 : s.link.ops = [op .requestFetch]) : Fetching (op .requestFetch) s :=
  ⟨h1, h2, h3, by simp [State.liveOpOf, h4, op]⟩

theorem timingInv_selected {s : State} {c : Cand} (h1 : s.tim.cands.length ≤ 4) (h2 : (s.tim.cands.map Cand.src).Nodup)
    (h3 : s.tim.selected? = some c.src) (h4 : c ∈ s.tim.cands) (h5 : c.st = .qualified) (h6 : s.tim.sel ≠ .holdover) :
    TimingInv s :=
  ⟨h1, h2, fun _ h => ⟨c, h4, Option.some.inj (h3.symm.trans h), h5⟩, fun h => absurd h h6⟩

/-- H1 selected and locked, with REFA above it FAILED. -/
def onHighway : Timing := twoCands { cand (.ref .refa) with st := .failed } (cand (.hwy 1)) (.locked (.hwy 1))

theorem onHighway_inv (s : State) : TimingInv (withTim onHighway s) :=
  timingInv_selected (c := cand (.hwy 1)) (by simp [withTim, onHighway, twoCands]) (by simp [withTim, onHighway, twoCands, cand]) rfl
    (by simp [withTim, onHighway, twoCands]) rfl (by simp [withTim, onHighway, twoCands])

/-- A request that passes the header checks wherever the layout has a ring. -/
theorem req_header {fields : List FieldVal} {s : State} (h : 0 < s.comp.ringCount) : HeaderPasses (req fields) s :=
  ⟨h, by simp [req], rfl⟩

/-- OFFLINE, with bus mastering enabled and a setup address. -/
def startable (low : Word32) : State := { online with dev := { Device.reset with setupLow := low } }

/-- The device in a state, with the processor STOPPED. -/
def device (d : DeviceState) : State :=
  { online with dev := { Device.reset with st := d }, proc := { online.proc with st := .stopped } }

/-- RESETTING with a record write still in flight. -/
def busy : State := flying (.recordWrite 0) (device .resetting)

/-- A STOP is pending in ONLINE. -/
def pendingStop : State := { online with dev := { online.dev with stopPending := true } }

/-- The request counts as given, in IDLE. -/
def counts (tail consumed : Count16) : State := { online with proc := { online.proc with tail := tail, consumed := consumed } }

theorem witness_StepRunsFront : ({ State.reset with pending := [.start] } : State).pending = .start :: [] := rfl

theorem witness_PowerOnAndConfiguration : Settled State.reset := settled_of (by decide) (by decide)

/-- A highway selected, with an operation in flight and with none. -/
theorem witness_DeviceReset : TimingInv (withTim onHighway fetching) ∧ TimingInv (withTim onHighway online) ∧
    (withTim onHighway fetching).tim.selected? = some (.hwy 1) ∧
    (withTim onHighway fetching).link.ops ≠ [] ∧ (withTim onHighway online).link.ops = [] :=
  ⟨onHighway_inv _, onHighway_inv _, rfl, by decide, rfl⟩

theorem witness_StartTaken_issues : Linked (startable 0x40) ∧ (startable 0x40).dev.st = .offline ∧
    ((startable 0x40).dev.setupHigh ++ (startable 0x40).dev.setupLow).toNat % 64 = 0 := ⟨rfl, rfl, by decide⟩

theorem witness_StartTaken_invalid : Settled (startable 0x41) ∧ (startable 0x41).dev.st = .offline ∧
    ((startable 0x41).dev.setupHigh ++ (startable 0x41).dev.setupLow).toNat % 64 ≠ 0 :=
  ⟨settled_of (by decide) (by decide), rfl, by decide⟩

theorem witness_StartTaken_unsent : Settled State.reset ∧ State.reset.dev.st = .offline ∧
    (State.reset.dev.setupHigh ++ State.reset.dev.setupLow).toNat % 64 = 0 ∧ State.reset.cfg.busMaster = false ∧
    State.reset.link.ops = [] := ⟨settled_of (by decide) (by decide), rfl, by decide, rfl, rfl⟩

theorem witness_StartTaken_ignored : Settled online ∧ online.dev.st ≠ .offline :=
  ⟨settled_of (by decide) (by decide), by decide⟩

theorem witness_StopTaken_online : (online.dev.st = .online ∧ online.dev.stopPending = false ∧ online.proc.st = .idle) ∧
    ((roomy 0 none).dev.st = .online ∧ (roomy 0 none).dev.stopPending = false ∧ (roomy 0 none).proc.st = .waitingSpace) ∧
    fetching.dev.st = .online ∧ fetching.dev.stopPending = false ∧ fetching.proc.st = .fetching := by decide

theorem witness_StopTaken_halted : ((device .halted).dev.st = .halted ∧ (device .halted).link.ops = []) ∧
    (flying (.recordWrite 0) (device .halted)).dev.st = .halted ∧
      (flying (.recordWrite 0) (device .halted)).link.ops ≠ [] := by decide

theorem busy_settled : Settled busy := ⟨by decide, by decide⟩

theorem witness_ControlTable : (Settled State.reset ∧ State.reset.dev.st = .offline) ∧
    (Settled online ∧ online.dev.st = .online ∧ online.dev.stopPending = false) ∧
    (Settled pendingStop ∧ pendingStop.dev.st = .online ∧ pendingStop.dev.stopPending = true) ∧
    (Settled (device .halted) ∧ (device .halted).dev.st = .halted) ∧ (Settled busy ∧ busy.dev.st = .resetting) ∧
    Settled (startable 0) ∧ (startable 0).dev.st = .offline ∧ (startable 0).cfg.busMaster = true ∧
    ((startable 0).dev.setupHigh ++ (startable 0).dev.setupLow).toNat % 64 = 0 :=
  ⟨⟨settled_of (by decide) (by decide), rfl⟩, ⟨settled_of (by decide) (by decide), rfl, rfl⟩,
    ⟨settled_of (by decide) (by decide), rfl, rfl⟩, ⟨settled_of (by decide) (by decide), rfl⟩, ⟨busy_settled, rfl⟩,
    settled_of (by decide) (by decide), rfl, rfl, by decide⟩

theorem witness_SetupAddress : (Settled State.reset ∧ State.reset.dev.st = .offline) ∧
    (Settled online ∧ online.dev.st = .online) ∧ (Settled busy ∧ busy.dev.st = .resetting) ∧
    ∃ t, exec .stop online = .next t :=
  ⟨⟨settled_of (by decide) (by decide), rfl⟩, ⟨settled_of (by decide) (by decide), rfl⟩, ⟨busy_settled, rfl⟩, _, rfl⟩

theorem counts_met (a b : Count16) : Linked (counts a b) ∧ Settled (counts a b) :=
  ⟨rfl, settled_of (by simp [counts, online]) (by simp [counts, online])⟩

/-- Each branch at a boundary: RESETTING, a reserved bit, OFFLINE, one past the ring size, one back, the whole ring, and
nothing outstanding. -/
theorem witness_RequestTailWrite :
    (Linked busy ∧ Settled busy ∧ busy.dev.st = .resetting) ∧ (0x00010000#32 &&& 0xFFFF0000 ≠ 0) ∧
    (Linked (startable 0) ∧ Settled (startable 0) ∧ (startable 0).dev.st ≠ .online) ∧
    (Linked (counts 2 0) ∧ Settled (counts 2 0)) ∧
    ((counts 2 0).proc.ringSize < ((17#32).setWidth 16 - (counts 2 0).proc.consumed).toNat) ∧
    (((1#32).setWidth 16 - (counts 2 0).proc.consumed).toNat < ((counts 2 0).proc.tail - (counts 2 0).proc.consumed).toNat) ∧
    ((counts 2 0).proc.st = .idle ∧ (counts 2 0).dev.stopPending = false ∧
      ((16#32).setWidth 16 - (counts 2 0).proc.consumed).toNat = (counts 2 0).proc.ringSize) ∧
    (0#32).setWidth 16 = (counts 0 0).proc.consumed :=
  ⟨⟨rfl, busy_settled, rfl⟩, by decide, ⟨rfl, settled_of (by decide) (by decide), by decide⟩, counts_met 2 0,
    by decide, by decide, by decide, by decide⟩

/-- Ring 0 full of 16 records, with what is dropped and held as given. -/
def fullRing (missed : Nat) (held : Option ReqDone) : State :=
  withRing0 { base := 0x20000, size := 16, produced := 16, head := 0, armed := false, missed := missed, held := held }

theorem witness_RingHeadWrite_refused : (Settled busy ∧ busy.dev.st = .resetting) ∧
    (0x00020000#32 &&& 0xFFFE0000 ≠ 0) ∧ (Settled (startable 0) ∧ (startable 0).dev.st ≠ .online) ∧
    (Settled (fullRing 0 none) ∧ (fullRing 0 none).dev.st = .online ∧ (fullRing 0 none).comp.ringCount ≤ (2 : RingId).val ∧
      ((fullRing 0 none).comp.rings[(0 : RingId)].produced - (fullRing 0 none).comp.rings[(0 : RingId)].head).toNat <
        ((17#32).setWidth 16 - (fullRing 0 none).comp.rings[(0 : RingId)].head).toNat) :=
  ⟨⟨busy_settled, rfl⟩, by decide, ⟨settled_of (by decide) (by decide), by decide⟩,
    settled_of (by decide) (by decide), by decide +kernel⟩

/-- The whole ring returned, by 16 without ARM and by 0x10010 with it, and ARM with records left, 0x10000. -/
theorem witness_RingHeadWrite_taken : (fullRing 0 none).dev.st = .online ∧
    (0 : RingId).val < (fullRing 0 none).comp.ringCount ∧ (fullRing 0 none).comp.rings[(0 : RingId)].missed = 0 ∧
    (fullRing 0 none).comp.rings[(0 : RingId)].held = none ∧
    [0x10#32, 0x10010#32, 0x10000#32].all (fun v => decide (v &&& 0xFFFE0000 = 0 ∧
      (v.setWidth 16 - (fullRing 0 none).comp.rings[(0 : RingId)].head).toNat ≤
        ((fullRing 0 none).comp.rings[(0 : RingId)].produced - (fullRing 0 none).comp.rings[(0 : RingId)].head).toNat)) := by
  decide +kernel

theorem fullRing_ring (missed : Nat) (held : Option ReqDone) : (fullRing missed held).comp.rings[(0 : RingId)] =
    { base := 0x20000, size := 16, produced := 16, head := 0, armed := false, missed := missed, held := held } := by
  simp [fullRing, withRing0]

/-- Records dropped and held, each with and without the other: no position returned, one, two, and all sixteen, each also
with ARM. -/
theorem witness_RingHeadFillsSpace : (∀ missed ≤ 65535, ∀ held,
      Linked (fullRing missed held) ∧ (fullRing missed held).comp.rings[(0 : RingId)].Ok ∧
      (fullRing missed held).dev.st = .online ∧ (0 : RingId).val < (fullRing missed held).comp.ringCount) ∧
    [0#32, 1#32, 2#32, 16#32, 0x10000#32, 0x10001#32, 0x10010#32].all (fun v => decide (v &&& 0xFFFE0000 = 0 ∧
      (v.setWidth 16 - 0#16).toNat ≤ (16#16 - 0#16).toNat)) := by
  refine ⟨fun m h d => ⟨rfl, ?_, rfl, Nat.zero_lt_two⟩, by decide +kernel⟩
  rw [fullRing_ring]
  exact ⟨by simp, by simp [Ring.unconsumed], fun _ => by simp [Ring.unconsumed], nofun, h⟩

/-- In RESETTING the bytes just below and just above CONTROL; elsewhere two bytes, an odd offset, the first unmapped word,
ID and STATUS. -/
theorem witness_RegisterWriteTests : (Settled busy ∧ busy.dev.st = .resetting ∧ (3 < 4 ∨ 8 < 3 + 1) ∧ (8 < 4 ∨ 8 < 8 + 1)) ∧
    Settled online ∧ online.dev.st ≠ .resetting ∧ (2 ≠ 4 ∨ 0x0C % 4 ≠ 0) ∧ (4 ≠ 4 ∨ 0x0D % 4 ≠ 0) ∧
    (0x024 < 0x028 ∧ 0x028 % 4 = 0) :=
  ⟨⟨busy_settled, rfl, by decide, by decide⟩, settled_of (by decide) (by decide), by decide, by decide, by decide, by decide⟩

/-- The last register and the first byte past it, and a read that begins inside a register. -/
theorem witness_StatusFields : (0x004 = 0x004 ∨ 0x014 ≤ 0x004) ∧ (0x014 = 0x004 ∨ 0x014 ≤ 0x014) ∧ 7 < 8 := by decide

theorem witness_SetupReadEnd : LinkInv starting ∧ starting.dev.st = .starting ∧
    starting.liveOpOf .setupRead = some (op .setupRead) ∧ setupOk (parseSetup block) = true ∧
    setupOk (parseSetup (block.set 8 17)) = false :=
  ⟨flying_linkInv _ _, rfl, by decide, by decide +kernel, by decide +kernel⟩

/-- A fetch, and a record write in ONLINE and where a STOPPING waits for it. -/
theorem witness_EntryToHalted : (LinkInv fetching ∧ fetching.liveOpOf .requestFetch = some (op .requestFetch)) ∧
    (∀ s ∈ [online, device .stopping], (flying (.recordWrite 3) s).liveOp (op (.recordWrite 3)).id = some (op (.recordWrite 3))) ∧
    (∀ s, LinkInv (flying (.recordWrite 3) s)) ∧ (op (.recordWrite 3)).kind = .recordWrite 3 ∧ WriteEnd.error ≠ .accepted :=
  ⟨⟨flying_linkInv _ _, by decide⟩, by decide +kernel, flying_linkInv _, rfl, by decide⟩

/-- Bus mastering disabled. -/
def cut (s : State) : State := { s with cfg := { s.cfg with busMaster := false } }

/-- One record outstanding, and as many as the ring holds. -/
theorem witness_NotSent_fetch : (let s := cut (counts 0 0)
     s.cfg.busMaster = false ∧ s.dev.st = .online ∧ s.proc.st = .idle ∧ s.dev.stopPending = false ∧
     [1#32, 16#32].all fun v => decide (v &&& 0xFFFF0000 = 0 ∧
       (v.setWidth 16 - s.proc.consumed).toNat ≤ s.proc.ringSize ∧
       (s.proc.tail - s.proc.consumed).toNat ≤ (v.setWidth 16 - s.proc.consumed).toNat ∧
       v.setWidth 16 ≠ s.proc.consumed)) := by decide +kernel

/-- The middle of a fetch that was sent before bus mastering was disabled, with completion ring 0 and stop pending as given. -/
def cutFetch (r : Ring) (stop : Bool) : State :=
  cut { fetching with
    dev := { fetching.dev with stopPending := stop }, comp := { fetching.comp with rings := fetching.comp.rings.set 0 r } }

/-- Ring 0 in any state, with space or full, and a STOP pending or not. -/
theorem witness_NotSent_done : (∀ r stop, (cutFetch r stop).cfg.busMaster = false ∧ (cutFetch r stop).dev.st = .online ∧
      (cutFetch r stop).proc.st = .fetching ∧ (cutFetch r stop).liveOpOf .requestFetch = some (op .requestFetch) ∧
      ∀ fields, HeaderPasses (req fields) (cutFetch r stop)) ∧
    (∀ i < 56, byteAt (req []).body i = 0) ∧ reqField (req [(0x08, 1, 2)]) 0x10 8 % 64 = 0 ∧
    reservedOk (req [(0x08, 1, 2)]) [(0x08, 1), (0x10, 8)] = true ∧ reqByte (req [(0x08, 1, 2)]) 0x08 = 2 :=
  ⟨fun _ _ => ⟨rfl, rfl, rfl, by simp [State.liveOpOf, cutFetch, cut, fetching, flying, op],
    fun _ => req_header (by simp [cutFetch, cut, fetching, flying, online])⟩, by decide +kernel⟩

theorem witness_NotSent_priming : (cut (with9 { rx with st := .priming } online)).cfg.busMaster = false ∧
    (cut (with9 { rx with st := .priming } online)).dev.st = .online ∧
    Primes 9 (cut (with9 { rx with st := .priming } online)) := by decide +kernel

theorem witness_NotSent_frame :
    (let s := cut (with9 { rx with current := some (freshCopy (desc 0 4)) } online)
     s.cfg.busMaster = false ∧ s.dev.st = .online ∧ NoStopClear s ∧ Untouched 9 s ∧
       s.chans[(9 : ChanId)].st = .running ∧ s.chans[(9 : ChanId)].dir = .rx ∧
       s.chans[(9 : ChanId)].current = some (freshCopy (desc 0 4)) ∧
       s.comp.rings[s.comp.eventRing].unconsumed < s.comp.rings[s.comp.eventRing].size) := by decide +kernel

/-! The requests: each state is in the middle of a fetch, and each request passes the header checks. -/

theorem fetching_met : Fetching (op .requestFetch) fetching := fetching_of rfl rfl rfl rfl
theorem port_met : Fetching (op .requestFetch) (withPort port fetching) := fetching_of rfl rfl rfl rfl
theorem staged9_met : Fetching (op .requestFetch) staged9 := fetching_of rfl rfl rfl rfl

theorem witness_HeaderChecks_kind : Fetching (op .requestFetch) fetching ∧ (0x00#8 = 0 ∨ 0x0E < (0x00#8).toNat) ∧
    (0x0F#8 = 0 ∨ 0x0E < (0x0F#8).toNat) := ⟨fetching_met, by decide, by decide⟩

/-- Ring 2 of a layout of two, flag bit 2, and the reserved byte. -/
theorem witness_HeaderChecks_header : Fetching (op .requestFetch) fetching ∧
    ¬HeaderPasses { req [] with ring := 2 } fetching ∧ ¬HeaderPasses { req [] with flags := 4 } fetching ∧
    ¬HeaderPasses { req [] with reserved := 1 } fetching :=
  ⟨fetching_met, by unfold HeaderPasses; decide, by unfold HeaderPasses; decide, by unfold HeaderPasses; decide⟩

/-- For each kind a body that fails: a byte past its fields, or a field one past its range. -/
theorem witness_BodyFails : Fetching (op .requestFetch) fetching ∧ (∀ fields, HeaderPasses (req fields) fetching) ∧
    (∀ c ∈ ([.nop, .commit, .discard] : List (ReqRecord → Instr)),
      (c (req [(0x08, 1, 1)]), false) ∈ bodyRanges fetching.comp.ringCount (req [(0x08, 1, 1)])) ∧
    ∀ p ∈ ([(.sethwy, [(0x08, 1, 16), (0x0A, 1, 32)]), (.sethwy, [(0x0A, 1, 33)]), (.connect, [(0x0A, 1, 3)]),
        (.connect, [(0x0A, 1, 1), (0x0B, 1, 16)]), (.connect, [(0x0A, 1, 2), (0x0C, 1, 1)]), (.disconnect, [(0x09, 1, 128)]),
        (.openChannel, [(0x08, 1, 128)]), (.closeChannel, [(0x08, 1, 128)]), (.reslot, [(0x0B, 1, 33)]),
        (.reslot, [(0x0B, 1, 2), (0x18, 1, 7), (0x19, 1, 7)]), (.reslot, [(0x0B, 1, 1), (0x19, 1, 7)]),
        (.setref, [(0x08, 1, 5)]), (.setref, [(0x08, 1, 1), (0x0A, 1, 1), (0x0E, 1, 65), (0x14, 1, 0x20)]),
        (.qhwy, [(0x08, 1, 16)]), (.qchan, [(0x10, 8, 63)]), (.qslot, [(0x09, 1, 128)]), (.qtime, [(0x08, 1, 3)])] :
        List ((ReqRecord → Instr) × List FieldVal)),
      (p.1 (req p.2), false) ∈ bodyRanges fetching.comp.ringCount (req p.2) :=
  ⟨fetching_met, fun _ => req_header (by decide), by decide +kernel, by decide +kernel⟩

/-- While a COMMIT is in flight. -/
theorem witness_NopCompletes_waits : Settled committed ∧ committed.proc.st = .waitingFrame :=
  ⟨settled_of (by decide) (by decide), rfl⟩

theorem witness_DiscardEmpties_waits : Settled committed ∧ committed.proc.st = .waitingFrame :=
  ⟨settled_of (by decide) (by decide), rfl⟩

theorem witness_NopCompletes : Fetching (op .requestFetch) fetching ∧ HeaderPasses (req []) fetching ∧
    HeaderPasses (req [(0x3F, 1, 1)]) fetching ∧ (∀ i < 56, byteAt (req []).body i = 0) ∧
    ∃ i < 56, byteAt (req [(0x3F, 1, 1)]).body i ≠ 0 :=
  ⟨fetching_met, req_header (by decide), req_header (by decide), by decide +kernel, 55, by decide, by decide +kernel⟩

/-- SETHWY of H1 with 32 slots, and one that disables it. -/
def sethwyOn (slots : Nat) : ReqRecord := req [(0x08, 1, 1), (0x09, 1, 1), (0x0A, 1, slots)]
def sethwyOff : ReqRecord := req [(0x08, 1, 1), (0x0A, 1, 32)]

/-- Nine highways ALIGNED with 992 slots in all, of which H1 has 32. -/
def crowded : State :=
  { fetching with hwys := Vector.ofFn fun h : HwyId =>
      if h.val = 0 then { port with slotCount := 64 }
      else if h.val = 1 then port
      else if h.val < 9 then { port with slotCount := 128 }
      else .reset }

/-- A body that passes its checks in a layout of two rings. -/
theorem passes {c : Instr} {r : ReqRecord} {s : State} (h : s.comp.ringCount = 2) (hb : (c, true) ∈ bodyRanges 2 r) :
    BodyPasses c r s := by
  unfold BodyPasses
  rw [h]
  exact hb

theorem witness_SethwyCarriedOut_enable : Fetching (op .requestFetch) fetching ∧ HeaderPasses (sethwyOn 128) fetching ∧
    BodyPasses (.sethwy (sethwyOn 128)) (sethwyOn 128) fetching ∧
    fetching.hwys[reqHwy (sethwyOn 128) 0x08].align ≠ .aligned :=
  ⟨fetching_met, req_header (by decide), passes rfl (by decide +kernel), by decide +kernel⟩

theorem witness_SethwyCarriedOut_bytes : Fetching (op .requestFetch) (withPort port fetching) ∧
    HeaderPasses (sethwyOn 32) (withPort port fetching) ∧
    BodyPasses (.sethwy (sethwyOn 32)) (sethwyOn 32) (withPort port fetching) ∧ reqByte (sethwyOn 32) 0x09 = 1 ∧
    reqByte (sethwyOn 32) 0x0A = (withPort port fetching).hwys[reqHwy (sethwyOn 32) 0x08].slotCount :=
  ⟨port_met, req_header (by decide), passes rfl (by decide +kernel), by decide +kernel⟩

theorem witness_SethwyCarriedOut_inUse : Fetching (op .requestFetch) (with9 rx (withPort port fetching)) ∧
    HeaderPasses sethwyOff (with9 rx (withPort port fetching)) ∧
    BodyPasses (.sethwy sethwyOff) sethwyOff (with9 rx (withPort port fetching)) ∧
    (with9 rx (withPort port fetching)).hwyInUse (reqHwy sethwyOff 0x08) = true :=
  ⟨fetching_of rfl rfl rfl rfl, req_header (by decide), passes rfl (by decide +kernel), by decide +kernel⟩

theorem witness_SethwyCarriedOut_budget : Fetching (op .requestFetch) crowded ∧ HeaderPasses (sethwyOn 128) crowded ∧
    BodyPasses (.sethwy (sethwyOn 128)) (sethwyOn 128) crowded ∧ reqByte (sethwyOn 128) 0x09 = 1 ∧
    1024 < budgetUsed (crowded.hwys.set (reqHwy (sethwyOn 128) 0x08)
      (sethwyPort (sethwyOn 128) crowded.hwys[reqHwy (sethwyOn 128) 0x08])) :=
  ⟨fetching_of rfl rfl rfl rfl, req_header (by decide), passes rfl (by decide +kernel), by decide +kernel⟩

/-- A Disable of the selected highway, and a Resize that brings the sum to 1024 exactly. -/
theorem witness_SethwyLosesAlignment :
    (Fetching (op .requestFetch) (withTim onHighway (withPort port fetching)) ∧
      HeaderPasses sethwyOff (withTim onHighway (withPort port fetching)) ∧
      BodyPasses (.sethwy sethwyOff) sethwyOff (withTim onHighway (withPort port fetching)) ∧
      TimingInv (withTim onHighway (withPort port fetching)) ∧
      (withTim onHighway (withPort port fetching)).hwys[reqHwy sethwyOff 0x08].align = .aligned ∧
      reqByte sethwyOff 0x09 = 0 ∧ (withTim onHighway (withPort port fetching)).hwyInUse (reqHwy sethwyOff 0x08) = false) ∧
    Fetching (op .requestFetch) crowded ∧ HeaderPasses (sethwyOn 64) crowded ∧
      BodyPasses (.sethwy (sethwyOn 64)) (sethwyOn 64) crowded ∧
      crowded.hwys[reqHwy (sethwyOn 64) 0x08].align = .aligned ∧
      reqByte (sethwyOn 64) 0x0A ≠ crowded.hwys[reqHwy (sethwyOn 64) 0x08].slotCount ∧
      crowded.hwyInUse (reqHwy (sethwyOn 64) 0x08) = false ∧
      budgetUsed (crowded.hwys.set (reqHwy (sethwyOn 64) 0x08)
        (sethwyPort (sethwyOn 64) crowded.hwys[reqHwy (sethwyOn 64) 0x08])) = 1024 :=
  ⟨⟨fetching_of rfl rfl rfl rfl, req_header (by decide), passes rfl (by decide +kernel), onHighway_inv _, by decide +kernel⟩,
    fetching_of rfl rfl rfl rfl, req_header (by decide), passes rfl (by decide +kernel), by decide +kernel⟩

/-- A CONNECT of H1 slot `n` to a source slot, and one to a constant. -/
def connectTo (n src slot : Nat) : ReqRecord := req [(0x08, 1, 1), (0x09, 1, n), (0x0A, 1, 1), (0x0B, 1, src), (0x0C, 1, slot)]
def connectConst : ReqRecord := req [(0x08, 1, 1), (0x09, 1, 31), (0x0A, 1, 2), (0x0D, 1, 0x7E)]

/-- The staging set holds 256 entries, none of them of H1. -/
def fullSet : State :=
  { (withPort port fetching) with mc := { MapControl.reset with
      targets := (List.range 256).map fun k => (⟨Fin.ofNat 16 (2 + k / 128), k % 128⟩, .none) } }

/-- The three forms, and the branches: no highway, slot 32, no source highway, source slot 32, a busy slot, a full set, and
slot 31. -/
theorem witness_ConnectAndDisconnect : Fetching (op .requestFetch) (withPort port fetching) ∧
    HeaderPasses (connectTo 31 1 31) (withPort port fetching) ∧ HeaderPasses connectConst (withPort port fetching) ∧
    (BodyPasses (.connect (connectTo 31 1 31)) (connectTo 31 1 31) (withPort port fetching) ∧
      BodyPasses (.connect connectConst) connectConst (withPort port fetching) ∧
      BodyPasses (.disconnect (req [(0x08, 1, 1), (0x09, 1, 31)])) (req [(0x08, 1, 1), (0x09, 1, 31)]) (withPort port fetching)) ∧
    fetching.hwys[(1 : HwyId)].align = .disabled ∧ (withPort port fetching).hwys[(1 : HwyId)].align ≠ .disabled ∧
    (withPort port fetching).hwys[(1 : HwyId)].slotCount = reqByte (connectTo 32 1 31) 0x09 ∧
    (withPort port fetching).hwys[reqHwy (connectTo 31 2 31) 0x0B].align = .disabled ∧
    (withPort port fetching).hwys[reqHwy (connectTo 31 1 32) 0x0B].slotCount = reqByte (connectTo 31 1 32) 0x0C ∧
    (staged9.prospective none 1 7).1 = .channel 9 ∧
    lookupKey ⟨1, 31⟩ fullSet.mc.targets = none ∧ entryCount fullSet = 256 :=
  ⟨port_met, req_header (by decide), req_header (by decide),
    ⟨passes rfl (by decide +kernel), passes rfl (by decide +kernel), passes rfl (by decide +kernel)⟩, by decide +kernel⟩

theorem fullSet_met : Fetching (op .requestFetch) fullSet := fetching_of rfl rfl rfl rfl

/-- Channel 9 has a staged entry, or a state, that is given. -/
def stagedAs (e : ChanEntry) : State :=
  { (with9 rx (withPort port fetching)) with mc := { MapControl.reset with entries := [(9, e)] } }
def chan9 (st : ChanState) : State := with9 { rx with st := st } (withPort port fetching)

theorem stagedAs_met (e : ChanEntry) : Fetching (op .requestFetch) (stagedAs e) := fetching_of rfl rfl rfl rfl
theorem chan9_met (st : ChanState) : Fetching (op .requestFetch) (chan9 st) := fetching_of rfl rfl rfl rfl

theorem witness_OpenStages : Fetching (op .requestFetch) (withPort port fetching) ∧ Fetching (op .requestFetch) staged9 ∧
    Fetching (op .requestFetch) fullSet ∧ HeaderPasses open9 (withPort port fetching) ∧
    BodyPasses (.openChannel open9) open9 (withPort port fetching) ∧
    (lookupKey 9 staged9.mc.entries ≠ none ∧
      lookupKey 9 fullSet.mc.entries = none ∧ fullSet.chans[(9 : ChanId)].st = .closed ∧
      slotsFailure fetching 9 .tx 1 [7, 3] = some .noHighway ∧ slotsFailure fullSet 9 .tx 1 [7, 3] = none ∧
      slotsFailure (withPort port fetching) 9 .tx 1 [31, 32] = some .noSlot ∧
      entryCount fullSet = 256 ∧ entryCount (withPort port fetching) = 0) :=
  ⟨port_met, staged9_met, fullSet_met, req_header (by decide), passes rfl (by decide +kernel), by decide +kernel⟩

def close9 : ReqRecord := req [(0x08, 1, 9)]

theorem witness_CloseStages : Fetching (op .requestFetch) staged9 ∧ (∀ e, Fetching (op .requestFetch) (stagedAs e)) ∧
    (∀ st, Fetching (op .requestFetch) (chan9 st)) ∧ HeaderPasses close9 fetching ∧
    (∀ s : State, s.comp.ringCount = 2 → BodyPasses (.closeChannel close9) close9 s) ∧
    lookupKey (reqChan close9) staged9.mc.entries = some (.openEntry open9Params) ∧
    (∀ e ∈ [ChanEntry.closeEntry, .reslotEntry 1 [7]], lookupKey (reqChan close9) (stagedAs e).mc.entries = some e) ∧
    (∀ st ∈ [ChanState.closed, .closing, .running, .faulted], lookupKey (reqChan close9) (chan9 st).mc.entries = none ∧
      (chan9 st).chans[reqChan close9].st = st) :=
  ⟨staged9_met, stagedAs_met, chan9_met, req_header (by decide), fun _ h => passes h (by decide +kernel),
    by decide +kernel⟩

def reslot9 : ReqRecord := req [(0x08, 1, 9), (0x0A, 1, 1), (0x0B, 1, 1), (0x18, 1, 31)]

theorem witness_ReslotStages : Fetching (op .requestFetch) staged9 ∧ (∀ e, Fetching (op .requestFetch) (stagedAs e)) ∧
    (∀ st, Fetching (op .requestFetch) (chan9 st)) ∧ HeaderPasses reslot9 fetching ∧
    (∀ s : State, s.comp.ringCount = 2 → BodyPasses (.reslot reslot9) reslot9 s) ∧
    (lookupKey (reqChan reslot9) staged9.mc.entries = some (.openEntry open9Params) ∧
      slotsFailure staged9 9 .tx 1 (reqSlots reslot9) = none) ∧
    (∀ e ∈ [ChanEntry.closeEntry, .reslotEntry 1 [7]], lookupKey (reqChan reslot9) (stagedAs e).mc.entries = some e) ∧
    (∀ st ∈ [ChanState.closed, .closing, .running, .faulted], lookupKey (reqChan reslot9) (chan9 st).mc.entries = none ∧
      (chan9 st).chans[reqChan reslot9].st = st) :=
  ⟨staged9_met, stagedAs_met, chan9_met, req_header (by decide), fun _ h => passes h (by decide +kernel),
    by decide +kernel⟩

theorem witness_CommitTaken : Fetching (op .requestFetch) fetching ∧ Fetching (op .requestFetch) staged9 ∧
    HeaderPasses (req []) fetching ∧ HeaderPasses (req []) staged9 ∧ (∀ i < 56, byteAt (req []).body i = 0) ∧
    entryCount fetching = 0 ∧ entryCount staged9 ≠ 0 :=
  ⟨fetching_met, staged9_met, req_header (by decide), req_header (by decide), by decide +kernel⟩

theorem witness_DiscardEmpties : Fetching (op .requestFetch) fullSet ∧ HeaderPasses (req []) fullSet ∧
    ∀ i < 56, byteAt (req []).body i = 0 := ⟨fullSet_met, req_header (by decide), by decide +kernel⟩

/-- A SETREF that lists REFB and REFA. -/
def setrefKeeps : ReqRecord :=
  req [(0x08, 1, 2), (0x0A, 1, 1), (0x0B, 1, 255), (0x0C, 2, 65535), (0x0E, 1, 64), (0x14, 1, 0x21), (0x15, 1, 0x20)]

theorem lockedFetch_met : Fetching (op .requestFetch) (withTim locked fetching) := fetching_of rfl rfl rfl rfl

theorem locked_selected {src : Source} (h : locked.selected? = some src) : src = .ref .refa := by
  cases h
  rfl

theorem witness_SetrefReplaces_keeps : Fetching (op .requestFetch) (withTim locked fetching) ∧
    HeaderPasses setrefKeeps (withTim locked fetching) ∧ BodyPasses (.setref setrefKeeps) setrefKeeps (withTim locked fetching) ∧
    ∀ src, (withTim locked fetching).tim.selected? = some src → src ∈ setrefSources setrefKeeps :=
  ⟨lockedFetch_met, req_header (by decide), passes rfl (by decide +kernel), fun _ h => locked_selected h ▸ by decide +kernel⟩

/-- A SETREF that lists REFB alone, with a holdover limit of 0 and of 1. -/
def setrefB (limit : Nat) : ReqRecord := req [(0x08, 1, 1), (0x0A, 1, 1), (0x0C, 2, limit), (0x0E, 1, 1), (0x14, 1, 0x21)]

/-- With H1 QUALIFIED in the list that is set, and with REFB alone. -/
theorem witness_SetrefReplaces_removes : Fetching (op .requestFetch) (withTim locked fetching) ∧
    (withTim locked fetching).tim.selected? = some (.ref .refa) ∧
    ∀ r ∈ [setrefReq, setrefB 0, setrefB 1], HeaderPasses r (withTim locked fetching) ∧
      BodyPasses (.setref r) r (withTim locked fetching) ∧ .ref .refa ∉ setrefSources r :=
  ⟨lockedFetch_met, rfl, by unfold HeaderPasses BodyPasses; decide +kernel⟩

/-- Each kind of target entry, a claim by an OPEN and by a RESLOT, a release by each, and none of them. -/
theorem witness_ProspectiveDriver :
    (∀ x ∈ [Target.none, .connection 1 31, .constant 0x7E],
      lookupKey (⟨1, 7⟩ : SlotRef) [((⟨1, 7⟩ : SlotRef), x)] = some x) ∧
    lookupKey ⟨1, 7⟩ staged9.mc.targets = none ∧
    ((9, .openEntry open9Params) ∈ staged9.mc.entries ∧ open9Params.dir = .tx ∧ open9Params.hwy = 1 ∧ 7 ∈ open9Params.slots) ∧
    (∀ e ∈ [ChanEntry.closeEntry, .reslotEntry 1 [5]],
      let s := { (with9 tx (withPort port fetching)) with mc := { MapControl.reset with entries := [(9, e)] } }
      (9, e) ∈ s.mc.entries ∧ s.chans[(9 : ChanId)].dir = .tx ∧ s.chans[(9 : ChanId)].hwy = 1 ∧
        7 ∈ s.chans[(9 : ChanId)].slots) ∧
    online.mc.entries = [] ∧ online.mc.targets = [] := by decide +kernel

/-- H1 and H2 enabled; H1 slot 5 carries H2 slot 31, with a DISCONNECT of it staged. -/
def replaced : State :=
  { fetching with
    hwys := (fetching.hwys.set 1 port).set 2 port
    map := (fetching.map.set 1 ((List.replicate 32 .none).set 5 (.connection 2 31))).set 2 (List.replicate 32 .none)
    mc := { MapControl.reset with targets := [(⟨1, 5⟩, .none)] } }

/-- A use and none; a source of the active map alone is none, so that a SETHWY may disable it; with nothing staged it is one. -/
theorem witness_HighwayUse : (with9 rx (withPort port fetching)).hwyInUse 1 = true ∧ fetching.hwyInUse 1 = false ∧
    (replaced.prospective none 1 5).1 = .none ∧ replaced.hwyInUse 2 = false ∧
    ({ replaced with mc := MapControl.reset } : State).hwyInUse 2 = true ∧
    (after (.sethwy (req [(0x08, 1, 2), (0x0A, 1, 32)])) replaced).hwys[(2 : HwyId)].align = .disabled := by
  decide +kernel

/-- A query body, at the top of each range. -/
def query (a b : Nat) : ReqRecord := req [(0x08, 1, a), (0x09, 1, b), (0x10, 8, 64)]

theorem witness_QueriesWrite : Fetching (op .requestFetch) (withPort port fetching) ∧
    (∀ a b, HeaderPasses (query a b) (withPort port fetching)) ∧
    ((∀ p ∈ [(15, 0), (127, 0), (15, 127), (1, 31), (1, 32), (1, 0), (2, 0)],
        reqField (query p.1 p.2) 0x10 8 % 64 = 0 ∧ reservedOk (query p.1 p.2) [(0x08, 2), (0x10, 8)] = true) ∧
      (∀ a ∈ [1, 2, 15, 127], reservedOk (query a 0) [(0x08, 1), (0x10, 8)] = true ∧ reqByte (query a 0) 0x08 = a) ∧
      reqByte (query 15 127) 0x09 = 127 ∧ (withPort port fetching).hwys[reqHwy (query 15 127) 0x08].align = .disabled ∧
      (withPort port fetching).hwys[reqHwy (query 1 32) 0x08].slotCount = reqByte (query 1 32) 0x09) :=
  ⟨port_met, fun _ _ => req_header (by decide), by decide +kernel⟩

theorem witness_QueriesWrite_ends : Linked waiting ∧ LinkInv waiting ∧ waiting.dev.st = .online ∧
    waiting.proc.hand = some { ring := 0, tag := 7, frame := 300000 } ∧
    waiting.liveOpOf .resultWrite = some (op .resultWrite) := ⟨rfl, flying_linkInv _ _, rfl, rfl, by decide +kernel⟩

/-- Four candidates, the most a list holds. -/
theorem witness_RecordLayouts :
    ({ Timing.reset with cands := [cand (.hwy 0), cand (.hwy 15), cand (.ref .refa), cand (.ref .refb)] } : Timing).cands.length ≤ 4 := by
  decide

/-! Device frame events -/

theorem port_works (p : Highway) : Working (withPort p online) := ⟨rfl, rfl⟩
theorem tim_works (t : Timing) : Working (withTim t online) := ⟨rfl, rfl⟩
theorem chan_works (ch : Chan) : Working (with9 ch online) := ⟨rfl, rfl⟩
theorem op_works {s : State} (k : OpKind) (h : Working s) : Working (flying k s) := ⟨h.linked, h.online⟩

/-- Three silent events, an age of 63, and a frame to repeat after two silent events; with no STOP, with one pending, and at
the STOP clear event. -/
theorem witness_PortsAtFrameEvent : (NoStopClear (withPort { port with unread := [], silence := 2 } online) ∧
      NoStopClear { fetching with dev := { fetching.dev with stopPending := true } } ∧ ¬NoStopClear stopping) ∧
    ((withPort { port with silence := 3 } online).hwys[(1 : HwyId)].align = .aligned ∧
      4 ≤ (withPort { port with silence := 3 } online).hwys[(1 : HwyId)].silence + 1) ∧
    ((withPort { Highway.reset with align := .searching, age := 63 } online).hwys[(1 : HwyId)].align = .searching ∧
      64 ≤ (withPort { Highway.reset with align := .searching, age := 63 } online).hwys[(1 : HwyId)].age + 1) ∧
    (let s := withPort { port with unread := [], silence := 2 } online
     s.mc.inFlight = false ∧ s.comp.rings[s.comp.eventRing].missed = 0 ∧ s.hwys[(1 : HwyId)].align = .aligned ∧
       s.hwys[(1 : HwyId)].silence + 1 < 4 ∧ s.hwys[(1 : HwyId)].unread = [] ∧ s.hwys[(1 : HwyId)].last ≠ none ∧
       s.hwys[(1 : HwyId)].latch = false ∧ s.chans[(9 : ChanId)].st ≠ .running ∧ s.chans[(9 : ChanId)].st ≠ .starved) ∧
    ∀ p, Working (withPort p online) := by
  refine ⟨by decide +kernel, by decide +kernel, by decide +kernel, by decide +kernel, port_works⟩

/-- Highway 1 with channel 9 as its slot 3's driver. -/
def sendingBy (ch : Chan) : State := { (with9 ch sending) with map := online.map.set 1 [.none, .none, .none, .channel 9] }

theorem witness_SendFrames : (sending.dev.stopPending = false ∧ sending.mc.inFlight = false ∧
      sending.hwys[(0 : HwyId)].align = .disabled ∧ sending.hwys[(1 : HwyId)].align ≠ .disabled ∧
      sending.map[(1 : HwyId)][0]? = some .none ∧ sending.map[(1 : HwyId)][1]? = some (.constant 0x7E) ∧
      sending.map[(1 : HwyId)][2]? = some (.connection 1 2) ∧ 2 < sending.hwys[(1 : HwyId)].slotCount) ∧
    (let s := sendingBy { tx with ready := some [0x10, 0x11] }
     s.dev.stopPending = false ∧ s.mc.inFlight = false ∧ s.map[(1 : HwyId)][3]? = some (.channel 9) ∧
       s.chans[(9 : ChanId)].st = .running ∧ s.chans[(9 : ChanId)].ready = some [0x10, 0x11] ∧
       3 ∈ s.chans[(9 : ChanId)].slots ∧ [0x10#8, 0x11].length = s.chans[(9 : ChanId)].slots.length) ∧
    (sendingBy tx).chans[(9 : ChanId)].ready = none ∧ (sendingBy { tx with st := .starved }).chans[(9 : ChanId)].st ≠ .running := by
  decide +kernel

/-- The apply of an OPEN of channel 9, which then drives H1 slot 7; and the STOP clear event. -/
theorem witness_SendFrames_events : (committed.mc.inFlight = true ∧ lookupKey 9 committed.mc.entries ≠ none ∧
      committed.hwys[(1 : HwyId)].align ≠ .disabled ∧
      (after (.deviceFrameEvent plain) committed).map[(1 : HwyId)][7]? = some (.channel 9)) ∧
    stopping.dev.st = .online ∧ stopping.dev.stopPending = true ∧ stopping.proc.st = .stopped ∧ stopping.mc.inFlight = false ∧
    stopping.hwys[(1 : HwyId)].align ≠ .disabled ∧ stopping.map[(1 : HwyId)].length = 32 := by
  decide +kernel

theorem staysGood_ref {s : State} {c : Cand} {r : RefInput} {w : Window} (h1 : c.src = .ref r) (h2 : c.gap + 1 < 3)
    (h3 : c.drift = false) (h4 : c.window = some w) (h5 : w.events + 1 < 8000) : StaysGood s c := by
  refine ⟨by rw [h1]; exact h2, h3, fun v hv => ?_⟩
  rw [h4] at hv
  cases hv
  exact .inl h5

/-- A loss; a window that ends, of a reference and of a highway, within the limit and past it; the end of the qualify time;
and each state with a good source, the qualified time at its top. -/
theorem witness_CandidatesAtFrameEvent :
    (({ cand (.ref .refa) with gap := 2 } : Cand) ∈ (withTim refaSilent online).tim.cands ∧
      ((withTim refaSilent online).tim.cands.map Cand.src).Nodup) ∧
    (({ cand (.ref .refb) with window := some { events := 7999, arrivals := 8017 } } : Cand) ∈
        (withTim drifting online).tim.cands ∧ (cand (.ref .refb)).gap + 1 < 3 ∧
      8000 + (withTim drifting online).tim.driftLimit < 8017) ∧
    ((withTim drifting (withPort { port with silence := 2 } online)).hwys[(1 : HwyId)].align = .aligned ∧
      (withTim drifting (withPort { port with silence := 2 } online)).hwys[(1 : HwyId)].silence + 1 < 4) ∧
    (({ cand (.ref .refb) with st := .qualifying, qualCount := 79999 } : Cand) ∈ (withTim qualifying online).tim.cands ∧
      (withTim qualifying online).tim.qualifyTime * 8000 = 79999 + 1) ∧
    ∀ st n m, StaysGood online { cand (.ref .refb) with st := st, qualCount := n, qualTime := m } :=
  ⟨by decide +kernel, by decide +kernel, by decide +kernel, by decide +kernel,
    fun _ _ _ => staysGood_ref (w := { events := 10, arrivals := 10 }) rfl (by simp [cand]) rfl rfl (by decide)⟩

/-- REFA alone, in ACQUIRING or LOCKED with the counts given. -/
def alone (sel : Selector) (acquire run : Nat) : State :=
  withTim { oneCand (cand (.ref .refa)) with sel := sel, acquire := acquire, lockedRun := run } online

theorem cand_good (s : State) (r : RefInput) : StaysGood s (cand (.ref r)) :=
  staysGood_ref (w := { events := 10, arrivals := 10 }) rfl (by simp [cand]) rfl rfl (by decide)

/-- REFB, QUALIFIED below a FAILED REFA, with no candidate selected. -/
def waitingRef (sel : Selector) : State :=
  withTim { Timing.reset with
    cands := [{ cand (.ref .refa) with st := .failed }, cand (.ref .refb)], sel := sel, valid := true } online

/-- From FREERUN, and from HOLDOVER. -/
theorem witness_SelectorAtFrameEvent_acquires : ∀ sel ∈ [Selector.freerun, .holdover], TimingInv (waitingRef sel) ∧
    (waitingRef sel).tim.cands = [{ cand (.ref .refa) with st := .failed }] ++ cand (.ref .refb) :: [] ∧
    StaysGood (waitingRef sel) (cand (.ref .refb)) ∧ (cand (.ref .refb)).st = .qualified ∧ (waitingRef sel).tim.sel = sel := by
  intro sel h
  refine ⟨⟨by simp [waitingRef, withTim], by simp [waitingRef, withTim, cand], ?_, fun _ => rfl⟩, rfl, cand_good _ _, rfl, rfl⟩
  rcases List.mem_cons.1 h with rfl | h
  · simp [waitingRef, withTim, Timing.selected?]
  · rcases List.mem_cons.1 h with rfl | h
    · simp [waitingRef, withTim, Timing.selected?]
    · cases h

/-- The ordinary counts, one below each limit, and a run that has reached it. -/
theorem witness_SelectorAtFrameEvent_counts :
    (TimingInv (alone (.acquiring (.ref .refa)) 7998 0) ∧ (alone (.acquiring (.ref .refa)) 7998 0).tim.acquire + 1 < 8000) ∧
    (∀ run ∈ [7998, 7999, 8000], TimingInv (alone (.locked (.ref .refa)) 0 run)) ∧
    (∀ sel acquire run, StaysGood (alone sel acquire run) (cand (.ref .refa)) ∧
      (alone sel acquire run).tim.revertive = false ∧ cand (.ref .refa) ∈ (alone sel acquire run).tim.cands) ∧
    (let s := withTim { holding with elapsed := 7998 } online
     TimingInv s ∧ s.tim.sel = .holdover ∧ s.tim.cands = [] ∧ s.tim.elapsed + 1 < s.tim.holdLimit * 8000) :=
  ⟨⟨timingInv_selected (c := cand (.ref .refa)) (by decide) (by decide) rfl (by decide) rfl (by decide), by decide⟩,
    fun run _ => timingInv_selected (c := cand (.ref .refa)) (by simp [alone, withTim, oneCand])
      (by simp [alone, withTim, oneCand]) rfl (by simp [alone, withTim, oneCand]) rfl (by simp [alone, withTim, oneCand]),
    fun _ _ _ => ⟨cand_good _ _, rfl, by simp [alone, withTim, oneCand]⟩,
    ⟨by decide, by decide, by simp [withTim, holding, Timing.selected?], fun _ => rfl⟩, rfl, rfl, by decide⟩

/-- REFA selected and one event from its loss, or H1 and in its fourth silent event, with REFB QUALIFIED below it, or
QUALIFIED at that event. -/
def losing (k : Cand) (st : CandState) : State :=
  withTim (twoCands k { cand (.ref .refb) with st := st, qualCount := 79999 } (.locked k.src))
    (withPort { port with silence := 3 } online)

theorem losing_inv (k : Cand) (st : CandState) (h : k.src ≠ .ref .refb) (hq : k.st = .qualified) : TimingInv (losing k st) :=
  timingInv_selected (c := k) (by simp [losing, withTim, twoCands]) (by simp [losing, withTim, twoCands, cand, h]) rfl
    (by simp [losing, withTim, twoCands]) hq (by simp [losing, withTim, twoCands])

theorem witness_SelectorAtFrameEvent_next :
    (∀ k ∈ [({ cand (.ref .refa) with gap := 2 } : Cand), cand (.hwy 1)], ∀ st ∈ [CandState.qualified, .qualifying],
      TimingInv (losing k st) ∧ (losing k st).tim.sel = .locked k.src ∧ (losing k st).tim.revertive = false ∧
      (losing k st).tim.cands = [k] ++ { cand (.ref .refb) with st := st, qualCount := 79999 } :: [] ∧
      StaysGood (losing k st) { cand (.ref .refb) with st := st, qualCount := 79999 }) ∧
    (∀ k st, (losing k st).tim.qualifyTime = 10 ∧ (losing k st).hwys[(1 : HwyId)].align = .aligned ∧
      (losing k st).hwys[(1 : HwyId)].silence = 3) := by
  refine ⟨fun k hk st _ => ⟨?_, rfl, rfl, rfl,
    staysGood_ref (w := { events := 10, arrivals := 10 }) rfl (by simp [cand]) rfl rfl (by decide)⟩,
    fun _ _ => by simp [losing, withTim, twoCands, locked, Timing.reset, withPort, port]⟩
  rcases List.mem_cons.1 hk with rfl | hk
  · exact losing_inv _ _ (by simp [cand]) rfl
  · rcases List.mem_cons.1 hk with rfl | hk
    · exact losing_inv _ _ (by simp [cand]) rfl
    · cases hk

theorem witness_SelectorAtFrameEvent_locked : TimingInv (alone (.acquiring (.ref .refa)) 7999 0) ∧
    cand (.ref .refa) ∈ (alone (.acquiring (.ref .refa)) 7999 0).tim.cands ∧
    StaysGood (alone (.acquiring (.ref .refa)) 7999 0) (cand (.ref .refa)) ∧
    (alone (.acquiring (.ref .refa)) 7999 0).tim.revertive = false ∧
    8000 ≤ (alone (.acquiring (.ref .refa)) 7999 0).tim.acquire + 1 :=
  ⟨timingInv_selected (c := cand (.ref .refa)) (by decide) (by decide) rfl (by decide) rfl (by decide), by decide,
    cand_good _ _, rfl, by decide⟩

theorem witness_SelectorAtFrameEvent_valid : TimingInv (alone (.locked (.ref .refa)) 0 7999) ∧
    cand (.ref .refa) ∈ (alone (.locked (.ref .refa)) 0 7999).tim.cands ∧
    StaysGood (alone (.locked (.ref .refa)) 0 7999) (cand (.ref .refa)) ∧
    (alone (.locked (.ref .refa)) 0 7999).tim.revertive = false ∧ (alone (.locked (.ref .refa)) 0 7999).tim.lockedRun = 7999 :=
  ⟨timingInv_selected (c := cand (.ref .refa)) (by decide) (by decide) rfl (by decide) rfl (by decide), by decide,
    cand_good _ _, rfl, rfl⟩

theorem witness_SelectorAtFrameEvent_limit : TimingInv (withTim holding online) ∧ (withTim holding online).tim.sel = .holdover ∧
    (∀ c ∈ (withTim holding online).tim.cands, c.st = .failed) ∧
    (withTim holding online).tim.holdLimit * 8000 ≤ (withTim holding online).tim.elapsed + 1 :=
  ⟨⟨by decide, by decide, by simp [withTim, holding, Timing.selected?], fun _ => rfl⟩, rfl, by decide, by decide⟩

theorem witness_SelectorAtFrameEvent_restore : TimingInv (withTim reverting online) ∧
    cand (.ref .refb) ∈ (withTim reverting online).tim.cands ∧ StaysGood (withTim reverting online) (cand (.ref .refb)) ∧
    StaysGood (withTim reverting online) (cand (.ref .refa)) ∧
    (withTim reverting online).tim.sel = .locked (.ref .refb) ∧ (withTim reverting online).tim.revertive = true ∧
    (withTim reverting online).tim.cands.head? = some (cand (.ref .refa)) ∧
    (withTim reverting online).tim.wtr * 8000 ≤ (cand (.ref .refa)).qualTime + 1 ∧ (cand (.ref .refa)).qualTime < 2040000 :=
  ⟨timingInv_selected (c := cand (.ref .refb)) (by decide) (by decide) rfl (by decide) rfl (by decide), by decide,
    cand_good _ _, cand_good _ _, rfl, rfl, rfl, by decide, by decide⟩

/-- REFA selected, one event from a loss, with no other candidate. -/
def lastRef (valid : Bool) (limit : Nat) : State :=
  withTim { oneCand { cand (.ref .refa) with gap := 2 } with sel := .locked (.ref .refa), valid := valid, holdLimit := limit } online

theorem witness_SelectorAtFrameEvent_falls (valid : Bool) (limit : Nat) : TimingInv (lastRef valid limit) ∧
    { cand (.ref .refa) with gap := 2 } ∈ (lastRef valid limit).tim.cands ∧
    (lastRef valid limit).tim.sel = .locked (.ref .refa) ∧
    ∀ c ∈ (lastRef valid limit).tim.cands, c.src = .ref .refa ∨ c.st = .failed := by
  refine ⟨timingInv_selected (c := { cand (.ref .refa) with gap := 2 }) ?_ ?_ rfl ?_ rfl ?_, ?_, rfl, ?_⟩ <;>
    simp [lastRef, withTim, oneCand, cand]

/-- A reference one event from its loss, a highway in its fourth silent event, a window that ends past the limit of 16, and
a FAILED candidate whose source is good. -/
def telling : State :=
  withTim { Timing.reset with cands := [{ cand (.ref .refa) with gap := 2 }, cand (.hwy 1),
      { cand (.ref .refb) with window := some { events := 7999, arrivals := 8017 } }] }
    (withPort { port with silence := 3 } online)

theorem witness_TimingRecords_event : Working telling ∧ TimingInv telling ∧
    telling.comp.rings[telling.comp.eventRing].missed = 0 ∧ NoStopClear telling ∧
    telling.tim.cands.length = 3 ∧ (cand (.hwy 1)).drift = false ∧
    (telling.hwys[(1 : HwyId)].align = .aligned ∧ telling.hwys[(1 : HwyId)].silence = 3) ∧
    (cand (.ref .refb)).gap + 1 < 3 ∧ 8000 + telling.tim.driftLimit < 8017 ∧
    StaysGood (waitingRef .freerun) { cand (.ref .refa) with st := .failed } ∧
    TimingInv (waitingRef .freerun) ∧ Working (waitingRef .freerun) :=
  ⟨⟨rfl, rfl⟩, ⟨by decide, by decide, by simp [telling, withTim, Timing.reset, Timing.selected?],
      by simp [telling, withTim, Timing.reset]⟩, by decide +kernel, fun h => Bool.noConfusion h.1, rfl, rfl, by decide +kernel, by decide, by decide +kernel,
    staysGood_ref (w := { events := 10, arrivals := 10 }) rfl (by simp [cand]) rfl rfl (by decide),
    ⟨by decide, by decide, by simp [waitingRef, withTim, Timing.selected?], fun _ => rfl⟩, ⟨rfl, rfl⟩⟩

/-- The third wrong frame of a selected highway, the SETHWY that disables it, and a SETREF that removes the selected REFA; and
a device not ONLINE. -/
theorem witness_TimingRecords_others :
    (let s := withTim onHighway (withPort { port with misRun := 2 } online)
     Working s ∧ s.comp.rings[s.comp.eventRing].missed = 0 ∧ s.hwys[(1 : HwyId)].align = .aligned ∧
       (after (.frameArrival 1 [] true) s).hwys[(1 : HwyId)].align ≠ .aligned ∧
       (after (.frameArrival 1 [] true) s).tim.sel ≠ s.tim.sel ∧
       s.tim.cands.find? (fun k => k.src == .hwy 1) = some (cand (.hwy 1))) ∧
    (let s := withTim onHighway (withPort port fetching)
     let c := Instr.sethwy (req [(0x08, 1, 1), (0x0A, 1, 32)])
     Working s ∧ Fetching (op .requestFetch) s ∧ s.comp.rings[s.comp.eventRing].missed = 0 ∧
       s.hwys[(1 : HwyId)].align = .aligned ∧ (after c s).hwys[(1 : HwyId)].align ≠ .aligned ∧
       (after c s).tim.sel ≠ s.tim.sel ∧ s.tim.cands.find? (fun k => k.src == .hwy 1) = some (cand (.hwy 1))) ∧
    Working (withTim locked fetching) ∧ Fetching (op .requestFetch) (withTim locked fetching) ∧
    (after (.setref setrefReq) (withTim locked fetching)).tim.sel ≠ (withTim locked fetching).tim.sel ∧
    (withTim locked fetching).comp.rings[(withTim locked fetching).comp.eventRing].missed = 0 ∧ State.reset.dev.st ≠ .online :=
  ⟨⟨⟨rfl, rfl⟩, by decide +kernel⟩, ⟨⟨rfl, rfl⟩, fetching_of rfl rfl rfl rfl, by decide +kernel⟩, ⟨rfl, rfl⟩, lockedFetch_met, by decide +kernel, by decide +kernel, by decide⟩

/-- A current descriptor with some of its frames moved. -/
def moving (frames moved : Nat) : Current := { freshCopy (desc 0 frames) with moved := moved }

/-- Channel 9 with a current descriptor on an enabled highway. -/
def mover (ch : Chan) (cur : Current) : State := with9 { ch with current := some cur } (withPort port online)

theorem mover_works (ch : Chan) (cur : Current) : Working (mover ch cur) := ⟨rfl, rfl⟩

/-- The same with a STOP pending while the request in hand is executed, and at an apply that touches channel 8 alone. -/
def moverPending (ch : Chan) (cur : Current) : State :=
  { (mover ch cur) with
    dev := { online.dev with stopPending := true }, proc := { online.proc with st := .waitingMemory } }
def moverApply (ch : Chan) (cur : Current) : State :=
  { (mover ch cur) with mc := { targets := [], entries := [(8, .openEntry open9Params)], inFlight := true } }

/-- The premises of the statements on a moving channel hold in all three. -/
theorem movers_met (ch : Chan) (cur : Current) : ∀ s ∈ [mover ch cur, moverPending ch cur, moverApply ch cur],
    Working s ∧ NoStopClear s ∧ Untouched 9 s ∧ s.chans = (mover ch cur).chans ∧ s.hwys = (mover ch cur).hwys := by
  intro s hs
  simp only [List.mem_cons, List.not_mem_nil, or_false] at hs
  obtain rfl | rfl | rfl := hs
  · exact ⟨⟨rfl, rfl⟩, fun h => Bool.noConfusion h.1, fun h => Bool.noConfusion h, rfl, rfl⟩
  · exact ⟨⟨rfl, rfl⟩, fun h => ProcState.noConfusion h.2.1, fun h => Bool.noConfusion h, rfl, rfl⟩
  · exact ⟨⟨rfl, rfl⟩, fun h => Bool.noConfusion h.1, fun _ => rfl, rfl, rfl⟩

/-- The first frame of two, and the last but one of 4096. -/
theorem witness_ReceiveMoves : (∀ cur, Working (mover rx cur)) ∧ ∀ cur ∈ [moving 2 0, moving 4096 4094],
    NoStopClear (mover rx cur) ∧ Untouched 9 (mover rx cur) ∧
    (mover rx cur).chans[(9 : ChanId)].st = .running ∧ (mover rx cur).chans[(9 : ChanId)].dir = .rx ∧
    (mover rx cur).chans[(9 : ChanId)].current = some cur ∧ cur.moved + 1 < cur.desc.frames ∧
    (mover rx cur).hwys[(mover rx cur).chans[(9 : ChanId)].hwy].align ≠ .disabled ∧
    (mover rx cur).chans[(9 : ChanId)].queue = [] := ⟨mover_works rx, by decide +kernel⟩

theorem witness_TransmitMoves : (∀ cur, Working (mover tx cur)) ∧ ∀ cur ∈ [moving 2 0, moving 4096 4094],
    NoStopClear (mover tx cur) ∧ Untouched 9 (mover tx cur) ∧
    (mover tx cur).chans[(9 : ChanId)].st = .running ∧ (mover tx cur).chans[(9 : ChanId)].dir = .tx ∧
    (mover tx cur).chans[(9 : ChanId)].current = some cur ∧ cur.moved + 1 < cur.desc.frames :=
  ⟨mover_works tx, by decide +kernel⟩

/-- The last frame, of a receive and of a transmit channel, with each lookahead: valid, asking for no frames, host-owned,
and none. -/
theorem witness_BufferEndsAndStarves_ends : (∀ ch cur, Working (mover ch cur)) ∧ ∀ ch ∈ [rx, tx],
    ∀ l ∈ [some { index := 1, owned := some (desc 1 4096) }, some { index := 1, owned := some (desc 1 0) },
        some { index := 1, owned := none }, none],
      NoStopClear (mover { ch with lookahead := l } (moving 4 3)) ∧ Untouched 9 (mover { ch with lookahead := l } (moving 4 3)) ∧
      (mover { ch with lookahead := l } (moving 4 3)).chans[(9 : ChanId)].latch = false ∧
      online.comp.rings[online.comp.eventRing].missed = 0 ∧
      (mover { ch with lookahead := l } (moving 4 3)).chans[(9 : ChanId)].st = .running ∧
      (mover { ch with lookahead := l } (moving 4 3)).chans[(9 : ChanId)].current = some (moving 4 3) ∧
      (moving 4 3).moved + 1 = (moving 4 3).desc.frames ∧
      (mover { ch with lookahead := l } (moving 4 3)).hwys[(1 : HwyId)].align ≠ .disabled :=
  ⟨mover_works, by decide +kernel⟩

/-- A host-owned lookahead, at the second frame of four and at the last but one. -/
theorem witness_BufferEndsAndStarves_again : ∀ k ∈ [1, 2],
    (let s := mover { rx with lookahead := some { index := 1, owned := none } } (moving 4 k)
     s.chans[(9 : ChanId)].st = .running ∧ s.chans[(9 : ChanId)].current = some (moving 4 k) ∧
       1 ≤ (moving 4 k).moved ∧ (moving 4 k).moved + 1 < (moving 4 k).desc.frames ∧
       s.chans[(9 : ChanId)].lookahead = some { index := 1, owned := none } ∧
       ¬LiveOf 9 (fun k => k.isDescRead = true) s) := by decide +kernel

theorem witness_BufferEndsAndStarves_starved : Working (with9 { rx with st := .starved } online) ∧
    (NoStopClear (with9 { rx with st := .starved } online) ∧ Untouched 9 (with9 { rx with st := .starved } online) ∧
      (with9 { rx with st := .starved } online).chans[(9 : ChanId)].st = .starved ∧
      (with9 { rx with st := .starved } online).chans[(9 : ChanId)].queue = []) ∧
    ¬LiveOf 9 (fun k => k.isDescRead = true) (with9 { rx with st := .starved } online) :=
  ⟨chan_works _, by decide +kernel, by unfold LiveOf; decide +kernel⟩

/-- A COMMIT of one entry for channel 9, which has the state given. -/
def commitOf (e : ChanEntry) (st : ChanState) : State :=
  { (with9 { rx with st := st } committed) with mc := { targets := [], entries := [(9, e)], inFlight := true } }

/-- The same for a RUNNING channel that has moved `k` of 4 frames: none, the first, and all but the last. -/
theorem witness_ApplyTakesEffect_current : ∀ e ∈ [ChanEntry.closeEntry, .reslotEntry 1 [5]], ∀ k ∈ [0, 1, 3],
    let s := withChan 9 { rx with current := some (moving 4 k) } (commitOf e .running)
    (9, e) ∈ s.mc.entries ∧ s.chans[(9 : ChanId)].st = .running ∧
      (setAside s.chans[(9 : ChanId)]).queue.map (fun e => (e.status, e.actual)) = if k = 0 then [] else [(.short, k)] := by
  decide +kernel

/-- Without and with a STOP pending. -/
def pendingCommit : State := { committed with dev := { committed.dev with stopPending := true } }

theorem witness_ApplyTakesEffect : (Working committed ∧ Working pendingCommit ∧ StagingInv pendingCommit ∧ StagingInv committed ∧ ∀ e st, Working (commitOf e st)) ∧
    (committed.dev.stopPending = false ∧ pendingCommit.dev.stopPending = true ∧ pendingCommit.mc.inFlight = true ∧
      pendingCommit.proc.hand = some { ring := 0, tag := 7, frame := 0 } ∧ committed.mc.inFlight = true ∧
      committed.proc.hand = some { ring := 0, tag := 7, frame := 0 } ∧ (9, .openEntry open9Params) ∈ committed.mc.entries) ∧
    (∀ e ∈ [ChanEntry.closeEntry, .reslotEntry 1 [5]], ∀ st ∈ [ChanState.priming, .running, .starved, .faulted],
      entryCount (commitOf e st) ≤ 256 ∧ ((commitOf e st).mc.entries.map fun e => chanRank e.1).Pairwise (· < ·) ∧
      (9, e) ∈ (commitOf e st).mc.entries ∧ (commitOf e st).chans[(9 : ChanId)].st = st) ∧
    lookupKey 8 committed.mc.entries = none ∧ committed.chans[(8 : ChanId)].st = .closed :=
  ⟨⟨⟨rfl, rfl⟩, ⟨rfl, rfl⟩, by unfold StagingInv Rising; decide +kernel, by unfold StagingInv Rising; decide +kernel, fun _ _ => ⟨rfl, rfl⟩⟩, by decide +kernel, by decide +kernel,
    by decide +kernel⟩

/-- With a RUNNING channel, and with a FAULTED one and nothing in flight. -/
theorem witness_StopClear : (∀ ch, Working (with9 ch stopping)) ∧
    ∀ st ∈ [ChanState.running, .faulted],
      (with9 { rx with st := st } stopping).dev.stopPending = true ∧
      (with9 { rx with st := st } stopping).proc.st = .stopped ∧
      (with9 { rx with st := st } stopping).mc.inFlight = false ∧
      (with9 { rx with st := st } stopping).chans[(9 : ChanId)].st = st ∧
      (with9 { rx with st := st } stopping).link.ops = [] := ⟨fun _ => ⟨rfl, rfl⟩, by decide +kernel⟩

/-- The third wrong frame of a selected highway that REFOUT carries, and the second right one. -/
def exporting (p : Highway) : State := withTim { onHighway with exportSel := .source (.hwy 1) } (withPort p online)

theorem exporting_met (p : Highway) : Settled (exporting p) ∧ Working (exporting p) ∧ TimingInv (exporting p) :=
  ⟨settled_of (by simp [exporting, withTim, withPort, online]) (by simp [exporting, withTim, withPort, online]), ⟨rfl, rfl⟩,
    (onHighway_inv (exporting p)).1, (onHighway_inv (exporting p)).2.1, (onHighway_inv (exporting p)).2.2.1,
    (onHighway_inv (exporting p)).2.2.2⟩

theorem witness_FrameArrivalTaken : (∀ p, Settled (exporting p) ∧ Working (exporting p) ∧ TimingInv (exporting p)) ∧
    online.hwys[(1 : HwyId)].align = .disabled ∧
    (let s := exporting { port with align := .lost, correctRun := 1 }
     s.hwys[(1 : HwyId)].align = .lost ∧ (List.replicate 32 0x42#8).length = s.hwys[(1 : HwyId)].slotCount ∧
       2 ≤ s.hwys[(1 : HwyId)].correctRun + 1 ∧ s.comp.rings[s.comp.eventRing].missed = 0) ∧
    (let s := exporting { port with unread := [[], []] }
     s.hwys[(1 : HwyId)].align = .aligned ∧ (List.replicate 32 0x42#8).length = s.hwys[(1 : HwyId)].slotCount ∧
       2 ≤ s.hwys[(1 : HwyId)].unread.length ∧ s.hwys[(1 : HwyId)].latch = false) ∧
    (let s := exporting { port with misRun := 2 }
     s.hwys[(1 : HwyId)].align = .aligned ∧ (List.replicate 31 0x42#8).length ≠ s.hwys[(1 : HwyId)].slotCount) :=
  ⟨exporting_met, by decide +kernel, by decide +kernel, by decide +kernel, by decide +kernel⟩

theorem witness_ReferencePulseTaken : Settled (withTim refaLost online) := settled_of (by decide) (by decide)

/-! The ends of operations -/

/-- Channel 9's operation in flight while the channel has a state. -/
def ending (k : OpKind) (st : ChanState) : State := flying k (with9 { rx with st := st } online)

theorem ending_met (k : OpKind) (st : ChanState) : Linked (ending k st) ∧ LinkInv (ending k st) ∧
    (ending k st).liveOp (op k).id = some (op k) :=
  ⟨rfl, flying_linkInv _ _, by simp [State.liveOp, ending, flying, op]⟩

/-- The same in STOPPING. -/
theorem ending_met_stopping (k : OpKind) (ch : Chan) : Linked (flying k (with9 ch (device .stopping))) ∧
    LinkInv (flying k (with9 ch (device .stopping))) ∧ (flying k (with9 ch (device .stopping))).liveOp (op k).id = some (op k) :=
  ⟨rfl, flying_linkInv _ _, by simp [State.liveOp, flying, op]⟩

theorem witness_ChannelOperationFails :
    (∀ k st, Linked (ending k st) ∧ LinkInv (ending k st) ∧ (ending k st).liveOp (op k).id = some (op k)) ∧
    (∀ k ∈ [OpKind.descRead 9 0, .dataRead 9 0, .dataWrite 9 0, .writeBack 9 done1 false, .flushRead 9 0],
      (op k).kind.chan? = some 9 ∧
      ∀ st ∈ [ChanState.priming, .running, .starved, .closing], (ending k st).chans[(9 : ChanId)].st = st) ∧
    (flying (.flushRead 9 0) (with9 { rx with st := .closing } (device .stopping))).chans[(9 : ChanId)].st = .closing :=
  ⟨ending_met, by decide +kernel, by decide +kernel⟩

theorem discarded_linkInv (m : OpMark) (k : OpKind) (s : State) : LinkInv (discardedOp m k s) := by
  simp [LinkInv, discardedOp, op]

/-- The operation that a discarded one is. -/
def discarded (m : OpMark) (k : OpKind) : Op := { op k with mark := m }

theorem discarded_found (m : OpMark) (k : OpKind) (s : State) :
    (discardedOp m k s).findOp (discarded m k).id = some (discarded m k) := by
  simp [State.findOp, discardedOp, discarded, op]

/-- Channel 9 with a stale data read in flight. -/
def staleWith (ch : Chan) : State := discardedOp .stale (.dataRead 9 0) (with9 ch online)

/-- RESETTING with a dropped operation; the device HALTED with a stale record write; and each state of a channel whose stale
operation ends, PRIMING with a read of its own in flight beside it. -/
theorem witness_LateAndStaleEnds :
    (∀ m k s, LinkInv (discardedOp m k s) ∧ (discardedOp m k s).findOp (discarded m k).id = some (discarded m k)) ∧
    (Linked (discardedOp .dropped .requestFetch (device .resetting)) ∧ (discarded .dropped .requestFetch).mark = .dropped) ∧
    (Linked (discardedOp .stale (.recordWrite 0) (device .halted)) ∧ (discarded .stale (.recordWrite 0)).kind.chan? = none) ∧
    (∀ ch, Linked (staleWith ch)) ∧ (discarded .stale (.dataRead 9 0)).kind.chan? = some 9 ∧
    (∀ st ∈ [ChanState.closed, .faulted, .running, .starved], (staleWith { rx with st := st }).chans[(9 : ChanId)].st = st ∧
      (staleWith { rx with st := st }).chans[(9 : ChanId)].queue = []) ∧
    (let s : State := { (staleWith { rx with st := .priming }) with
       link := { ops := [discarded .stale (.dataRead 9 0), { op (.descRead 9 0) with id := 1 }], nextId := 2, messages := [] } }
     s.findOp (discarded .stale (.dataRead 9 0)).id = some (discarded .stale (.dataRead 9 0)) ∧
       (s.link.ops.map Op.id).Nodup ∧ (∀ o ∈ s.link.ops, o.id < s.link.nextId) ∧
       s.chans[(9 : ChanId)].st = .priming ∧ s.chans[(9 : ChanId)].queue = [] ∧ LiveOf 9 (fun k => k.isDescRead = true) s) ∧
    (let s := staleWith { rx with st := .closing, walk := .walking 0 }
     s.chans[(9 : ChanId)].st = .closing ∧ s.chans[(9 : ChanId)].walk = .walking 0 ∧ s.chans[(9 : ChanId)].queue = []) :=
  ⟨fun _ _ _ => ⟨discarded_linkInv _ _ _, discarded_found _ _ _⟩, ⟨rfl, rfl⟩, ⟨rfl, rfl⟩, fun _ => rfl, rfl, by decide +kernel,
    by decide +kernel, by decide +kernel⟩

/-- A descriptor that is host-owned, or asks for 0, 1, 4096 or 4097 frames, in each state, the queue empty or not. -/
theorem witness_DescriptorReadEnd :
    (∀ st, Linked (ending (.descRead 9 0) st) ∧ LinkInv (ending (.descRead 9 0) st) ∧
      (ending (.descRead 9 0) st).liveOp (op (.descRead 9 0)).id = some (op (.descRead 9 0))) ∧
    (∀ ch, Linked (flying (.descRead 9 0) (with9 ch (device .stopping))) ∧
      LinkInv (flying (.descRead 9 0) (with9 ch (device .stopping))) ∧
      (flying (.descRead 9 0) (with9 ch (device .stopping))).liveOp (op (.descRead 9 0)).id = some (op (.descRead 9 0))) ∧
    (∀ st ∈ [ChanState.priming, .starved, .running, .closing], (ending (.descRead 9 0) st).chans[(9 : ChanId)].st = st) ∧
    descOwned (List.replicate 32 0) = false ∧
    ∀ n ∈ [0, 1, 4096, 4097], descOwned (descBytes n) = true ∧ (parseDesc 0 (descBytes n)).frames = n :=
  ⟨ending_met _, ending_met_stopping _, by decide +kernel, by decide +kernel, by decide +kernel⟩

/-- In a RUNNING channel: a data read that is due and one that is not; a data write of the current descriptor, and the last one of the oldest
queued descriptor. -/
theorem witness_DataEnds : (∀ k ch, Linked (flying k (with9 ch online)) ∧ LinkInv (flying k (with9 ch online))) ∧
    (let s := flying (.dataRead 9 0) (with9 { tx with due := some 0 } online)
     s.liveOp 0 = some (op (.dataRead 9 0)) ∧ s.chans[(9 : ChanId)].st = .running ∧ s.chans[(9 : ChanId)].queue = []) ∧
    (let s := flying (.dataRead 9 0) (with9 { tx with due := some 1 } online)
     s.liveOp 0 = some (op (.dataRead 9 0)) ∧ s.chans[(9 : ChanId)].due ≠ some 0 ∧ s.chans[(9 : ChanId)].queue = []) ∧
    (let s := flying (.dataWrite 9 0) (with9 { rx with current := some (moving 4 1) } online)
     s.liveOp 0 = some (op (.dataWrite 9 0)) ∧ s.chans[(9 : ChanId)].current = some (moving 4 1) ∧
       (moving 4 1).desc.index = 0 ∧ s.chans[(9 : ChanId)].queue = []) ∧
    (let s := flying (.dataWrite 9 0) (with9 { rx with queue := [{ done1 with unaccepted := 1 }] } online)
     s.liveOp 0 = some (op (.dataWrite 9 0)) ∧ s.chans[(9 : ChanId)].current = none ∧
       s.chans[(9 : ChanId)].queue = [{ done1 with unaccepted := 1 }] ∧ done1.desc.index = 0 ∧
       ∀ o ∈ s.link.ops, o.kind.isWriteBack = false) ∧
    (let s := flying (.dataWrite 9 0) (with9 { rx with st := .closing, queue := [{ done1 with unaccepted := 1 }, done1] } online)
     s.liveOp 0 = some (op (.dataWrite 9 0)) ∧ s.chans[(9 : ChanId)].st = .closing ∧ s.chans[(9 : ChanId)].queue.length = 2) :=
  ⟨fun _ _ => ⟨rfl, flying_linkInv _ _⟩, by decide +kernel, by decide +kernel, by decide +kernel,
    by decide +kernel, by decide +kernel⟩

/-- The write-back of index 0 in flight: RUNNING; RUNNING with the lookahead deferred behind it, in a ring of 2; PRIMING;
CLOSING; and STARVED with a second entry. -/
theorem witness_WriteBackEnd :
    (∀ ch, Linked (flying (.writeBack 9 done1 false) (with9 ch online)) ∧
      LinkInv (flying (.writeBack 9 done1 false) (with9 ch online))) ∧
    (let s := flying (.writeBack 9 done1 false) (with9 { rx with queue := [done1] } online)
     s.liveOp 0 = some (op (.writeBack 9 done1 false)) ∧ s.chans[(9 : ChanId)].queue = [done1] ∧
       s.chans[(9 : ChanId)].st = .running ∧ s.chans[(9 : ChanId)].deferred = false) ∧
    (let ch := { rx with queue := [done1], ringSize := 2, deferred := true, current := some (freshCopy (desc 1 4)) }
     let s := flying (.writeBack 9 done1 false) (with9 ch online)
     s.chans[(9 : ChanId)].st = .running ∧ s.chans[(9 : ChanId)].deferred = true ∧
       s.chans[(9 : ChanId)].current = some (freshCopy (desc 1 4)) ∧
       ((desc 1 4).index + 1) % s.chans[(9 : ChanId)].ringSize = done1.desc.index) ∧
    (let s := flying (.writeBack 9 done1 false) (with9 { rx with st := .priming, queue := [done1] } online)
     s.chans[(9 : ChanId)].st = .priming ∧ s.chans[(9 : ChanId)].current = none ∧
       ∀ o ∈ s.link.ops, o.kind.isDescRead = false) ∧
    (let s := flying (.writeBack 9 done1 false) (with9 { rx with st := .closing, queue := [done1] } online)
     s.chans[(9 : ChanId)].st = .closing ∧ s.chans[(9 : ChanId)].walk = .notBegun ∧
       s.chans[(9 : ChanId)].closeFailed = false) ∧
    (let s := flying (.writeBack 9 done1 false) (with9 { rx with st := .starved, queue := [done1, { done1 with actual := 3 }] } online)
     s.liveOp 0 = some (op (.writeBack 9 done1 false)) ∧ s.chans[(9 : ChanId)].st = .starved ∧
       s.chans[(9 : ChanId)].queue.length = 2) :=
  ⟨fun _ => ⟨rfl, flying_linkInv _ _⟩, by decide +kernel, by decide +kernel, by decide +kernel,
    by decide +kernel, by decide +kernel⟩

/-- The walk's first read; the write-back after it; and the one that completes the round, in a ring of 4. -/
theorem witness_FlushWalkGoesOn : (∀ k ch d, Linked (flying k (with9 ch (device d))) ∧ LinkInv (flying k (with9 ch (device d)))) ∧
    ∀ k ∈ [OpKind.flushRead 9 0, .writeBack 9 done1 true], ∀ n ∈ [0, 3], ∀ d ∈ [DeviceState.online, .stopping],
      let s := flying k (with9 { rx with st := .closing, walk := .walking n } (device d))
      s.liveOp 0 = some (op k) ∧ s.chans[(9 : ChanId)].st = .closing ∧ s.chans[(9 : ChanId)].queue = [] ∧
        s.chans[(9 : ChanId)].walk = .walking n ∧ s.chans[(9 : ChanId)].ringSize = 4 :=
  ⟨fun _ _ _ => ⟨rfl, flying_linkInv _ _⟩, by decide +kernel⟩

/-! Steps of the part's own -/

/-- No operation is in flight, so none is live. -/
theorem noneLive {s : State} (c : ChanId) (p : OpKind → Prop) (h : s.link.ops = []) : ¬LiveOf c p s := by
  simp [LiveOf, h]

theorem witness_ChannelOwnSteps : (∀ ch d, Linked (with9 ch (device d))) ∧ (∀ ch d c p, ¬LiveOf c p (with9 ch (device d))) ∧
    (∀ st ∈ [ChanState.priming, .running, .starved, .closing],
      (with9 { rx with st := st, queue := [done1] } (device .online)).chans[(9 : ChanId)].queue = [done1] ∧ done1.unaccepted = 0 ∧
      (with9 { rx with st := st, queue := [done1] } (device .online)).chans[(9 : ChanId)].st = st ∧
      (with9 { rx with st := st, queue := [done1] } (device .online)).chans[(9 : ChanId)].closeFailed = false) ∧
    (let s := with9 { rx with current := some (freshCopy (desc 3 4)), deferred := true } (device .online)
     s.chans[(9 : ChanId)].st = .running ∧ s.chans[(9 : ChanId)].deferred = true ∧
       s.chans[(9 : ChanId)].current = some (freshCopy (desc 3 4)) ∧ s.chans[(9 : ChanId)].queue = []) ∧
    (let s := with9 { rx with st := .priming } (device .online)
     s.chans[(9 : ChanId)].st = .priming ∧ s.chans[(9 : ChanId)].queue = [] ∧ s.chans[(9 : ChanId)].current = none) ∧
    (∀ w ∈ [Walk.notBegun, .ended], ∀ d ∈ [DeviceState.online, .stopping],
      (with9 { rx with st := .closing, walk := w } (device d)).chans[(9 : ChanId)].st = .closing ∧
      (with9 { rx with st := .closing, walk := w } (device d)).chans[(9 : ChanId)].queue = [] ∧
      (with9 { rx with st := .closing, walk := w } (device d)).chans[(9 : ChanId)].walk = w ∧
      (with9 { rx with st := .closing, walk := w } (device d)).chans[(9 : ChanId)].closeFailed = false ∧
      (with9 { rx with st := .closing, walk := w } (device d)).link.ops = []) :=
  ⟨fun _ _ => rfl, fun _ _ _ _ => noneLive _ _ rfl, by decide +kernel, by decide +kernel, by decide +kernel, by decide +kernel⟩

theorem witness_DeviceOwnSteps_fetch : Working (counts 1 0) ∧ (counts 1 0).proc.st = .idle ∧
    (counts 1 0).dev.stopPending = false ∧ (counts 1 0).proc.tail ≠ (counts 1 0).proc.consumed :=
  ⟨⟨rfl, rfl⟩, rfl, rfl, by decide⟩

/-- Space of 2 with a missed count of 1, and with a held record. -/
theorem witness_DeviceOwnSteps_rings : (∀ m d, Working (roomy m d)) ∧
    (roomy 1 none).comp.rings[(0 : RingId)].unconsumed < (roomy 1 none).comp.rings[(0 : RingId)].size ∧
    0 < (roomy 1 none).comp.rings[(0 : RingId)].missed ∧ (roomy 0 (some heldDone)).comp.rings[(0 : RingId)].missed = 0 ∧
    (roomy 0 (some heldDone)).comp.rings[(0 : RingId)].held = some heldDone :=
  ⟨fun _ _ => ⟨rfl, rfl⟩, by decide +kernel, by decide +kernel, by decide +kernel, by decide +kernel⟩

theorem witness_DeviceOwnSteps_ends : ∀ d ∈ [DeviceState.stopping, .resetting],
    (device d).link.ops = [] ∧ (device d).dev.st = d ∧ ∀ c : ChanId, (device d).chans[c].st = .closed := by decide +kernel

/-! Invariants -/

/-- State.reset with a START waiting. -/
def kept : State := { State.reset with pending := [.start] }

theorem kept_steps : ∃ t, step kept = .next t := ⟨_, rfl⟩

theorem witness_LinkKept : LinkInv kept ∧ Settled kept ∧ ∃ t, step kept = .next t :=
  ⟨⟨List.nodup_nil, fun _ h => nomatch h⟩, settled_of (by decide) (by decide), kept_steps⟩
/-- With a CONNECTION in the active map, from the last slot, and waiting the SETHWY that disables its source, or a DISCARD. -/
theorem witness_LineKept : (LineInv kept ∧ SourcesStand kept ∧ ∃ t, step kept = .next t) ∧
    (let s := { replaced with pending := [.sethwy (req [(0x08, 1, 2), (0x0A, 1, 32)])] }
     LineInv s ∧ SourcesStand s ∧ ∃ t, step s = .next t) ∧
    let s := { replaced with pending := [.discard (req [])] }
    LineInv s ∧ SourcesStand s ∧ (∀ r rest, s.pending ≠ .sethwy r :: rest) ∧ ∃ t, step s = .next t :=
  ⟨⟨by unfold LineInv Highway.Ok; decide +kernel, by unfold SourcesStand; decide +kernel, kept_steps⟩,
    ⟨by unfold LineInv Highway.Ok; decide +kernel, by unfold SourcesStand; decide +kernel, _, rfl⟩,
    by unfold LineInv Highway.Ok; decide +kernel, by unfold SourcesStand; decide +kernel, by simp, _, rfl⟩
theorem witness_RingsKept : RingInv kept ∧ ∃ t, step kept = .next t :=
  ⟨by unfold RingInv Ring.Ok; decide +kernel, kept_steps⟩
theorem witness_StagingKept : StagingInv kept ∧ ∃ t, step kept = .next t :=
  ⟨by unfold StagingInv Rising; decide +kernel, kept_steps⟩

/-- Two CLOSEs staged in the one order and in the other. -/
def closesStaged (c d : ChanId) : State := (kept.stageChan c .closeEntry).stageChan d .closeEntry

theorem witness_StagingKept_orders : StagingInv (closesStaged 3 9) ∧ StagingInv (closesStaged 9 3) ∧
    SameEntries (closesStaged 3 9).mc (closesStaged 9 3).mc ∧
    closesStaged 9 3 = { closesStaged 3 9 with mc := (closesStaged 9 3).mc } ∧
    (closesStaged 3 9).mc.inFlight = (closesStaged 9 3).mc.inFlight :=
  ⟨by unfold StagingInv Rising; decide +kernel, by unfold StagingInv Rising; decide +kernel,
    ⟨fun _ => rfl, by decide +kernel⟩, rfl, rfl⟩
theorem witness_TimingKept : TimingInv kept ∧ ∃ t, step kept = .next t :=
  ⟨⟨by decide, by decide, by simp [kept, State.reset, Timing.reset, Timing.selected?],
    by simp [kept, State.reset, Timing.reset]⟩, kept_steps⟩
theorem witness_DeviceKept : DeviceInv kept ∧ ∃ t, step kept = .next t :=
  ⟨by unfold DeviceInv; decide +kernel, kept_steps⟩

end Sys2Proof.Tests
end

section
/-! PROOFS. O56: a SETHWY may leave a CONNECTION without its source where nothing replaces it any more. -/

set_option Elab.async false

namespace Sys2Proof.Machine

/-- A SETHWY that disables highway 2, answered in ring 0. -/
def disableTwo : ReqRecord where
  flags := 0
  ring := 0
  reserved := 0
  tag := 0
  body := [2, 0, 32]

/-- ONLINE with a STOP taken while the fetch of that SETHWY is in flight; highways 1 and 2 are SEARCHING, slot 5 of
highway 1 carries slot 31 of highway 2, and a DISCONNECT of that slot is staged. -/
def stopWhileFetching : State :=
  { State.reset with
    dev := { Device.reset with st := .online, stopPending := true }
    cfg := { busMaster := true, messages := false, vectors := 1 }
    link := { ops := [{ id := 0, kind := .requestFetch, mark := .live, addr := 0, len := 64, data := [] }], nextId := 1
              messages := [] }
    proc := { st := .fetching, tail := 1, consumed := 0, ringBase := 0, ringSize := 16, hand := none }
    comp := { ringCount := 1, eventRing := 0
              rings := (Vector.replicate 4 Ring.reset).set 0 { Ring.reset with size := 16 } }
    hwys := ((Vector.replicate 16 Highway.reset).set 1 { Highway.reset with align := .searching }).set 2
      { Highway.reset with align := .searching }
    map := ((Vector.replicate 16 []).set 1 ((List.replicate 32 .none).set 5 (.connection 2 31))).set 2
      (List.replicate 32 .none)
    mc := { MapControl.reset with targets := [(⟨1, 5⟩, .none)] }
    pending := [.sethwy disableTwo] }

theorem stopWhileFetching_lineInv : LineInv stopWhileFetching := by
  unfold LineInv Highway.Ok; decide +kernel

theorem stopWhileFetching_sourcesStand : SourcesStand stopWhileFetching := by
  unfold SourcesStand; decide +kernel

/-- What the SETHWY leaves. -/
def afterDisableTwo : State :=
  ({ stopWhileFetching with pending := [] }.request disableTwo sethwyBody).finish

theorem step_stopWhileFetching : step stopWhileFetching = .next afterDisableTwo := rfl

/-- The staged DISCONNECT lets the SETHWY pass R47, and the STOP empties the set at the request's end (R40, R158): highway 2
is DISABLED, and slot 5 of highway 1 keeps its CONNECTION in the prospective map too. -/
theorem afterDisableTwo_vanished :
    afterDisableTwo.map[(1 : HwyId)][5]? = some (.connection 2 31) ∧
      sourceStands afterDisableTwo (.connection 2 31) = false ∧
      (afterDisableTwo.prospective none 1 5).1 = .connection 2 31 := by
  decide +kernel

/-- Refutes O56: a SETHWY fetched when a STOP is already pending takes away the source of a CONNECTION that a staged entry
replaces, and at its end the STOP empties the staging set, so that nothing replaces the CONNECTION. -/
theorem not_lineKept : ¬ Obligations.LineKept := by
  unfold Obligations.LineKept
  intro h
  obtain ⟨hmap, hgone, hprosp⟩ := afterDisableTwo_vanished
  obtain ⟨-, hsources⟩ := h stopWhileFetching afterDisableTwo stopWhileFetching_lineInv step_stopWhileFetching
  obtain ⟨-, hslots⟩ := hsources stopWhileFetching_sourcesStand
  rcases hslots 1 5 _ hmap with hstands | hreplaced
  · exact Bool.false_ne_true (hgone.symm.trans hstands)
  · exact hreplaced hprosp

end Sys2Proof.Machine
end

section
/-! PROOFS. O3 and O54: the state right after power-on reset. -/

set_option Elab.async false

namespace Sys2Proof.Machine

/-- Settles O3: each value is the one `State.reset` is written with, and a block of equal records shows it at each place. -/
theorem resetState : Obligations.ResetState := by
  unfold Obligations.ResetState
  refine ⟨⟨rfl, rfl, rfl, rfl, rfl, rfl, rfl⟩, fun h => ⟨?_, ?_⟩, fun c => ?_, rfl, fun n => ?_, rfl, rfl, rfl, rfl, rfl, rfl⟩
  · simp [State.reset]
  · simp [State.reset, Highway.reset]
  · simp [State.reset, Chan.reset]
  · simp [State.reset, Completion.reset, Ring.reset]

/-! ### The invariants -/

theorem linkInv_reset : LinkInv State.reset := ⟨List.nodup_nil, fun _ h => nomatch h⟩

/-- OFFLINE is no state that ends by itself. -/
theorem settled_reset : Settled State.reset :=
  ⟨fun h => DeviceState.noConfusion h.1, fun h => DeviceState.noConfusion h.1⟩

theorem Highway.reset_ok : Highway.reset.Ok := by unfold Highway.Ok; decide

theorem lineInv_reset : LineInv State.reset := by
  refine ⟨fun h => ?_, by decide, fun e he => nomatch he⟩
  simp [State.reset, Highway.reset_ok, show Highway.reset.align = .disabled from rfl]

theorem Ring.reset_ok : Ring.reset.Ok := by unfold Ring.Ok; decide

theorem ringInv_reset : RingInv State.reset := fun n => by
  simp [State.reset, Completion.reset, Ring.reset_ok]

theorem stagingInv_reset : StagingInv State.reset := by unfold StagingInv Rising; decide

theorem timingInv_reset : TimingInv State.reset :=
  ⟨Nat.zero_le 4, List.nodup_nil, by simp [State.reset, Timing.reset, Timing.selected?], fun h => Selector.noConfusion h⟩

theorem deviceInv_reset : DeviceInv State.reset := by
  refine ⟨fun _ => ⟨rfl, rfl, rfl⟩, by decide, fun h => absurd rfl h, fun c => ?_⟩
  simp [State.reset, Device.reset, Chan.reset, ChanState.allowed]

/-- Settles O54, one lemma for each invariant. -/
theorem invariantsAtReset : Obligations.InvariantsAtReset :=
  ⟨linkInv_reset, settled_reset, lineInv_reset, ringInv_reset, stagingInv_reset, timingInv_reset, deviceInv_reset⟩

end Sys2Proof.Machine
end

section
/-! PROOFS. O7: STOP. -/

set_option Elab.async false

namespace Sys2Proof.Machine

/-- A held REQUEST_DONE is dropped and counted at a STOP (R177). -/
theorem Ring.stopHeld_eq (r : Ring) : r.stopHeld = if r.held.isSome then { r.dropped with held := none } else r := rfl

/-- STOP taken in ONLINE, by the processor's state (R40, R158, R177, R189). -/
theorem State.stopOnline_eq (s : State) :
    s.stopOnline =
      if s.proc.st = .idle then
        { s with
          dev := { s.dev with stopPending := true }
          proc := { s.proc with st := .stopped, hand := none }
          mc := { s.mc with targets := [], entries := [] } }
      else if s.proc.st = .waitingSpace then
        { s with
          dev := { s.dev with stopPending := true }
          proc := { s.proc with st := .stopped, hand := none }
          mc := { s.mc with targets := [], entries := [] }
          comp := { s.comp with rings := s.comp.rings.map Ring.stopHeld } }
      else { s with dev := { s.dev with stopPending := true } } := by
  unfold State.stopOnline State.stopProcessor
  cases s.proc.st <;> simp [Processor.halted, MapControl.emptied]

/-- After a STOP in HALTED every channel is CLOSED (R90). -/
theorem State.stopHalted_closed (s : State) (c : ChanId) : s.stopHalted.chans[c].st = .closed := by
  simp [State.stopHalted, Chan.stopHalted]

/-- STOPPING is over at once after a STOP in HALTED exactly when nothing is in flight (R190, R192). -/
theorem State.finish_stopHalted (s : State) :
    s.stopHalted.finish =
      { s.stopHalted with dev := { s.dev with st := if s.link.ops = [] then .offline else .stopping } } := by
  have hended : (s.stopHalted.dev.st = .stopping ∧ (∀ c : ChanId, s.stopHalted.chans[c].st = .closed) ∧
      s.stopHalted.link.ops = [] ∨ s.stopHalted.dev.st = .resetting ∧ s.stopHalted.link.ops = []) ↔
      s.link.ops = [] :=
    ⟨fun h => h.elim (·.2.2) (·.2), fun h => .inl ⟨rfl, s.stopHalted_closed, h⟩⟩
  rw [State.finish_eq, ended]
  by_cases h : s.link.ops = []
  · rw [if_pos (hended.2 h), if_pos h]; rfl
  · rw [if_neg (fun e => h (hended.1 e)), if_neg h]; rfl

/-- Settles O7: in ONLINE nothing ends within the moment, in HALTED STOPPING may. -/
theorem stopTaken : Obligations.StopTaken := by
  unfold Obligations.StopTaken
  constructor
  · intro s honline hpending
    have hrule : s.stopRule = s.stopOnline := by simp [State.stopRule, honline, hpending]
    have hstill : s.stopOnline.dev.st = .online := by simp [State.stopOnline, honline]
    show done s.stopRule = _
    rw [hrule, done_online _ hstill, State.stopOnline_eq]
    rfl
  · intro s hhalted
    have hrule : s.stopRule = s.stopHalted := by simp [State.stopRule, hhalted]
    show done s.stopRule = _
    rw [hrule, done, State.finish_stopHalted]
    rfl

end Sys2Proof.Machine
end

section
/-! PROOFS. The body checks of the request kinds, in the terms of Safety.lean, and O19. -/

set_option Elab.async false

namespace Sys2Proof.Machine

/-! ### Lists of codes in a body -/

/-- The codes at consecutive places are distinct when each differs from those before it. -/
theorem nodup_map_range_iff (f : Nat → Nat) (n : Nat) :
    ((List.range n).map f).Nodup ↔ ∀ k < n, ∀ j < k, f j ≠ f k := by
  rw [List.nodup_map_iff_inj_on List.nodup_range]
  simp only [List.mem_range]
  constructor
  · intro h k hk j hj he
    exact hj.ne (h j (hj.trans hk) k hk he)
  · intro h x hx y hy he
    rcases Nat.lt_trichotomy x y with hlt | heq | hlt
    · exact absurd he (h y hy x hlt)
    · exact heq
    · exact absurd he.symm (h x hx y hlt)

/-- The slot list checks, place by place (R70). -/
theorem slotListOk_iff (r : ReqRecord) :
    slotListOk r = true ↔ 1 ≤ reqByte r 0x0B ∧ reqByte r 0x0B ≤ 32 ∧
      (∀ k < reqByte r 0x0B, reqByte r (0x18 + k) ≤ 127) ∧
      (∀ k < reqByte r 0x0B, ∀ j < k, reqByte r (0x18 + j) ≠ reqByte r (0x18 + k)) ∧
      ((List.range 32).all fun k => k < reqByte r 0x0B || reqByte r (0x18 + k) == 0) = true := by
  by_cases hn : reqByte r 0x0B ≤ 32
  · have hslots : reqSlots r = (List.range (reqByte r 0x0B)).map fun k => reqByte r (0x18 + k) := by
      rw [reqSlots, min_eq_left hn]
    simp only [slotListOk, hslots, Bool.and_eq_true, decide_eq_true_eq, nodup_map_range_iff, List.all_map, and_assoc]
    simp
  · simp [slotListOk, hn]

/-- The codes that name a source (10.3). -/
theorem sourceOfCode_isSome_iff (n : Nat) : (sourceOfCode n).isSome = true ↔ 0x10 ≤ n ∧ n ≤ 0x21 := by
  unfold sourceOfCode
  split_ifs <;> simp <;> omega

/-- The reference list of a SETREF with at most four entries (R132). -/
theorem setrefCodes_eq {r : ReqRecord} (h : reqByte r 0x08 ≤ 4) :
    setrefCodes r = (List.range (reqByte r 0x08)).map fun k => reqByte r (0x14 + k) := by
  rw [setrefCodes, min_eq_left h]

/-- The checks of what a SETREF exports, by its kind (R132). -/
theorem setrefExportOk_iff {r : ReqRecord} (h : reqByte r 0x08 ≤ 4) :
    setrefExportOk r = true ↔ reqByte r 0x0F ≤ 1 ∧ reqByte r 0x10 = 0 ∨
      reqByte r 0x0F = 2 ∧ ∃ k < reqByte r 0x08, reqByte r (0x14 + k) = reqByte r 0x10 := by
  unfold setrefExportOk
  rw [setrefCodes_eq h]
  by_cases h2 : reqByte r 0x0F = 2
  · simp [h2, List.contains_eq_mem]
  · simp [h2]

/-! ### The checks and the meaning of each kind -/

/-- The model's body checks, by kind. -/
def bodyChecks (ringCount : Nat) (r : ReqRecord) : Instr → Bool
  | .sethwy _ => sethwyFieldsOk r
  | .connect _ => connectFieldsOk r
  | .disconnect _ => reservedOk r [(0x08, 2)] && reqByte r 0x08 ≤ 15 && reqByte r 0x09 ≤ 127
  | .openChannel _ => openFieldsOk ringCount r
  | .closeChannel _ => reservedOk r [(0x08, 1)] && reqByte r 0x08 ≤ 127
  | .reslot _ => reslotFieldsOk r
  | .setref _ => setrefFieldsOk r
  | .qhwy _ => queryOk r 1 && reqByte r 0x08 ≤ 15
  | .qchan _ => queryOk r 1 && reqByte r 0x08 ≤ 127
  | .qslot _ => queryOk r 2 && reqByte r 0x08 ≤ 15 && reqByte r 0x09 ≤ 127
  | .qtime _ => queryOk r 1 && (reqByte r 0x08 == 1 || reqByte r 0x08 == 2)
  | _ => reservedOk r []

/-- The model's meaning of a request that passed its header checks, by kind. -/
def requestBody : Instr → ReqRecord → Hand → State → State
  | .sethwy _ => sethwyBody
  | .connect _ => connectBody
  | .disconnect _ => disconnectBody
  | .openChannel _ => openBody
  | .closeChannel _ => closeBody
  | .reslot _ => reslotBody
  | .commit _ => commitBody
  | .discard _ => discardBody
  | .setref _ => setrefBody
  | .qhwy _ => qhwyBody
  | .qchan _ => qchanBody
  | .qslot _ => qslotBody
  | .qtime _ => qtimeBody
  | _ => nopBody

theorem openFieldsOk_iff (n : Nat) (r : ReqRecord) :
    openFieldsOk n r = true ↔ reservedOk r [(0x08, 48)] = true ∧ reqByte r 0x08 ≤ 127 ∧
      (reqByte r 0x09 = 1 ∧ reqByte r 0x0C = 0 ∨ reqByte r 0x09 = 2) ∧ reqByte r 0x0A ≤ 15 ∧ slotListOk r = true ∧
      2 ≤ reqField r 0x0E 2 ∧ reqField r 0x0E 2 ≤ 1024 ∧ reqField r 0x10 8 % 32 = 0 ∧ reqByte r 0x0D < n := by
  simp only [openFieldsOk, Bool.and_eq_true, Bool.or_eq_true, decide_eq_true_eq, beq_iff_eq]
  constructor
  · rintro ⟨⟨⟨⟨⟨⟨⟨⟨hres, hchan⟩, hdir⟩, hhwy⟩, hslots⟩, hsize⟩, hbase⟩, hring⟩, hidle⟩
    exact ⟨hres, hchan, by omega, hhwy, hslots, hsize.1, hsize.2, hbase, hring⟩
  · rintro ⟨hres, hchan, hdir, hhwy, hslots, hsize, hsize', hbase, hring⟩
    exact ⟨⟨⟨⟨⟨⟨⟨⟨hres, hchan⟩, by omega⟩, hhwy⟩, hslots⟩, hsize, hsize'⟩, hbase⟩, hring⟩, by omega⟩

/-- The ranges of 10.3 are the model's checks, kind by kind. -/
theorem bodyRanges_checks (n : Nat) (r : ReqRecord) : ∀ p ∈ bodyRanges n r, p.2 = bodyChecks n r p.1 := by
  simp only [bodyRanges, List.forall_mem_cons]
  refine ⟨rfl, rfl, rfl, ?sethwy, ?connect, rfl, ?openChannel, rfl, ?reslot, ?setref, rfl, rfl, rfl, rfl, by simp⟩
  case sethwy => simp [bodyChecks, sethwyFieldsOk, Bool.or_assoc, Bool.beq_eq_decide_eq]
  case connect =>
    by_cases h1 : reqByte r 0x0A = 1
    · simp [bodyChecks, connectFieldsOk, h1]
    · by_cases h2 : reqByte r 0x0A = 2 <;> simp [bodyChecks, connectFieldsOk, h1, h2]
  case openChannel =>
    rw [Bool.eq_iff_iff, bodyChecks, openFieldsOk_iff, slotListOk_iff]
    simp only [Bool.and_eq_true, Bool.or_eq_true, decide_eq_true_eq, beq_iff_eq, and_assoc]
  case reslot =>
    rw [Bool.eq_iff_iff, bodyChecks, reslotFieldsOk]
    simp only [Bool.and_eq_true, slotListOk_iff, decide_eq_true_eq, and_assoc]
  case setref =>
    rw [Bool.eq_iff_iff, bodyChecks]
    by_cases hn : reqByte r 0x08 ≤ 4
    · simp only [setrefFieldsOk, setrefExportOk_iff hn, setrefCodes_eq hn, Bool.and_eq_true, decide_eq_true_eq,
        nodup_map_range_iff, List.all_map, Bool.or_eq_true, beq_iff_eq, bne_iff_ne]
      simp [sourceOfCode_isSome_iff, and_assoc, Nat.one_le_iff_ne_zero]
    · simp [setrefFieldsOk, hn]

theorem exec_request {n : Nat} {r : ReqRecord} {p : Instr × Bool} (hp : p ∈ bodyRanges n r) (s : State) :
    exec p.1 s = done (s.request r (requestBody p.1)) := by
  revert p
  simp only [bodyRanges, List.forall_mem_cons]
  exact ⟨rfl, rfl, rfl, rfl, rfl, rfl, rfl, rfl, rfl, rfl, rfl, rfl, rfl, rfl, by simp⟩

/-- A body that fails its checks completes the request with BAD_FIELD before anything else is done. -/
theorem requestBody_fails {r : ReqRecord} {p : Instr × Bool} (h : Hand) (s : State)
    (hp : p ∈ bodyRanges s.comp.ringCount r) (hbad : bodyChecks s.comp.ringCount r p.1 = false) :
    requestBody p.1 r h s = s.failRequest h .badField := by
  revert p
  simp only [bodyRanges, List.forall_mem_cons]
  refine ⟨?_, ?_, ?_, ?_, ?_, ?_, ?_, ?_, ?_, ?_, ?_, ?_, ?_, ?_, by simp⟩ <;>
    exact fun hbad => if_neg (Bool.eq_false_iff.1 hbad)

/-- A request in hand with BAD_FIELD, in the terms of Safety.lean. -/
theorem Fetching.badField {f : Op} {s : State} (h : Fetching f s) (r : ReqRecord) :
    (executing f s).failRequest { ring := ringOf r, tag := r.tag, frame := 0 } .badField =
      answer r .badField 0 (inHand f s) :=
  h.finish r .badField 0 (inHand f s) rfl rfl

/-- Settles O19: the ranges of 10.3 are the model's checks, which come before every meaning. -/
theorem bodyFails : Obligations.BodyFails := by
  unfold Obligations.BodyFails
  intro r f s hf hr p hp hbad
  rw [bodyRanges_checks _ _ p hp] at hbad
  rw [exec_request hp, hf.request hr, requestBody_fails _ (executing f s) hp hbad, hf.badField]
  exact done_answer _ _ _ _ hf.online

end Sys2Proof.Machine
end

section
/-! PROOFS. O21 and O23: SETHWY, CONNECT and DISCONNECT. -/

set_option Elab.async false

namespace Sys2Proof.Machine

/-- A body that passes by 10.3 passes the model's checks. -/
theorem BodyPasses.checks {c : Instr} {r : ReqRecord} {s : State} (h : BodyPasses c r s) :
    bodyChecks s.comp.ringCount r c = true :=
  (bodyRanges_checks _ _ _ h).symm

/-! ### SETHWY -/

/-- A passing SETHWY disables or enables (R46). -/
theorem sethwyFieldsOk_enable {r : ReqRecord} (h : sethwyFieldsOk r = true) : reqByte r 0x09 = 0 ∨ reqByte r 0x09 = 1 := by
  simp only [sethwyFieldsOk, Bool.and_eq_true, decide_eq_true_eq] at h
  obtain ⟨⟨-, hle⟩, -⟩ := h
  omega

/-- The port that a SETHWY enables or keeps enabled has the slot count asked for (R49). -/
theorem sethwyPort_enabled {r : ReqRecord} {p : Highway} (h : reqByte r 0x09 = 1) :
    (sethwyPort r p).enabled ∧ (sethwyPort r p).slotCount = reqByte r 0x0A := by
  have h0 : reqByte r 0x09 ≠ 0 := by omega
  unfold sethwyPort Highway.enabled
  split_ifs <;> simp_all

/-- A SETHWY disables or resizes a highway in use (R47). -/
abbrev TakesUsed (r : ReqRecord) (h : HwyId) (s : State) : Prop :=
  s.hwys[h].align ≠ .disabled ∧ (reqByte r 0x09 = 0 ∨ reqByte r 0x0A ≠ s.hwys[h].slotCount) ∧ s.hwyInUse h = true

/-- A SETHWY enables or resizes a highway past the slot budget (R48). -/
abbrev PassesBudget (r : ReqRecord) (h : HwyId) (s : State) : Prop :=
  reqByte r 0x09 = 1 ∧ (s.hwys[h].align = .disabled ∨ reqByte r 0x0A ≠ s.hwys[h].slotCount) ∧
    1024 < budgetUsed (s.hwys.set h (sethwyPort r s.hwys[h]))

/-- SETHWY's checks in their order (R46 to R48). -/
theorem State.sethwyCheck_eq (s : State) (h : HwyId) (r : ReqRecord) (h9 : reqByte r 0x09 = 0 ∨ reqByte r 0x09 = 1) :
    s.sethwyCheck h (reqByte r 0x0A) (hwyChange s.hwys[h] r) =
      if TakesUsed r h s then some .highwayInUse else if PassesBudget r h s then some .budget else none := by
  have hbudget : reqByte r 0x09 = 1 →
      s.budgetWith h (reqByte r 0x0A) = budgetUsed (s.hwys.set h (sethwyPort r s.hwys[h])) := by
    intro h1
    obtain ⟨hen, hn⟩ := sethwyPort_enabled (p := s.hwys[h]) h1
    rw [← s.budgetWith_eq h _ hen, hn]
  unfold TakesUsed PassesBudget
  generalize s.hwys[h] = p at hbudget ⊢
  rcases h9 with h0 | h1
  · by_cases hd : p.align = .disabled <;> simp [hwyChange, State.sethwyCheck, Highway.enabled, h0, hd]
  · rw [← hbudget h1]
    by_cases hd : p.align = .disabled
    · simp [hwyChange, State.sethwyCheck, Highway.enabled, h1, hd, Config.slotBudget]; rfl
    · by_cases hsame : reqByte r 0x0A = p.slotCount
      · simp [hwyChange, State.sethwyCheck, Highway.enabled, h1, hd, hsame]
      · simp [hwyChange, State.sethwyCheck, Highway.enabled, h1, hd, hsame, Config.slotBudget]; rfl

/-- Carrying out a SETHWY that costs no alignment (R10, R49). -/
theorem State.changeHwy_eq (s : State) (h : HwyId) (r : ReqRecord)
    (hkeep : s.hwys[h].align = .aligned → (sethwyPort r s.hwys[h]).align = .aligned) :
    s.changeHwy h r (hwyChange s.hwys[h] r) =
      { s with hwys := s.hwys.set h (sethwyPort r s.hwys[h]), map := s.map.set h (sethwyMap r s.hwys[h] s.map[h]) } := by
  unfold State.changeHwy
  rw [Highway.change_eq, changeDrivers_eq]
  exact if_neg fun hlost => hlost.2 (hkeep (of_decide_eq_true hlost.1))

/-- Only the two bytes change when an enabled highway keeps its slot count (R46). -/
theorem sethwyPort_bytesOnly {r : ReqRecord} {p : Highway} (h1 : reqByte r 0x09 = 1) (hn : reqByte r 0x0A = p.slotCount)
    (ha : p.align = .aligned) : (sethwyPort r p).align = .aligned := by
  simp [sethwyPort, h1, hn, ha]

theorem sethwyBody_refused {r : ReqRecord} {s : State} {st : Status} (h : Hand) (hfields : sethwyFieldsOk r = true)
    (hcheck : s.sethwyCheck (reqHwy r 0x08) (reqByte r 0x0A) (hwyChange s.hwys[reqHwy r 0x08] r) = some st) :
    sethwyBody r h s = s.failRequest h st := by
  simp only [sethwyBody, if_pos hfields, hcheck]

theorem sethwyBody_carried {r : ReqRecord} {s t : State} (h : Hand) (hfields : sethwyFieldsOk r = true)
    (hcheck : s.sethwyCheck (reqHwy r 0x08) (reqByte r 0x0A) (hwyChange s.hwys[reqHwy r 0x08] r) = none)
    (hchange : s.changeHwy (reqHwy r 0x08) r (hwyChange s.hwys[reqHwy r 0x08] r) = t) :
    sethwyBody r h s = t.finishRequest h .ok (budgetUsed t.hwys) 0 := by
  simp only [sethwyBody, if_pos hfields, hcheck, hchange]

/-- A SETHWY that its checks let pass costs no alignment in the cases O21 asks for. -/
theorem aligned_kept {r : ReqRecord} {h : HwyId} {s : State} (h9 : reqByte r 0x09 = 0 ∨ reqByte r 0x09 = 1)
    (hcost : s.hwys[h].align ≠ .aligned ∨ reqByte r 0x09 = 1 ∧ reqByte r 0x0A = s.hwys[h].slotCount ∨
      s.hwyInUse h = true ∨ reqByte r 0x09 = 1 ∧ 1024 < budgetUsed (s.hwys.set h (sethwyPort r s.hwys[h])))
    (huse : ¬TakesUsed r h s) (hbudget : ¬PassesBudget r h s) (ha : s.hwys[h].align = .aligned) :
    (sethwyPort r s.hwys[h]).align = .aligned := by
  have hne : s.hwys[h].align ≠ .disabled := by rw [ha]; decide
  have hsame : reqByte r 0x09 = 1 ∧ reqByte r 0x0A = s.hwys[h].slotCount := by
    rcases hcost with hna | hsame | hused | ⟨h1, hover⟩
    · exact absurd ha hna
    · exact hsame
    · exact ⟨h9.resolve_left fun h0 => huse ⟨hne, .inl h0, hused⟩, by_contra fun hn => huse ⟨hne, .inr hn, hused⟩⟩
    · exact ⟨h1, by_contra fun hn => hbudget ⟨h1, .inr hn, hover⟩⟩
  exact sethwyPort_bytesOnly hsame.1 hsame.2 ha

/-- Settles O21: the checks refuse, or they leave a change that keeps an ALIGNED highway so. -/
theorem sethwyCarriedOut : Obligations.SethwyCarriedOut := by
  unfold Obligations.SethwyCarriedOut
  intro r f s hf hr hbody hcost
  have hfields : sethwyFieldsOk r = true := hbody.checks
  have h9 := sethwyFieldsOk_enable hfields
  have hcheck := (executing f s).sethwyCheck_eq (reqHwy r 0x08) r h9
  show done (s.request r sethwyBody) = _
  rw [hf.request hr]
  by_cases huse : TakesUsed r (reqHwy r 0x08) s
  · rw [sethwyBody_refused _ hfields (hcheck.trans (if_pos huse))]
    dsimp only
    rw [if_pos huse]
    exact (congrArg done (hf.finish r .highwayInUse 0 (inHand f s) rfl rfl)).trans (done_answer _ _ _ _ hf.online)
  by_cases hbudget : PassesBudget r (reqHwy r 0x08) s
  · rw [sethwyBody_refused _ hfields (hcheck.trans ((if_neg huse).trans (if_pos hbudget)))]
    dsimp only
    rw [if_neg huse, if_pos hbudget]
    exact (congrArg done (hf.finish r .budget 0 (inHand f s) rfl rfl)).trans (done_answer _ _ _ _ hf.online)
  have hchange := (executing f s).changeHwy_eq (reqHwy r 0x08) r (aligned_kept h9 hcost huse hbudget)
  rw [sethwyBody_carried _ hfields (hcheck.trans ((if_neg huse).trans (if_neg hbudget))) hchange]
  dsimp only
  rw [if_neg huse, if_neg hbudget]
  have hfinish := hf.finish r .ok (budgetUsed (s.hwys.set (reqHwy r 0x08) (sethwyPort r s.hwys[reqHwy r 0x08])))
    { inHand f s with
      hwys := s.hwys.set (reqHwy r 0x08) (sethwyPort r s.hwys[reqHwy r 0x08])
      map := s.map.set (reqHwy r 0x08) (sethwyMap r s.hwys[reqHwy r 0x08] s.map[reqHwy r 0x08]) } rfl rfl
  exact (congrArg done hfinish).trans (done_answer _ _ _ _ hf.online)

/-! ### CONNECT and DISCONNECT -/

/-- The highway and slot check, in its order (R13). -/
theorem State.slotCheck_eq (s : State) (h : HwyId) (n : Nat) :
    s.slotCheck h n =
      if s.hwys[h].align = .disabled then some .noHighway
      else if s.hwys[h].slotCount ≤ n then some .noSlot
      else none := by
  simp only [State.slotCheck, Highway.enabled, ne_eq, not_not]

/-- The check of the prospective driver, and the capacity check (R14). -/
theorem State.targetCheck_eq (s : State) (h : HwyId) (n : Nat) :
    s.targetCheck h n =
      if ∃ ch, (s.prospective none h n).1 = .channel ch then some .slotBusy
      else if lookupKey ⟨h, n⟩ s.mc.targets = none ∧ 256 ≤ entryCount s then some .stagingFull
      else none := by
  unfold State.targetCheck
  cases (s.prospective none h n).1 <;> simp [Config.stagingLimit, entryCount, MapControl.count] <;> rfl

/-- The answer to a staging request by its checks: the first failure's status, or the set `t` that it leaves (R14, R16). -/
def stageAnswer (r : ReqRecord) (s t : State) : Option Status → State
  | some st => answer r st 0 s
  | none => answerStaged r .staged t

@[simp] theorem stageAnswer_some (r : ReqRecord) (s t : State) (st : Status) :
    stageAnswer r s t (some st) = answer r st 0 s := rfl

@[simp] theorem stageAnswer_none (r : ReqRecord) (s t : State) : stageAnswer r s t none = answerStaged r .staged t := rfl

/-- One check more: its status, or the answer by the rest. -/
theorem stageAnswer_ite (r : ReqRecord) (s t : State) (c : Prop) [Decidable c] (a b : Option Status) :
    stageAnswer r s t (if c then a else b) = if c then stageAnswer r s t a else stageAnswer r s t b :=
  apply_ite ..

/-- CONNECT's checks in their order (R13, R14). -/
theorem State.connectCheck_eq (s : State) (r : ReqRecord) :
    s.connectCheck r =
      if s.hwys[reqHwy r 0x08].align = .disabled then some .noHighway
      else if s.hwys[reqHwy r 0x08].slotCount ≤ reqByte r 0x09 then some .noSlot
      else if reqByte r 0x0A = 1 ∧ s.hwys[reqHwy r 0x0B].align = .disabled then some .noHighway
      else if reqByte r 0x0A = 1 ∧ s.hwys[reqHwy r 0x0B].slotCount ≤ reqByte r 0x0C then some .noSlot
      else s.targetCheck (reqHwy r 0x08) (reqByte r 0x09) := by
  simp only [State.connectCheck, State.slotCheck_eq, firstFailure]
  by_cases hsource : reqByte r 0x0A = 1
  · simp only [hsource, true_and, if_true]
    split_ifs <;> simp
  · simp only [hsource, false_and, if_false]
    split_ifs <;> simp

/-- DISCONNECT's checks in their order (R16). -/
theorem State.disconnectCheck_eq (s : State) (r : ReqRecord) :
    s.disconnectCheck r =
      if s.hwys[reqHwy r 0x08].align = .disabled then some .noHighway
      else if s.hwys[reqHwy r 0x08].slotCount ≤ reqByte r 0x09 then some .noSlot
      else s.targetCheck (reqHwy r 0x08) (reqByte r 0x09) := by
  simp only [State.disconnectCheck, State.slotCheck_eq, firstFailure]
  split_ifs <;> simp

/-- A request that stages a target entry when its checks let it pass, in the terms of Safety.lean (R15, R16, R22). -/
theorem Fetching.stageTarget {f : Op} {s : State} (hf : Fetching f s) (r : ReqRecord) (h : HwyId) (n : Nat) (x : Target)
    (check : Option Status) :
    done (match check with
      | some st => (executing f s).failRequest { ring := ringOf r, tag := r.tag, frame := 0 } st
      | none => State.stagingDone { ring := ringOf r, tag := r.tag, frame := 0 } r.immediate .staged
          ((executing f s).stageTarget h n x)) =
      .next (stageAnswer r (inHand f s)
        { inHand f s with mc := { s.mc with targets := putKey SlotRef.rank ⟨h, n⟩ x s.mc.targets } } check) := by
  cases check with
  | some st => exact (congrArg done (hf.finish r st 0 (inHand f s) rfl rfl)).trans (done_answer _ _ _ _ hf.online)
  | none =>
    have hstaged := hf.stagingDone r .staged
      { inHand f s with mc := { s.mc with targets := putKey SlotRef.rank ⟨h, n⟩ x s.mc.targets } } rfl rfl
    exact (congrArg done hstaged).trans (done_answerStaged _ _ _ hf.online)

/-- CONNECT that passes its header and body checks (R13 to R15). -/
theorem Fetching.connect {f : Op} {s : State} (hf : Fetching f s) {r : ReqRecord} (hr : HeaderPasses r s)
    (hbody : BodyPasses (.connect r) r s) :
    exec (.connect r) s = .next (stageAnswer r (inHand f s)
      { inHand f s with mc := { s.mc with
          targets := putKey SlotRef.rank ⟨reqHwy r 0x08, reqByte r 0x09⟩ (connectTarget r) s.mc.targets } }
      (s.connectCheck r)) := by
  have hfields : connectFieldsOk r = true := hbody.checks
  show done (s.request r connectBody) = _
  rw [hf.request hr, connectBody, if_pos hfields]
  exact hf.stageTarget r (reqHwy r 0x08) (reqByte r 0x09) (connectTarget r) (s.connectCheck r)

/-- DISCONNECT that passes its header and body checks (R16). -/
theorem Fetching.disconnect {f : Op} {s : State} (hf : Fetching f s) {r : ReqRecord} (hr : HeaderPasses r s)
    (hbody : BodyPasses (.disconnect r) r s) :
    exec (.disconnect r) s = .next (stageAnswer r (inHand f s)
      { inHand f s with mc := { s.mc with
          targets := putKey SlotRef.rank ⟨reqHwy r 0x08, reqByte r 0x09⟩ .none s.mc.targets } }
      (s.disconnectCheck r)) := by
  have hfields : (reservedOk r [(0x08, 2)] && reqByte r 0x08 ≤ 15 && reqByte r 0x09 ≤ 127) = true := hbody.checks
  show done (s.request r disconnectBody) = _
  rw [hf.request hr, disconnectBody, if_pos hfields]
  exact hf.stageTarget r (reqHwy r 0x08) (reqByte r 0x09) .none (s.disconnectCheck r)

/-- Settles O23: the checks in their order, and the entry that a request which passes them stages. -/
theorem connectAndDisconnect : Obligations.ConnectAndDisconnect := by
  unfold Obligations.ConnectAndDisconnect
  rintro r f s hf hr x c h n rfl rfl (⟨rfl, rfl⟩ | ⟨rfl, rfl⟩) hbody
  · rw [hf.connect hr hbody, State.connectCheck_eq, State.targetCheck_eq, connectTarget]
    simp only [stageAnswer_ite, stageAnswer_some, stageAnswer_none, true_and]
  · rw [hf.disconnect hr hbody, State.disconnectCheck_eq, State.targetCheck_eq]
    simp only [stageAnswer_ite, stageAnswer_some, stageAnswer_none, reduceCtorEq, false_and, if_false]

end Sys2Proof.Machine
end

section
/-! PROOFS. What the channels' work in one event does to one of them: a channel's step acts on its own record and its own
operations, and hands on records. -/

set_option Elab.async false

namespace Sys2Proof.Machine

/-! ### What a channel's step may give -/

/-- A record for a completion ring: anything a source hands on but the REQUEST_DONE of a COMMIT. -/
def Post.IsRecord (p : Post) : Prop := ∃ ring r, p = .record ring r

theorem eventPost_isRecord {online : Bool} {now : Word32} {e : Event} : ∀ p ∈ eventPost online now e, p.IsRecord := by
  intro p hp
  unfold eventPost at hp
  split at hp
  · exact ⟨none, _, List.mem_singleton.1 hp⟩
  · cases hp

/-- A step of channel `c` issues operations of `c` alone, and hands on records. -/
structure ChanOut.OwnTo (c : ChanId) (o : ChanOut) : Prop where
  ops : ∀ r ∈ o.ops, r.kind.chan? = some c
  posts : ∀ p ∈ o.posts, p.IsRecord

section Own

variable {c : ChanId} {env : ChanEnv} {ch : Chan}

theorem Chan.only_own : ch.only.OwnTo c := ⟨fun _ h => (nomatch h), fun _ h => (nomatch h)⟩

/-- A step that issues nothing and hands on records. -/
theorem ChanOut.own_of_posts {st : Stales} {ps : List Post} (h : ∀ p ∈ ps, p.IsRecord) :
    ChanOut.OwnTo c { ch := ch, stales := st, ops := [], posts := ps } :=
  ⟨fun _ h => (nomatch h), h⟩

/-- More records handed on before a step's own. -/
theorem ChanOut.OwnTo.addPosts {o : ChanOut} (ho : o.OwnTo c) {ps : List Post} (h : ∀ p ∈ ps, p.IsRecord) :
    ChanOut.OwnTo c { o with posts := ps ++ o.posts } :=
  ⟨ho.ops, fun p hp => (List.mem_append.1 hp).elim (h p) (ho.posts p)⟩

theorem ChanEnv.post_isRecord {e : Event} : ∀ p ∈ env.post e, p.IsRecord := eventPost_isRecord

theorem Chan.enterStarved_isRecord : ∀ p ∈ (ch.enterStarved env).2, p.IsRecord := by
  unfold Chan.enterStarved
  split
  · exact ChanEnv.post_isRecord
  · exact fun _ h => (nomatch h)

theorem Chan.fault_own (k : ChanOpKind) (timeout : Bool) : (ch.fault env k timeout).OwnTo c :=
  ChanOut.own_of_posts ChanEnv.post_isRecord

theorem Chan.failure_own (k : Option ChanOpKind) (timeout : Bool) : (ch.failure env k timeout).OwnTo c := by
  unfold Chan.failure
  cases ch.st
  case priming => cases k <;> [exact Chan.only_own; exact Chan.fault_own _ _]
  case running => cases k <;> [exact Chan.only_own; exact Chan.fault_own _ _]
  case starved => cases k <;> [exact Chan.only_own; exact Chan.fault_own _ _]
  all_goals exact Chan.only_own

theorem Chan.finishClose_own : (ch.finishClose env).OwnTo c := ChanOut.own_of_posts ChanEnv.post_isRecord

theorem Chan.unsent_own (k : OpKind) : (ch.unsent env k).OwnTo c := by
  unfold Chan.unsent
  dsimp only
  split
  · exact ChanOut.own_of_posts ChanEnv.post_isRecord
  · exact Chan.failure_own _ _

theorem Chan.issue_own {r : OpReq} {rest : ChanOut} (hr : r.kind.chan? = some c) (h : rest.OwnTo c) :
    (ch.issue env r rest).OwnTo c := by
  unfold Chan.issue
  split
  · exact ⟨List.forall_mem_cons.2 ⟨hr, h.ops⟩, h.posts⟩
  · exact Chan.unsent_own _

theorem Chan.issue?_own {r : Option OpReq} {rest : ChanOut} (hr : ∀ q, r = some q → q.kind.chan? = some c)
    (h : rest.OwnTo c) : (ch.issue? env r rest).OwnTo c := by
  cases r
  · exact h
  · exact Chan.issue_own (hr _ rfl) h

theorem Chan.pump_own (hid : env.id = c) : (ch.pump env).OwnTo c := by
  subst hid
  unfold Chan.pump
  split_ifs
  · unfold Chan.issueWriteBack
    split
    · exact Chan.issue_own rfl Chan.only_own
    · exact Chan.only_own
  · exact Chan.issue_own rfl Chan.only_own
  · exact Chan.issue_own rfl Chan.only_own
  · exact Chan.finishClose_own
  · exact Chan.only_own

theorem Chan.close_own : (ch.close env).OwnTo c := by
  unfold Chan.close
  cases ch.st
  case faulted => exact ChanOut.own_of_posts ChanEnv.post_isRecord
  all_goals exact ⟨fun _ h => (nomatch h), fun _ h => (nomatch h)⟩

theorem Chan.applyEntry_own (e : ChanEntry) : (ch.applyEntry e env).OwnTo c := by
  cases e with
  | openEntry p => exact ⟨fun _ h => (nomatch h), fun _ h => (nomatch h)⟩
  | closeEntry => exact Chan.close_own
  | reslotEntry h l =>
    unfold Chan.applyEntry Chan.applyReslot
    cases ch.st <;> exact ⟨fun _ h => (nomatch h), fun _ h => (nomatch h)⟩

theorem Chan.endDesc_own (hid : env.id = c) (cur : Current) : (ch.endDesc env cur).OwnTo c := by
  subst hid
  unfold Chan.endDesc
  split
  · dsimp only
    split
    · split
      · exact Chan.only_own
      · exact Chan.issue_own rfl Chan.only_own
    · exact ChanOut.own_of_posts Chan.enterStarved_isRecord
  · exact ChanOut.own_of_posts Chan.enterStarved_isRecord
  · exact ChanOut.own_of_posts Chan.enterStarved_isRecord

theorem Chan.afterFrame_own (hid : env.id = c) (cur : Current) : (ch.afterFrame env cur).OwnTo c := by
  unfold Chan.afterFrame
  split
  · exact Chan.endDesc_own hid cur
  · subst hid
    dsimp only
    split
    · exact Chan.only_own
    · exact Chan.issue_own rfl Chan.only_own

theorem Chan.lookaheadRead?_own (hid : env.id = c) (cur : Current) (k : Nat) :
    ∀ q, ch.lookaheadRead? env cur k = some q → q.kind.chan? = some c := by
  subst hid
  unfold Chan.lookaheadRead?
  intro q hq
  dsimp only at hq
  split at hq
  · split at hq
    · cases hq
    · cases hq; rfl
  · split at hq
    · split at hq
      · cases hq; rfl
      · cases hq
    · cases hq

theorem Chan.moveFrame_own (hid : env.id = c) (rf : ReadFrame) (cur : Current) : (ch.moveFrame env rf cur).OwnTo c := by
  have hlook := Chan.lookaheadRead?_own (ch := ch) hid cur (cur.moved + 1)
  unfold Chan.moveFrame
  dsimp only
  split
  · refine Chan.issue_own ?_ (Chan.issue?_own hlook (Chan.afterFrame_own hid _))
    subst hid; rfl
  · exact Chan.issue?_own hlook (Chan.afterFrame_own hid _)

theorem Chan.frame_own (hid : env.id = c) (rf : ReadFrame) : (ch.frame env rf).OwnTo c := by
  unfold Chan.frame
  cases ch.st
  case running =>
    dsimp only
    split
    · exact Chan.moveFrame_own hid _ _
    · exact Chan.only_own
  case starved =>
    refine Chan.issue?_own (fun q hq => ?_) Chan.only_own
    subst hid
    split at hq
    · cases hq; rfl
    · cases hq
  all_goals exact Chan.only_own

end Own

end Sys2Proof.Machine
end

section
/-! PROOFS. One channel among those that act in an event: it stands while others act, and where it acts itself. -/

set_option Elab.async false

namespace Sys2Proof.Machine

/-! ### A channel that stands -/

/-- From `s` to `t` channel `c`, its operations in flight and configuration space stand. -/
structure ChanStands (c : ChanId) (s t : State) : Prop where
  chan : t.chans[c] = s.chans[c]
  ops : opsOf c t = opsOf c s
  cfg : t.cfg = s.cfg

theorem ChanStands.refl (c : ChanId) (s : State) : ChanStands c s s := ⟨rfl, rfl, rfl⟩

theorem ChanStands.trans {c : ChanId} {s t u : State} (h : ChanStands c s t) (k : ChanStands c t u) : ChanStands c s u :=
  ⟨k.chan.trans h.chan, k.ops.trans h.ops, k.cfg.trans h.cfg⟩

theorem ChanStands.symm {c : ChanId} {s t : State} (h : ChanStands c s t) : ChanStands c t s :=
  ⟨h.chan.symm, h.ops.symm, h.cfg.symm⟩

theorem getElem_set_other {c d : ChanId} (h : d ≠ c) (v : Vector Chan 128) (ch : Chan) : (v.set c ch)[d] = v[d] := by
  have hne : c.val ≠ d.val := fun e => h (Fin.ext e.symm)
  simp [Vector.getElem_set_ne, hne]

theorem filter_map_unchanged {p : Op → Bool} {f : Op → Op} (hp : ∀ o, p (f o) = p o) (hf : ∀ o, p o = true → f o = o)
    (l : List Op) : (l.map f).filter p = l.filter p := by
  rw [List.filter_map, show p ∘ f = p from funext hp]
  exact (List.map_congr_left fun o ho => hf o (List.mem_filter.1 ho).2).trans (List.map_id _)

/-- Marking the operations of one channel leaves those of another. -/
theorem opsOf_staleChan_other {c d : ChanId} (h : d ≠ c) (st : Stales) (s : State) :
    opsOf d { s with link := s.link.staleChan c st } = opsOf d s := by
  have hmark : ∀ p : OpKind → Bool, (∀ k, p k = true → k.chan? = some c) →
      opsOf d { s with link := s.link.mark .stale p } = opsOf d s := by
    intro p hp
    refine filter_map_unchanged (fun o => ?_) (fun o ho => if_neg fun e => ?_) s.link.ops
    · split <;> rfl
    · have hc := hp o.kind (Bool.and_eq_true_iff.1 e).1
      exact h (Option.some.inj ((beq_iff_eq.1 ho).symm.trans hc))
  cases st
  · rfl
  · exact hmark _ fun k hk => beq_iff_eq.1 (Bool.and_eq_true_iff.1 hk).1
  · exact hmark _ fun k hk => beq_iff_eq.1 hk

theorem opsOf_issueReq (d : ChanId) (r : OpReq) (s : State) (h : r.kind.chan? ≠ some d) :
    opsOf d (s.issueReq r) = opsOf d s := by
  rw [State.issueReq_eq]
  cases r <;> simpa [opsOf_issued, OpReq.kind] using h

theorem chanStands_issueReqs {d : ChanId} (rs : List OpReq) (s : State) (h : ∀ r ∈ rs, r.kind.chan? ≠ some d) :
    ChanStands d s (rs.foldl (fun s r => s.issueReq r) s) := by
  induction rs generalizing s with
  | nil => exact .refl d s
  | cons r rs ih =>
    obtain ⟨hr, hrs⟩ := List.forall_mem_cons.1 h
    exact .trans ⟨by simp, opsOf_issueReq d r s hr, by simp⟩ (ih _ hrs)

/-- A channel stands while another acts. -/
theorem chanStands_chanStep {c d : ChanId} (h : d ≠ c) {o : ChanOut} (ho : o.OwnTo c) (s : State) :
    ChanStands d s (s.chanStep c o) := by
  have hset : ChanStands d s { s with chans := s.chans.set c o.ch, link := s.link.staleChan c o.stales } :=
    ⟨getElem_set_other h s.chans o.ch, opsOf_staleChan_other h o.stales s, rfl⟩
  exact hset.trans (chanStands_issueReqs o.ops _ fun r hr e => h (Option.some.inj (e.symm.trans (ho.ops r hr))))

theorem chanStands_chanAct {c d : ChanId} (h : d ≠ c) {o : ChanOut} (ho : o.OwnTo c) (s : State) :
    ChanStands d s (s.chanAct c o).1 :=
  (chanStands_chanStep h ho s).trans (chanStands_chanStep h (Chan.pump_own rfl) _)

/-- Outside ONLINE no record is taken (R178, R190). -/
theorem State.takePosts_offline (ps : List Post) (s : State) (h : s.dev.st ≠ .online) : s.takePosts ps = s := by
  have hoff : s.isOnline = false := decide_eq_false h
  induction ps with
  | nil => rfl
  | cons p ps ih =>
    have hp : s.takePost p = s := by
      cases p with
      | record ring r => simp [State.takePost, State.offer, hoff]
      | done hand st v f => simp [State.takePost, State.finishRequest, State.handDone, hoff]
    rw [State.takePosts_cons, hp, ih]

/-- Operations that are no channel's leave those of a channel. -/
theorem opsOf_append (c : ChanId) (s : State) (os : List Op) (n : Nat) (ms : List Nat) (h : ∀ o ∈ os, o.kind.chan? = none) :
    opsOf c { s with link := { ops := s.link.ops ++ os, nextId := n, messages := ms } } = opsOf c s := by
  have hnone : (os.filter fun o => o.kind.chan? == some c) = [] :=
    List.filter_eq_nil_iff.2 fun o ho => by simp [h o ho]
  simp [opsOf, hnone]

theorem opsOf_afterPlace (c : ChanId) (n : RingId) (rec : Record) (s : State) :
    opsOf c (afterPlace n rec s) = opsOf c s :=
  opsOf_append c s [recordOp s.link.nextId n s.comp.rings[n] rec] _ _ fun o ho => by
    rw [List.mem_singleton.1 ho]; rfl

theorem opsOf_afterRequest (c : ChanId) (s : State) : opsOf c (afterRequest s) = opsOf c s := by
  unfold afterRequest
  split_ifs
  · rfl
  · rfl
  · exact opsOf_append c s [fetchOp s.link.nextId s.proc] _ _ fun o ho => by rw [List.mem_singleton.1 ho]; rfl

theorem opsOf_afterDone (c : ChanId) (n : RingId) (d : ReqDone) (s : State) : opsOf c (afterDone n d s) = opsOf c s := by
  unfold afterDone
  split_ifs
  · rw [opsOf_afterRequest, opsOf_afterPlace]
  · rw [opsOf_afterRequest]; rfl
  · rfl

theorem opsOf_takePost (c : ChanId) (p : Post) (s : State) (hb : s.cfg.busMaster = true) :
    opsOf c (s.takePost p) = opsOf c s := by
  by_cases ho : s.dev.st = .online
  · cases p with
    | record ring r =>
      show opsOf c (s.offer _ r) = _
      unfold State.offer
      split_ifs
      · rfl
      · rw [State.place_eq _ _ _ hb, opsOf_afterPlace]
      · rfl
    | done hand st v f =>
      show opsOf c (s.handDone _ _) = _
      rw [State.handDone_eq _ _ _ hb ho, opsOf_afterDone]
  · rw [show s.takePost p = s from s.takePosts_offline [p] ho]

/-- A channel stands while records are taken and operations are sent. -/
theorem chanStands_takePosts (c : ChanId) (ps : List Post) (s : State) (hb : s.cfg.busMaster = true) :
    ChanStands c s (s.takePosts ps) := by
  induction ps generalizing s with
  | nil => exact .refl c s
  | cons p ps ih =>
    have hp : ChanStands c s (s.takePost p) :=
      ⟨by rw [State.takePost_chans _ _ hb], opsOf_takePost c p s hb, State.takePost_cfg _ _⟩
    exact hp.trans (ih _ (by rw [hp.cfg]; exact hb))

/-! ### Several channels act one after the other -/

/-- Channels act one after the other, each by its step on the record and the surroundings it finds. -/
def actAll {α : Type} (key : α → ChanId) (out : α → Chan → ChanEnv → ChanOut) (as : List α) (s : State) : State :=
  as.foldl (fun s a => (s.chanAct (key a) (out a s.chans[key a] (s.chanEnv (key a)))).1) s

/-- Steps that act on the channel they are taken for. -/
def OutOwn {α : Type} (key : α → ChanId) (out : α → Chan → ChanEnv → ChanOut) : Prop :=
  ∀ a ch env, env.id = key a → (out a ch env).OwnTo (key a)

section Folds

variable {α : Type} {key : α → ChanId} {out : α → Chan → ChanEnv → ChanOut}

@[simp] theorem actAll_nil (s : State) : actAll key out [] s = s := rfl

theorem actAll_cons (a : α) (as : List α) (s : State) :
    actAll key out (a :: as) s =
      actAll key out as (s.chanAct (key a) (out a s.chans[key a] (s.chanEnv (key a)))).1 := rfl

/-- A channel that is not among them stands. -/
theorem actAll_stands (hown : OutOwn key out) {c : ChanId} {as : List α} (h : ∀ a ∈ as, key a ≠ c) (s : State) :
    ChanStands c s (actAll key out as s) := by
  induction as generalizing s with
  | nil => exact .refl c s
  | cons a as ih =>
    obtain ⟨ha, has⟩ := List.forall_mem_cons.1 h
    exact (chanStands_chanAct ha.symm (hown a _ _ rfl) s).trans (ih has _)

/-- A channel that is among them once acts on what stood before. -/
theorem actAll_at (hown : OutOwn key out) {as : List α} (hnodup : (as.map key).Nodup) {a : α} (ha : a ∈ as) (s : State) :
    ∃ u, ChanStands (key a) s u ∧
      ChanStands (key a) (u.chanAct (key a) (out a u.chans[key a] (u.chanEnv (key a)))).1 (actAll key out as s) := by
  induction as generalizing s with
  | nil => cases ha
  | cons b as ih =>
    obtain ⟨hb, has⟩ := List.nodup_cons.1 hnodup
    rw [actAll_cons]
    rcases List.mem_cons.1 ha with rfl | ha'
    · exact ⟨s, .refl _ s, actAll_stands hown (fun x hx e => hb (List.mem_map.2 ⟨x, hx, e⟩)) _⟩
    · obtain ⟨u, hsu, hut⟩ := ih has ha' (s.chanAct (key b) (out b s.chans[key b] (s.chanEnv (key b)))).1
      have hne : key a ≠ key b := fun e => hb (List.mem_map.2 ⟨a, ha', e⟩)
      exact ⟨u, (chanStands_chanAct hne (hown b _ _ rfl) s).trans hsu, hut⟩

@[simp] theorem actAll_cfg (as : List α) (s : State) : (actAll key out as s).cfg = s.cfg := by
  induction as generalizing s with
  | nil => rfl
  | cons a as ih => rw [actAll_cons, ih, State.chanAct_cfg]

@[simp] theorem actAll_dev (as : List α) (s : State) : (actAll key out as s).dev = s.dev := by
  induction as generalizing s with
  | nil => rfl
  | cons a as ih => rw [actAll_cons, ih, State.chanAct_dev]

/-- A fold that gathers the records of each step beside its state. -/
theorem foldl_gather {β : Type} (f : State → α → State × β) (as : List α) (s : State) (gs : List β) :
    (as.foldl (fun a e => ((f a.1 e).1, a.2 ++ [(f a.1 e).2])) (s, gs)).1 = as.foldl (fun s e => (f s e).1) s := by
  induction as generalizing s gs with
  | nil => rfl
  | cons a as ih => exact ih _ _

/-- What holds of the records of each step holds of all that are gathered. -/
theorem foldl_gather_forall {β : Type} {P : β → Prop} (f : State → α → State × β) (hf : ∀ s e, P (f s e).2)
    (as : List α) (s : State) (gs : List β) (hgs : ∀ g ∈ gs, P g) :
    ∀ g ∈ (as.foldl (fun a e => ((f a.1 e).1, a.2 ++ [(f a.1 e).2])) (s, gs)).2, P g := by
  induction as generalizing s gs with
  | nil => exact hgs
  | cons a as ih =>
    refine ih _ _ fun g hg => ?_
    rcases List.mem_append.1 hg with hg | hg
    · exact hgs g hg
    · rw [List.mem_singleton.1 hg]; exact hf s a

end Folds

/-- The records of a channel's step and of what it goes on to. -/
theorem State.chanAct_isRecord {c : ChanId} {o : ChanOut} (ho : o.OwnTo c) (s : State) :
    ∀ p ∈ (s.chanAct c o).2, p.IsRecord := fun p hp =>
  (List.mem_append.1 hp).elim (ho.posts p) ((Chan.pump_own (c := c) rfl).posts p)

theorem applyEntry_outOwn : OutOwn (Prod.fst : ChanId × ChanEntry → ChanId) fun e ch env => ch.applyEntry e.2 env :=
  fun _ _ _ _ => Chan.applyEntry_own _

theorem State.applyEntries_eq (es : List (ChanId × ChanEntry)) (s : State) :
    (s.applyEntries es).1 = actAll Prod.fst (fun e ch env => ch.applyEntry e.2 env) es s :=
  foldl_gather (fun s (e : ChanId × ChanEntry) => s.chanAct e.1 (s.chans[e.1].applyEntry e.2 (s.chanEnv e.1))) es s []

theorem State.applyEntries_isRecord (es : List (ChanId × ChanEntry)) (s : State) :
    ∀ g ∈ (s.applyEntries es).2, ∀ p ∈ g, p.IsRecord :=
  foldl_gather_forall (fun s (e : ChanId × ChanEntry) => s.chanAct e.1 (s.chans[e.1].applyEntry e.2 (s.chanEnv e.1)))
    (fun s _ => s.chanAct_isRecord (Chan.applyEntry_own _)) es s [] fun _ h => (nomatch h)

theorem frame_outOwn (reads : Vector ReadFrame 16) : OutOwn id fun _ ch env => ch.frame env reads[ch.hwy] :=
  fun _ _ _ hid => Chan.frame_own hid _

theorem State.moveChans_eq (reads : Vector ReadFrame 16) (cs : List ChanId) (s : State) :
    (s.moveChans reads cs).1 = actAll id (fun _ ch env => ch.frame env reads[ch.hwy]) cs s :=
  foldl_gather (fun s c => s.chanAct c (s.chans[c].frame (s.chanEnv c) reads[s.chans[c].hwy])) cs s []

theorem State.moveChans_isRecord (reads : Vector ReadFrame 16) (cs : List ChanId) (s : State) :
    ∀ g ∈ (s.moveChans reads cs).2, ∀ p ∈ g, p.IsRecord :=
  foldl_gather_forall (fun s c => s.chanAct c (s.chans[c].frame (s.chanEnv c) reads[s.chans[c].hwy]))
    (fun s _ => s.chanAct_isRecord (Chan.frame_own rfl _)) cs s [] fun _ h => (nomatch h)

/-- Outside ONLINE no record is taken: the channels that close do so one after the other (R90). -/
theorem State.closeAll_eq (s : State) (h : s.dev.st ≠ .online) :
    s.closeAll = actAll id (fun _ ch env => ch.close env)
      ((List.finRange 128).filter fun c => s.chans[c].st.closable) s := by
  unfold State.closeAll
  generalize ((List.finRange 128).filter fun c => s.chans[c].st.closable) = cs
  induction cs generalizing s with
  | nil => rfl
  | cons c cs ih =>
    have hevent : s.chanEvent c (s.chans[c].close (s.chanEnv c)) =
        (s.chanAct c (s.chans[c].close (s.chanEnv c))).1 :=
      State.takePosts_offline _ _ (by rw [State.chanAct_dev]; exact h)
    rw [List.foldl_cons, hevent]
    exact ih _ (by rw [State.chanAct_dev]; exact h)

theorem close_outOwn : OutOwn id fun _ ch env => ch.close env := fun _ _ _ _ => Chan.close_own

end Sys2Proof.Machine
end

section
/-! PROOFS. The parts of a device frame event, and O35: the send frames. -/

set_option Elab.async false

namespace Sys2Proof.Machine

/-! ### The parts of the event -/

/-- The read frames of an event (R58). -/
def State.reads (s : State) : Vector ReadFrame 16 := s.hwyTicks.map HwyTick.frame

/-- An event whose ports and timing unit have done their work (R54, R131). -/
def State.ticked (o : FrameOrder) (s : State) : State :=
  { s with hwys := s.hwyTicks.map HwyTick.port, tim := (s.timingTick o).1 }

/-- The event after the apply of a COMMIT in flight (R32). -/
def State.applied (o : FrameOrder) (s : State) : State :=
  if s.mc.inFlight then ((s.ticked o).applySet o).1 else s.ticked o

/-- The records of the apply (R37). -/
def State.applyPosts (o : FrameOrder) (s : State) : List Post :=
  if s.mc.inFlight then ((s.ticked o).applySet o).2 else []

/-- The event after the slot switch (R33). -/
def State.switched (o : FrameOrder) (s : State) : State := (s.applied o).sendFrames s.reads

/-- The event after the channels' work, and their records (R74, R75, R80). -/
def State.moved (o : FrameOrder) (s : State) : State × List (List Post) :=
  (s.switched o).moveChans s.reads (s.switched o).movers

/-- The records of an event, by source (R172). -/
def State.eventGroups (o : FrameOrder) (s : State) : List (List Post) :=
  s.hwyTicks.toList.map (fun k => k.events.flatMap fun e => eventPost s.isOnline s.now e) ++
    [timingPosts s.isOnline s.now (s.timingTick o).2] ++ [s.applyPosts o] ++ (s.moved o).2

theorem State.runEvent_eq (o : FrameOrder) (s : State) :
    s.runEvent o = (s.moved o).1.takePosts (merge o.picks (s.eventGroups o)) := by
  unfold State.runEvent State.eventGroups State.moved State.switched State.applied State.applyPosts
  cases s.mc.inFlight <;> rfl

@[simp] theorem State.ticked_mc (o : FrameOrder) (s : State) : (s.ticked o).mc = s.mc := rfl
@[simp] theorem State.ticked_map (o : FrameOrder) (s : State) : (s.ticked o).map = s.map := rfl
@[simp] theorem State.ticked_chans (o : FrameOrder) (s : State) : (s.ticked o).chans = s.chans := rfl

@[simp] theorem State.applySet_map (o : FrameOrder) (s : State) : (s.applySet o).1.map = s.prospectiveMap := by
  simp [State.applySet]

@[simp] theorem State.applied_hwys (o : FrameOrder) (s : State) :
    (s.applied o).hwys = s.hwyTicks.map HwyTick.port := by
  unfold State.applied
  split
  · exact State.applySet_hwys o _
  · rfl

@[simp] theorem State.applied_map (o : FrameOrder) (s : State) :
    (s.applied o).map = if s.mc.inFlight then s.prospectiveMap else s.map := by
  unfold State.applied
  split
  · exact State.applySet_map o _
  · rfl

/-- The map of an event: at an apply the prospective one (R11, R32). -/
theorem State.runEvent_map (o : FrameOrder) (s : State) :
    (s.runEvent o).map = if s.mc.inFlight then s.prospectiveMap else s.map := by
  rw [State.runEvent_eq, State.takePosts_map, State.moved, State.moveChans_map, State.switched, State.sendFrames_map,
    State.applied_map]

/-- What a transmit side sends from an event on (R5, R62). -/
theorem State.runEvent_tx (o : FrameOrder) (s : State) (h : HwyId) :
    (s.runEvent o).hwys[h].tx = (s.applied o).sendFrame s.reads h := by
  rw [State.runEvent_eq, State.takePosts_hwys, State.moved, State.moveChans_hwys]
  simp [State.switched, State.sendFrames]

/-! ### The ports at the event -/

section Ports

variable (online : Bool) (h : HwyId) (p : Highway)

theorem Highway.readAligned_keeps :
    (p.readAligned online h).port.align = p.align ∧ (p.readAligned online h).port.idle = p.idle ∧
      (p.readAligned online h).port.slotCount = p.slotCount := by
  unfold Highway.readAligned
  split
  · exact ⟨rfl, rfl, rfl⟩
  · split <;> exact ⟨rfl, rfl, rfl⟩

/-- A device frame event leaves a port's enable, idle byte and slot count (R45, R54). -/
theorem Highway.frameTick_keeps :
    ((p.frameTick online h).port.align = .disabled ↔ p.align = .disabled) ∧
      (p.frameTick online h).port.idle = p.idle ∧ (p.frameTick online h).port.slotCount = p.slotCount := by
  unfold Highway.frameTick
  cases ha : p.align
  case disabled => simp [ha]
  case lost => simp [ha]
  case searching => dsimp only; split <;> simp
  case aligned =>
    dsimp only
    split
    · simp [Highway.toSearching, Highway.unaligned]
    · obtain ⟨halign, hidle, hslots⟩ :=
        Highway.readAligned_keeps online h { p with align := .aligned, silence := p.silence + 1 }
      exact ⟨by simp [halign], hidle, hslots⟩

/-- The read frame of an enabled port (R54, R58). -/
theorem Highway.frameTick_bytes (hp : p.align ≠ .disabled) : (p.frameTick online h).frame.bytes = readFrame p := by
  unfold Highway.frameTick readFrame Highway.fallsSilent Config.silenceLimit
  cases ha : p.align
  case disabled => exact absurd ha hp
  case lost => simp [Highway.substituteFrame]
  case searching => dsimp only; split <;> simp [Highway.substituteFrame]
  case aligned =>
    by_cases hs : p.silence + 1 < 4
    · have hs' : ¬4 ≤ p.silence + 1 := by omega
      simp only [hs, hs', decide_true, decide_false, Bool.and_false, Bool.false_eq_true, if_false, and_self, if_true,
        Highway.readAligned]
      cases p.unread with
      | cons f rest => rfl
      | nil => cases p.last <;> rfl
    · have hs' : 4 ≤ p.silence + 1 := by omega
      simp [hs, hs', Highway.substituteFrame]

end Ports

theorem State.reads_getElem (s : State) (h : HwyId) : s.reads[h] = (s.hwys[h].frameTick s.isOnline h).frame := by
  simp [State.reads, State.hwyTicks]

theorem State.applied_hwy (o : FrameOrder) (s : State) (h : HwyId) :
    (s.applied o).hwys[h] = (s.hwys[h].frameTick s.isOnline h).port := by
  rw [State.applied_hwys]
  simp [State.hwyTicks]

/-! ### The bytes by driver (R2, R6, R7) -/

theorem State.driverByte_none (o : FrameOrder) (s : State) (h : HwyId) (n : Nat) :
    (s.applied o).driverByte s.reads h n .none = s.hwys[h].idle := by
  show (s.applied o).hwys[h].idle = _
  rw [State.applied_hwy]
  exact (Highway.frameTick_keeps _ _ _).2.1

theorem State.driverByte_connection (o : FrameOrder) (s : State) (h g : HwyId) (n k : Nat)
    (hen : s.hwys[g].align ≠ .disabled) (hk : k < s.hwys[g].slotCount) :
    (s.applied o).driverByte s.reads h n (.connection g k) = byteAt (readFrame s.hwys[g]) k := by
  obtain ⟨halign, -, hslots⟩ := Highway.frameTick_keeps s.isOnline g s.hwys[g]
  have hinput : (s.applied o).isInput g k = true := by
    unfold State.isInput Highway.enabled
    rw [State.applied_hwy, hslots]
    simp only [ne_eq, halign, hen, not_false_eq_true, decide_true, hk, Bool.and_self]
  show (if (s.applied o).isInput g k then byteAt s.reads[g].bytes k else _) = _
  rw [if_pos hinput, State.reads_getElem, Highway.frameTick_bytes _ _ _ hen]

/-- The byte of a channel that offers a frame (R7, R75). -/
theorem Chan.txByte_ready {ch : Chan} {d : Frame} {n : Nat} (hrun : ch.st = .running) (hready : ch.ready = some d)
    (hn : n ∈ ch.slots) (hlen : d.length = ch.slots.length) : some (ch.txByte n) = d[ch.slots.idxOf n]? := by
  have hlt : ch.slots.idxOf n < d.length := by rw [hlen]; exact List.idxOf_lt_length_of_mem hn
  simp [Chan.txByte, hrun, hready, hn, hlt]

/-- The byte of a channel that offers none (R7, R75). -/
theorem Chan.txByte_idle {ch : Chan} {n : Nat} (h : ch.st ≠ .running ∨ ch.ready = none) : ch.txByte n = ch.idle := by
  unfold Chan.txByte
  rcases h with h | h
  · rw [if_neg h]
  · simp [h]

/-! ### The channels at an apply -/

theorem lookupKey_none {κ ν : Type} [DecidableEq κ] {k : κ} {l : List (κ × ν)} (h : lookupKey k l = none) :
    ∀ e ∈ l, e.1 ≠ k := by
  rintro e he rfl
  have := (lookupKey_isSome e.1 l).2 (List.mem_map_of_mem he)
  rw [h] at this
  cases this

theorem State.applySet_chans (o : FrameOrder) (s : State) :
    (s.applySet o).1.chans = (({ s with map := s.prospectiveMap } : State).applyEntries s.mc.entries).1.chans := rfl

theorem State.applySet_link (o : FrameOrder) (s : State) :
    (s.applySet o).1.link = (({ s with map := s.prospectiveMap } : State).applyEntries s.mc.entries).1.link := rfl

/-- The channels' part of the apply is what one entry after the other does (R34 to R36). -/
theorem State.applySet_stands (o : FrameOrder) (s : State) (c : ChanId) :
    ChanStands c (actAll Prod.fst (fun e ch env => ch.applyEntry e.2 env) s.mc.entries
      { s with map := s.prospectiveMap }) (s.applySet o).1 := by
  rw [← State.applyEntries_eq]
  refine ⟨by rw [State.applySet_chans], ?_, by rw [State.applySet_cfg, State.applyEntries_cfg]⟩
  unfold opsOf
  rw [State.applySet_link]

theorem State.ticked_stands (o : FrameOrder) (s : State) (c : ChanId) : ChanStands c s (s.ticked o) := ⟨rfl, rfl, rfl⟩

theorem State.applied_of_inFlight (o : FrameOrder) {s : State} (h : s.mc.inFlight = true) :
    s.applied o = ((s.ticked o).applySet o).1 := if_pos h

theorem State.applied_of_not_inFlight (o : FrameOrder) {s : State} (h : s.mc.inFlight = false) :
    s.applied o = s.ticked o := if_neg (Bool.eq_false_iff.1 h)

theorem State.withMap_stands (c : ChanId) (m : Vector (List Driver) 16) (s : State) :
    ChanStands c s { s with map := m } := ⟨rfl, rfl, rfl⟩

/-- A channel without an entry stands through the apply (R32). -/
theorem State.applied_stands (o : FrameOrder) (s : State) {c : ChanId}
    (h : s.mc.inFlight = false ∨ lookupKey c s.mc.entries = none) : ChanStands c s (s.applied o) := by
  by_cases hfl : s.mc.inFlight = true
  · have hnone := h.resolve_left (Bool.not_eq_false _ ▸ hfl)
    rw [State.applied_of_inFlight o hfl]
    exact (s.ticked_stands o c).trans <| (State.withMap_stands c _ _).trans <|
      (actAll_stands applyEntry_outOwn (lookupKey_none hnone) _).trans ((s.ticked o).applySet_stands o c)
  · rw [State.applied_of_not_inFlight o (Bool.eq_false_iff.2 hfl)]
    exact s.ticked_stands o c

theorem Chan.failure_moves {ch : Chan} (h : ch.moves = false) (env : ChanEnv) (k : Option ChanOpKind) (timeout : Bool) :
    (ch.failure env k timeout).ch.moves = false := by
  unfold Chan.failure
  cases hs : ch.st
  case priming => cases k <;> simp [Chan.only, Chan.fault, Chan.toFaulted, Chan.moves, hs]
  case running => simp [Chan.moves, hs] at h
  case starved => simp [Chan.moves, hs] at h
  all_goals simp [Chan.only, Chan.failClosing, Chan.moves, hs]

/-- A channel that has no work at an event goes on to nothing by which it had. -/
theorem Chan.issue_moves {ch : Chan} (h : ch.moves = false) (env : ChanEnv) (r : OpReq) {rest : ChanOut}
    (hrest : rest.ch.moves = false) : (ch.issue env r rest).ch.moves = false := by
  unfold Chan.issue Chan.unsent
  split
  · exact hrest
  · dsimp only
    split
    · rfl
    · exact Chan.failure_moves h env _ _

theorem Chan.pump_moves {ch : Chan} (h : ch.moves = false) (env : ChanEnv) : (ch.pump env).ch.moves = false := by
  unfold Chan.pump
  split_ifs
  · unfold Chan.issueWriteBack
    split
    · exact Chan.issue_moves h env _ h
    · exact h
  · exact Chan.issue_moves h env _ h
  · have hwalk : ({ ch with walk := .walking 0 } : Chan).moves = false := h
    exact Chan.issue_moves hwalk env _ hwalk
  · rfl
  · exact h

/-- The apply of an entry leaves the channel without work at the event (R34 to R36). -/
theorem Chan.applyEntry_moves (ch : Chan) (e : ChanEntry) (env : ChanEnv) : (ch.applyEntry e env).ch.moves = false := by
  cases e with
  | openEntry p => rfl
  | closeEntry =>
    unfold Chan.applyEntry Chan.close
    cases hs : ch.st <;> simp [Chan.toClosing, Chan.only, Chan.moves, hs]
  | reslotEntry h l =>
    unfold Chan.applyEntry Chan.applyReslot
    cases hs : ch.st <;> simp [Chan.toPriming, Chan.only, Chan.moves, hs]

theorem State.chanAct_moves {c : ChanId} {o : ChanOut} (h : o.ch.moves = false) (s : State) :
    (s.chanAct c o).1.chans[c].moves = false := by
  have hstep : (s.chanStep c o).chans[c] = o.ch := by simp
  show ((s.chanStep c o).chanStep c ((s.chanStep c o).chans[c].pump _)).chans[c].moves = false
  rw [State.chanStep_chans, hstep]
  simpa using Chan.pump_moves h _

/-- A channel that acts by steps that leave it without work, or had none, has none after them. -/
theorem actAll_moves {α : Type} {key : α → ChanId} {out : α → Chan → ChanEnv → ChanOut} (hown : OutOwn key out)
    (hout : ∀ a ch env, (out a ch env).ch.moves = false) {c : ChanId} (as : List α) (s : State)
    (h : s.chans[c].moves = false ∨ c ∈ as.map key) : (actAll key out as s).chans[c].moves = false := by
  induction as generalizing s with
  | nil => exact h.resolve_right List.not_mem_nil
  | cons a as ih =>
    rw [actAll_cons]
    by_cases ha : key a = c
    · subst ha
      exact ih _ (.inl (State.chanAct_moves (hout _ _ _) s))
    · have hstands := chanStands_chanAct (Ne.symm ha) (hown a _ _ rfl) (o := out a s.chans[key a] (s.chanEnv (key a))) s
      refine ih _ (h.imp (fun hm => ?_) fun hm => ?_)
      · rw [hstands.chan]; exact hm
      · exact (List.mem_cons.1 hm).resolve_left (Ne.symm ha)

/-- A channel with an entry has no work at the event of the apply (R33). -/
theorem State.applied_moves (o : FrameOrder) (s : State) {c : ChanId} (hfl : s.mc.inFlight = true)
    (h : lookupKey c s.mc.entries ≠ none) : (s.applied o).chans[c].moves = false := by
  have hmem : c ∈ s.mc.entries.map Prod.fst := (lookupKey_isSome _ _).1 (Option.isSome_iff_ne_none.2 h)
  rw [State.applied_of_inFlight o hfl, ((s.ticked o).applySet_stands o c).chan]
  exact actAll_moves applyEntry_outOwn (fun e ch env => ch.applyEntry_moves e.2 env) _ _ (.inr hmem)

theorem State.mem_movers {s : State} {c : ChanId} : c ∈ s.movers ↔ s.chans[c].moves = true := by
  simp [State.movers]

theorem State.sendFrames_stands (c : ChanId) (reads : Vector ReadFrame 16) (s : State) :
    ChanStands c s (s.sendFrames reads) :=
  ⟨by rw [State.sendFrames_chans], by rw [opsOf, State.sendFrames_link, opsOf], State.sendFrames_cfg reads s⟩

/-- A channel without work at an event stands through the channels' work (R33). -/
theorem State.moveChans_stands (reads : Vector ReadFrame 16) (s : State) {c : ChanId} (h : s.chans[c].moves = false) :
    ChanStands c s (s.moveChans reads s.movers).1 := by
  rw [State.moveChans_eq]
  refine actAll_stands (frame_outOwn reads) (fun d hd e => ?_) s
  have hmoves := State.mem_movers.1 hd
  rw [show d = c from e, h] at hmoves
  exact Bool.false_ne_true hmoves

theorem State.moved_stands (o : FrameOrder) (s : State) {c : ChanId} (h : (s.applied o).chans[c].moves = false) :
    ChanStands c (s.applied o) (s.moved o).1 := by
  have hswitch : ChanStands c (s.applied o) (s.switched o) := State.sendFrames_stands c s.reads (s.applied o)
  have hmoves : (s.switched o).chans[c].moves = false := by rw [hswitch.chan]; exact h
  unfold State.moved
  exact hswitch.trans (State.moveChans_stands _ _ hmoves)

/-! ### The channels when records are taken -/

theorem State.takePost_halts (p : Post) (s : State) (hb : s.cfg.busMaster = false) :
    (s.takePost p).chans = s.chans ∨
      (s.takePost p).chans = s.chans.map Chan.halt ∧ (s.takePost p).dev.st ≠ .online := by
  have hplace : ∀ (n : RingId) (rec : Record),
      (s.place n rec).chans = s.chans.map Chan.halt ∧ (s.place n rec).dev.st ≠ .online := by
    intro n rec
    unfold State.place
    simp [hb, State.halt]
  cases p with
  | record ring r =>
    rw [show s.takePost (.record ring r) = s.offer (ring.getD s.comp.eventRing) r from rfl, State.offer]
    split_ifs
    · exact .inl rfl
    · exact .inr (hplace _ _)
    · exact .inl rfl
  | done hand st v f =>
    rw [State.takePost, State.finishRequest, State.handDone]
    split_ifs with hoff hspace hstop
    · exact .inl rfl
    · obtain ⟨hchans, hdev⟩ := hplace hand.ring
        (.requestDone { status := st, consumed := s.proc.consumed, tag := hand.tag, value := v, frame := f })
      unfold State.placeDone
      dsimp only
      rw [if_neg (by simp [State.isOnline, hdev])]
      exact .inr ⟨hchans, hdev⟩
    · left
      unfold State.procNext
      rw [if_pos (by simpa using hstop)]
      rfl
    · exact .inl rfl

/-- A record that is taken leaves every channel, or halts the device (R191). -/
theorem State.takePosts_halts (ps : List Post) (s : State) :
    (s.takePosts ps).chans = s.chans ∨ (s.takePosts ps).chans = s.chans.map Chan.halt := by
  by_cases hb : s.cfg.busMaster = true
  · exact .inl (State.takePosts_chans ps s hb)
  · induction ps generalizing s with
    | nil => exact .inl rfl
    | cons p ps ih =>
      rw [State.takePosts_cons]
      rcases s.takePost_halts p (Bool.eq_false_iff.2 hb) with hsame | ⟨hhalt, hoff⟩
      · have := ih (s.takePost p) (by rw [State.takePost_cfg]; exact hb)
        rwa [hsame] at this
      · rw [State.takePosts_offline _ _ hoff]
        exact .inr hhalt

theorem Chan.halt_idle (ch : Chan) : ch.halt.idle = ch.idle := by
  unfold Chan.halt
  cases ch.st <;> rfl

theorem State.takePosts_idle (ps : List Post) (s : State) (c : ChanId) :
    (s.takePosts ps).chans[c].idle = s.chans[c].idle := by
  rcases s.takePosts_halts ps with h | h
  · rw [h]
  · rw [h]; simp [Chan.halt_idle]

/-- A channel without work at an event keeps its idle byte through the rest of it. -/
theorem State.runEvent_idle (o : FrameOrder) (s : State) {c : ChanId} (h : (s.applied o).chans[c].moves = false) :
    (s.runEvent o).chans[c].idle = (s.applied o).chans[c].idle := by
  rw [State.runEvent_eq, State.takePosts_idle, (s.moved_stands o h).chan]

end Sys2Proof.Machine
end

section
/-! PROOFS. O35: the send frames of every device frame event. -/

set_option Elab.async false

namespace Sys2Proof.Machine

/-! ### The beginning of an event -/

theorem State.advanceCounter_stopClearDue (s : State) : s.advanceCounter.stopClearDue = s.stopClearDue := rfl

/-- An event that is not the STOP clear event begins with the counter alone. -/
theorem State.beginEvent_plain {s : State} (h : s.stopClearDue = false) : s.beginEvent = s.advanceCounter := by
  rw [State.beginEvent, State.advanceCounter_stopClearDue, h]; rfl

/-- The STOP clear event begins with the clearing (R18, R189). -/
theorem State.beginEvent_clears {s : State} (h : s.stopClearDue = true) : s.beginEvent = s.advanceCounter.stopClear := by
  rw [State.beginEvent, State.advanceCounter_stopClearDue, h]; rfl

/-- When the next event is the STOP clear event (R18, R189). -/
theorem State.stopClearDue_eq_true {s : State} :
    s.stopClearDue = true ↔
      s.dev.st = .online ∧ s.dev.stopPending = true ∧ s.proc.st = .stopped ∧ s.mc.inFlight = false := by
  simp [State.stopClearDue, and_assoc]

/-- The STOP clear event has entered STOPPING and cleared the map; its channels have still to close (R18, R189). -/
def State.stopCleared (s : State) : State :=
  { s with dev := { s.dev with st := .stopping, stopPending := false }, map := clearMap s.map }

/-- The channels that have a closing to begin (R90). -/
def State.closers (s : State) : List ChanId := (List.finRange 128).filter fun c => s.chans[c].st.closable

theorem State.stopClear_eq (s : State) :
    s.stopClear = actAll id (fun _ ch env => ch.close env) s.closers s.stopCleared :=
  State.closeAll_eq s.stopCleared (fun h => DeviceState.noConfusion h)

theorem State.stopClear_map (s : State) : s.stopClear.map = clearMap s.map := State.closeAll_map _

@[simp] theorem actAll_mc {α : Type} {key : α → ChanId} {out : α → Chan → ChanEnv → ChanOut} (as : List α) (s : State) :
    (actAll key out as s).mc = s.mc := by
  induction as generalizing s with
  | nil => rfl
  | cons a as ih => rw [actAll_cons, ih, State.chanAct_mc]

theorem State.stopClear_mc (s : State) : s.stopClear.mc = s.mc := by rw [State.stopClear_eq, actAll_mc]; rfl

/-! ### Which map is in force -/

/-- The beginning of an event changes neither ports nor the COMMIT in flight. -/
theorem State.beginEvent_mc (s : State) : s.beginEvent.mc = s.mc := by
  cases h : s.stopClearDue
  · rw [State.beginEvent_plain h]; rfl
  · rw [State.beginEvent_clears h, State.stopClear_mc]; rfl

theorem State.frameEvent_map_plain (o : FrameOrder) {s : State} (hdue : s.stopClearDue = false)
    (hfl : s.mc.inFlight = false) : (s.frameEvent o).map = s.map := by
  rw [State.frameEvent, State.runEvent_map, State.beginEvent_mc, hfl, State.beginEvent_plain hdue]; rfl

/-- With a COMMIT in flight an event is not the STOP clear event (R189). -/
theorem State.stopClearDue_of_inFlight {s : State} (h : s.mc.inFlight = true) : s.stopClearDue = false := by
  simp [State.stopClearDue, h]

theorem State.frameEvent_map_apply (o : FrameOrder) {s : State} (hfl : s.mc.inFlight = true) :
    (s.frameEvent o).map = s.prospectiveMap := by
  rw [State.frameEvent, State.runEvent_map, State.beginEvent_mc, hfl,
    State.beginEvent_plain (State.stopClearDue_of_inFlight hfl)]
  rfl

theorem State.frameEvent_map_clear (o : FrameOrder) {s : State} (hdue : s.stopClearDue = true) (h : HwyId) :
    (s.frameEvent o).map[h] = List.replicate s.map[h].length .none := by
  have hfl := (State.stopClearDue_eq_true.1 hdue).2.2.2
  rw [State.frameEvent, State.runEvent_map, State.beginEvent_mc, hfl, State.beginEvent_clears hdue,
    if_neg Bool.false_ne_true, State.stopClear_map]
  simp [clearMap]

/-! ### The frames -/

/-- The line of a highway that is not enabled is released (R63). -/
theorem State.runEvent_tx_disabled (o : FrameOrder) (s : State) (h : HwyId) (hd : s.hwys[h].align = .disabled) :
    (s.runEvent o).hwys[h].tx = none := by
  rw [State.runEvent_tx, State.sendFrame, State.applied_hwy]
  exact if_neg fun hen => hen ((Highway.frameTick_keeps _ _ _).1.2 hd)

/-- The frame that highway `h` sends from an event on: a byte for each slot of the map in force, by its driver (R5). -/
def State.sentFrame (o : FrameOrder) (s : State) (h : HwyId) : Frame :=
  (s.runEvent o).map[h].mapIdx fun n d => (s.applied o).driverByte s.reads h n d

theorem State.sentFrame_getElem? (o : FrameOrder) (s : State) (h : HwyId) {n : Nat} {d : Driver}
    (hd : (s.runEvent o).map[h][n]? = some d) :
    (s.sentFrame o h)[n]? = some ((s.applied o).driverByte s.reads h n d) := by
  rw [State.sentFrame, List.getElem?_mapIdx, hd]; rfl

theorem State.runEvent_tx_enabled (o : FrameOrder) (s : State) (h : HwyId) (hd : s.hwys[h].align ≠ .disabled) :
    (s.runEvent o).hwys[h].tx = some (s.sentFrame o h) := by
  rw [State.runEvent_tx, State.sendFrame, State.applied_hwy, State.sentFrame, State.runEvent_map, ← State.applied_map o s]
  exact if_pos fun hdis => hd ((Highway.frameTick_keeps _ _ _).1.1 hdis)

/-- The bytes a channel without an entry sends (R7, R75). -/
theorem State.driverByte_channel_plain (o : FrameOrder) (s : State) (h : HwyId) (n : Nat) {c : ChanId}
    (hc : s.mc.inFlight = false ∨ lookupKey c s.mc.entries = none) :
    (s.applied o).driverByte s.reads h n (.channel c) = s.chans[c].txByte n := by
  show (s.applied o).chans[c].txByte n = _
  rw [(s.applied_stands o hc).chan]

/-- A channel staged at an apply sends its idle byte (R33). -/
theorem State.driverByte_channel_staged (o : FrameOrder) (s : State) (h : HwyId) (n : Nat) {c : ChanId}
    (hfl : s.mc.inFlight = true) (hc : lookupKey c s.mc.entries ≠ none) :
    (s.applied o).driverByte s.reads h n (.channel c) = (s.runEvent o).chans[c].idle := by
  have hmoves := s.applied_moves o hfl hc
  have hrun : (s.applied o).chans[c].st ≠ .running := fun e => by rw [Chan.moves, e] at hmoves; cases hmoves
  rw [s.runEvent_idle o hmoves]
  exact Chan.txByte_idle (.inl hrun)

/-- Where a channel drives a slot of the map in force, the event is not the STOP clear event, and begins with the counter
alone. -/
theorem State.beginEvent_of_channel {o : FrameOrder} {s : State} {h : HwyId} {n : Nat} {c : ChanId}
    (hc : (s.frameEvent o).map[h][n]? = some (.channel c)) : s.beginEvent = s.advanceCounter := by
  refine State.beginEvent_plain (Bool.eq_false_iff.2 fun hdue => ?_)
  rw [State.frameEvent_map_clear o hdue, List.getElem?_replicate] at hc
  split at hc <;> cases hc

/-- Settles O35: the map in force at the event, and the byte of each driver by it. -/
theorem sendFrames : Obligations.SendFrames := by
  unfold Obligations.SendFrames
  intro o s
  have hhwys := s.beginEvent_hwys
  refine ⟨(s.frameEvent o).finish, rfl, ?_⟩
  rw [State.finish_map, State.finish_hwys, State.finish_chans]
  refine ⟨fun hstop hfl => ?plain, fun hfl => State.frameEvent_map_apply o hfl, fun hon hsp hst hfl h =>
      State.frameEvent_map_clear o (State.stopClearDue_eq_true.2 ⟨hon, hsp, hst, hfl⟩) h,
    fun h => ⟨fun hd => s.beginEvent.runEvent_tx_disabled o h (by rw [hhwys]; exact hd),
      fun hd => ⟨s.beginEvent.sentFrame o h, s.beginEvent.runEvent_tx_enabled o h (by rw [hhwys]; exact hd),
        List.length_mapIdx, fun n => ⟨fun hn => ?none, fun b hb => s.beginEvent.sentFrame_getElem? o h hb,
          fun g k hg hen hk => ?connection, fun c hc => ⟨fun hfree => ?plainChannel, fun hfl hstaged => ?staged⟩⟩⟩⟩⟩
  case plain =>
    refine State.frameEvent_map_plain o (Bool.eq_false_iff.2 fun hdue => ?_) hfl
    obtain ⟨hon, hsp, hst, -⟩ := State.stopClearDue_eq_true.1 hdue
    exact hstop ⟨hon, hsp, hst⟩
  case none => rw [State.sentFrame_getElem? _ _ _ hn, State.driverByte_none, hhwys]
  case connection =>
    rw [State.sentFrame_getElem? _ _ _ hg, State.driverByte_connection, hhwys]
    · rw [hhwys]; exact hen
    · rw [hhwys]; exact hk
  case plainChannel =>
    rw [State.sentFrame_getElem? _ _ _ hc, State.beginEvent_of_channel hc,
      State.driverByte_channel_plain o s.advanceCounter h n hfree]
    exact ⟨fun d hrun hready hn hlen => Chan.txByte_ready hrun hready hn hlen,
      fun hidle => congrArg some (Chan.txByte_idle hidle)⟩
  case staged =>
    rw [State.sentFrame_getElem? _ _ _ hc, State.frameEvent, State.beginEvent_of_channel hc,
      State.driverByte_channel_staged o s.advanceCounter h n hfl hstaged]

end Sys2Proof.Machine
end

section
/-! PROOFS. What one channel does at an apply or the STOP clear event: CLOSE, RESLOT and OPEN, and what it goes on to. -/

set_option Elab.async false

namespace Sys2Proof.Machine

/-! ### Operations in flight -/

theorem mem_opsOf {c : ChanId} {s : State} {o : Op} : o ∈ opsOf c s ↔ o ∈ s.link.ops ∧ o.kind.chan? = some c := by
  simp [opsOf]

theorem liveOf_iff {c : ChanId} {p : OpKind → Prop} {s : State} :
    LiveOf c p s ↔ ∃ o ∈ opsOf c s, o.mark = .live ∧ p o.kind := by
  simp only [mem_opsOf]
  constructor
  · rintro ⟨o, ho, hl, hc, hp⟩; exact ⟨o, ⟨ho, hc⟩, hl, hp⟩
  · rintro ⟨o, ⟨ho, hc⟩, hl, hp⟩; exact ⟨o, ho, hl, hc, hp⟩

theorem ChanStands.liveOf_iff {c : ChanId} {s t : State} (h : ChanStands c s t) (p : OpKind → Prop) :
    LiveOf c p t ↔ LiveOf c p s := by
  rw [Machine.liveOf_iff, Machine.liveOf_iff, h.ops]

/-- A read that has turned stale is live no more, and a write stands (R69). -/
theorem readStaled_live {o : Op} (h : (readStaled o).mark = .live) : readStaled o = o ∧ o.kind.isRead = false := by
  unfold readStaled at h ⊢
  split_ifs at h ⊢ with hr
  exact ⟨rfl, Bool.eq_false_iff.2 fun e => hr ⟨h, e⟩⟩

/-- A channel's step that makes its reads stale and issues nothing. -/
def staleStep (c : ChanId) (ch : Chan) (s : State) : State :=
  { s with chans := s.chans.set c ch, link := s.link.staleChan c .reads }

section Stale

variable (c : ChanId) (ch : Chan) (s : State)

@[simp] theorem staleStep_chan : (staleStep c ch s).chans[c] = ch := by simp [staleStep]

theorem staleStep_ops : opsOf c (staleStep c ch s) = (opsOf c s).map readStaled := State.opsOf_staleReads c s

/-- No descriptor read is live any more. -/
theorem staleStep_liveDesc : ¬LiveOf c (fun k => k.isDescRead = true) (staleStep c ch s) := by
  rw [liveOf_iff, staleStep_ops]
  rintro ⟨o', ho, hlive, hdesc⟩
  obtain ⟨o, -, rfl⟩ := List.mem_map.1 ho
  obtain ⟨heq, hwrite⟩ := readStaled_live hlive
  rw [heq] at hdesc
  cases hk : o.kind <;> simp [hk, OpKind.isDescRead, OpKind.isRead] at hdesc hwrite

/-- The write-backs are as live as before. -/
theorem staleStep_liveWb :
    LiveOf c (fun k => k.isWriteBack = true) (staleStep c ch s) ↔ LiveOf c (fun k => k.isWriteBack = true) s := by
  rw [liveOf_iff, liveOf_iff, staleStep_ops]
  constructor
  · rintro ⟨o', ho, hlive, hwb⟩
    obtain ⟨o, hmem, rfl⟩ := List.mem_map.1 ho
    have hsame := (readStaled_live hlive).1
    rw [hsame] at hlive hwb
    exact ⟨o, hmem, hlive, hwb⟩
  · rintro ⟨o, ho, hlive, hwb⟩
    have hwrite : o.kind.isRead = false := by
      cases hk : o.kind <;> simp [hk, OpKind.isWriteBack] at hwb
      rfl
    have hsame : readStaled o = o := if_neg fun h => Bool.false_ne_true (hwrite.symm.trans h.2)
    exact ⟨o, List.mem_map.2 ⟨o, ho, hsame⟩, hlive, hwb⟩

end Stale

/-! ### What a channel goes on to -/

/-- A channel's action while operations are sent. -/
theorem State.chanAct_sent (s : State) (c : ChanId) (o : ChanOut) (hb : s.cfg.busMaster = true) :
    (s.chanAct c o).1 = wentOn c (s.chanStep c o) := by
  have hb' : (s.chanStep c o).cfg.busMaster = true := by rw [State.chanStep_cfg]; exact hb
  rw [State.chanAct, State.chanPump_eq _ _ hb']

section WentOn

variable {c : ChanId} {s : State}

/-- A channel that is CLOSED or FAULTED goes on to nothing. -/
theorem wentOn_of_still (h : s.chans[c].st = .closed ∨ s.chans[c].st = .faulted) : wentOn c s = s := by
  have hst : ∀ st, st ≠ .closed → st ≠ .faulted → s.chans[c].st ≠ st := by
    rintro st h1 h2 rfl
    exact h.elim h1 h2
  have hw : ¬WritesBack c s := by
    rintro ⟨-, -, h | h | h | ⟨h, -⟩⟩ <;> exact hst _ (by decide) (by decide) h
  have hp : ¬Primes c s := fun h => hst _ (by decide) (by decide) h.1
  have hk : ¬Walks c s := fun h => hst _ (by decide) (by decide) h.1
  have hc : ¬Closes c s := fun h => hst _ (by decide) (by decide) h.1
  rw [wentOn, if_neg hw, if_neg hp, if_neg hk, if_neg hc]

/-- A channel that is PRIMING, or CLOSING with no failure: its queue may be written back (R79). -/
def Returns (ch : Chan) : Prop := ch.st = .priming ∨ ch.st = .closing ∧ ch.closeFailed = false

/-- The oldest entry may be written back once its data writes are accepted and no write-back is in flight (R79, R85). -/
theorem writesBack_iff {e : WbEntry} {r : List WbEntry} (h : Returns s.chans[c]) (hq : s.chans[c].queue = e :: r) :
    WritesBack c s ↔ e.unaccepted = 0 ∧ ¬LiveOf c (fun k => k.isWriteBack = true) s := by
  have hst : s.chans[c].st = .priming ∨ s.chans[c].st = .running ∨ s.chans[c].st = .starved ∨
      s.chans[c].st = .closing ∧ s.chans[c].closeFailed = false :=
    h.imp_right fun hc => .inr (.inr hc)
  unfold WritesBack
  rw [hq]
  simp only [List.head?_cons, Option.mem_def, Option.some.injEq, exists_eq_left', hst, and_true]

theorem wentOn_of_writesBack {e : WbEntry} {r : List WbEntry} (h : WritesBack c s) (hq : s.chans[c].queue = e :: r) :
    wentOn c s = writeBackIssued c e false s := by
  unfold wentOn
  simp only [if_pos h, hq]

/-- With an entry in its queue that is not ready it goes on to nothing. -/
theorem wentOn_of_waits (h : ¬WritesBack c s) (hq : s.chans[c].queue ≠ []) : wentOn c s = s := by
  have hp : ¬Primes c s := fun h => hq h.2.1
  have hk : ¬Walks c s := fun h => hq h.2.1
  have hc : ¬Closes c s := fun h => hq h.2.1
  rw [wentOn, if_neg h, if_neg hp, if_neg hk, if_neg hc]

theorem not_writesBack_of_nil (hq : s.chans[c].queue = []) : ¬WritesBack c s := by
  rintro ⟨⟨e, he, -⟩, -⟩
  rw [hq] at he
  cases he

/-- A PRIMING channel with nothing to write back reads its descriptor (R72). -/
theorem wentOn_of_primes (h : Primes c s) : wentOn c s = descReadIssued c s.chans[c].pos s := by
  rw [wentOn, if_neg (not_writesBack_of_nil h.2.1), if_pos h]

/-- A CLOSING channel with nothing to write back begins its flush walk (R84). -/
theorem wentOn_of_walks (h : Walks c s) :
    wentOn c s = flushReadIssued c (withChan c { s.chans[c] with walk := .walking 0 } s) := by
  have hp : ¬Primes c s := fun hp => ChanState.noConfusion (h.1.symm.trans hp.1)
  rw [wentOn, if_neg (not_writesBack_of_nil h.2.1), if_neg hp, if_pos h]

end WentOn

@[simp] theorem opsOf_withChan (c d : ChanId) (ch : Chan) (s : State) : opsOf c (withChan d ch s) = opsOf c s := rfl

@[simp] theorem withChan_chan (c : ChanId) (ch : Chan) (s : State) : (withChan c ch s).chans[c] = ch := by
  simp [withChan]

/-! ### The end of a binding -/

theorem opsOf_issued_own {c : ChanId} {k : OpKind} (hk : k.chan? = some c) (a : Addr) (n : Nat) (d : List Byte) (s : State) :
    opsOf c (issued k a n d s) =
      opsOf c s ++ [{ id := s.link.nextId, kind := k, mark := .live, addr := a, len := n, data := d }] := by
  rw [opsOf_issued, if_pos hk]

theorem goesOnTo_of_nil {c : ChanId} {q : List WbEntry} {next op : Op} {s t : State} (hq : q = [])
    (hops : opsOf c t = (opsOf c s).map readStaled ++ [op]) (hop : { op with id := 0 } = next) : GoesOnTo c q next s t := by
  subst hq
  exact ⟨[op], hops, congrArg (fun o => [o]) hop⟩

/-- A channel whose queue is not empty goes on to the write-back of its oldest entry, or waits (R69, R79). -/
theorem goesOnTo_of_queue {c : ChanId} {ch : Chan} (next : Op) (s : State) (h : Returns ch) (hne : ch.queue ≠ [])
    (hbase : ch.ringBase = s.chans[c].ringBase) :
    (wentOn c (staleStep c ch s)).chans[c] = ch ∧ GoesOnTo c ch.queue next s (wentOn c (staleStep c ch s)) := by
  obtain ⟨e, r, hq⟩ := List.exists_cons_of_ne_nil hne
  have hchan := staleStep_chan c ch s
  have hq' : (staleStep c ch s).chans[c].queue = e :: r := by rw [hchan]; exact hq
  have hready : WritesBack c (staleStep c ch s) ↔ e.unaccepted = 0 ∧ ¬LiveOf c (fun k => k.isWriteBack = true) s :=
    (writesBack_iff (by rw [hchan]; exact h) hq').trans (and_congr_right' (not_congr (staleStep_liveWb c ch s)))
  unfold GoesOnTo
  rw [hq]
  by_cases hw : WritesBack c (staleStep c ch s)
  · rw [wentOn_of_writesBack hw hq']
    refine ⟨hchan, [{ id := (staleStep c ch s).link.nextId, kind := .writeBack c e false, mark := .live
                      addr := s.chans[c].ringBase + BitVec.ofNat 64 (32 * e.desc.index), len := 12, data := e.bytes }], ?_, ?_⟩
    · rw [writeBackIssued, opsOf_issued_own rfl, staleStep_ops, hchan, hbase]
    · simp only [if_pos (hready.1 hw), List.map_cons, List.map_nil]
  · rw [wentOn_of_waits hw (by rw [hq']; exact List.cons_ne_nil _ _)]
    exact ⟨hchan, [], by rw [staleStep_ops, List.append_nil], by simp only [if_neg (fun e => hw (hready.2 e)), List.map_nil]⟩

/-- The record of an open channel that closes (R83). -/
def closingChan (ch : Chan) : Chan :=
  { setAside ch with st := .closing, slots := [], walk := .notBegun, closeFailed := false }

/-- The record of an open channel that a RESLOT binds anew (R82). -/
def repriming (ch : Chan) (h : HwyId) (l : List Nat) : Chan := { setAside ch with st := .priming, hwy := h, slots := l }

theorem State.chanStep_toClosing (s : State) (c : ChanId) (ch : Chan) :
    s.chanStep c ch.toClosing = staleStep c (closingChan ch) s := by
  rw [Chan.toClosing, Chan.dropCopies_eq]; rfl

theorem State.chanStep_toPriming (s : State) (c : ChanId) (ch : Chan) (h : HwyId) (l : List Nat) :
    s.chanStep c (ch.toPriming h l) = staleStep c (repriming ch h l) s := by
  rw [Chan.toPriming, Chan.dropCopies_eq]; rfl

/-- An open channel that closes, while operations are sent (R83, R84). -/
theorem entersClosing_chanAct (c : ChanId) (s : State) (hb : s.cfg.busMaster = true) :
    EntersClosing c s (s.chanAct c s.chans[c].toClosing).1 := by
  rw [State.chanAct_sent _ _ _ hb, State.chanStep_toClosing]
  unfold EntersClosing
  by_cases hq : (setAside s.chans[c]).queue = []
  · have hwalks : Walks c (staleStep c (closingChan s.chans[c]) s) := by
      unfold Walks
      rw [staleStep_chan]
      exact ⟨rfl, hq, rfl, rfl⟩
    rw [wentOn_of_walks hwalks, staleStep_chan]
    refine ⟨?_, goesOnTo_of_nil (op := { posRead c (.flushRead c s.chans[c].pos) s with id := s.link.nextId }) hq ?_ rfl⟩
    · rw [if_pos hq]
      exact withChan_chan c _ _
    · rw [flushReadIssued, opsOf_issued_own rfl, opsOf_withChan, staleStep_ops, withChan_chan]
      rfl
  · obtain ⟨hchan, hgoes⟩ := goesOnTo_of_queue (ch := closingChan s.chans[c]) (posRead c (.flushRead c s.chans[c].pos) s) s
      (.inr ⟨rfl, rfl⟩) hq rfl
    dsimp only
    rw [if_neg hq]
    exact ⟨hchan, hgoes⟩

/-- An open channel that a RESLOT binds anew, while operations are sent (R36, R72, R82). -/
theorem reprimes_chanAct (c : ChanId) (h : HwyId) (l : List Nat) (s : State) (hb : s.cfg.busMaster = true) :
    Reprimes c h l s (s.chanAct c (s.chans[c].toPriming h l)).1 := by
  rw [State.chanAct_sent _ _ _ hb, State.chanStep_toPriming]
  unfold Reprimes
  by_cases hq : (setAside s.chans[c]).queue = []
  · have hprimes : Primes c (staleStep c (repriming s.chans[c] h l) s) := by
      unfold Primes
      rw [staleStep_chan]
      exact ⟨rfl, hq, rfl, staleStep_liveDesc c _ s⟩
    rw [wentOn_of_primes hprimes, staleStep_chan]
    refine ⟨staleStep_chan c _ s,
      goesOnTo_of_nil (op := { posRead c (.descRead c s.chans[c].pos) s with id := s.link.nextId }) hq ?_ rfl⟩
    rw [descReadIssued, opsOf_issued_own rfl, staleStep_ops, staleStep_chan]
    rfl
  · exact goesOnTo_of_queue (ch := repriming s.chans[c] h l) _ s (.inl rfl) hq rfl

/-- A channel whose step leaves it CLOSED or FAULTED and touches no operation goes on to nothing (R87). -/
theorem State.chanAct_still {c : ChanId} {o : ChanOut} (s : State) (hb : s.cfg.busMaster = true) (hops : o.ops = [])
    (hstales : o.stales = .none) (hst : o.ch.st = .closed ∨ o.ch.st = .faulted) :
    (s.chanAct c o).1 = withChan c o.ch s := by
  have hstep : s.chanStep c o = withChan c o.ch s := by rw [State.chanStep, hops, hstales]; rfl
  rw [State.chanAct_sent _ _ _ hb, hstep, wentOn_of_still (by rw [withChan_chan]; exact hst)]

/-! ### OPEN -/

/-- Once all operations of a channel are stale none is live. -/
theorem not_liveOf_staleAll (c : ChanId) (p : OpKind → Prop) (s : State) :
    ¬LiveOf c p { s with link := s.link.staleChan c .all } := by
  rintro ⟨o', ho, hlive, hc, -⟩
  obtain ⟨o, -, rfl⟩ := List.mem_map.1 ho
  split at hlive
  · cases hlive
  · rename_i hnot
    rw [if_neg hnot] at hc
    exact hnot (by simp [hc, hlive])

/-- A channel that an OPEN binds is PRIMING, with its descriptor read in flight, while operations are sent (R34, R72). -/
theorem applyOpen_chanAct (c : ChanId) (p : OpenParams) (s : State) (hb : s.cfg.busMaster = true) :
    (s.chanAct c (Chan.applyOpen p)).1.chans[c] = (Chan.applyOpen p).ch ∧
      ∃ d ∈ opsOf c (s.chanAct c (Chan.applyOpen p)).1,
        d.kind = .descRead c 0 ∧ d.mark = .live ∧ d.addr = p.ringBase ∧ d.len = 32 := by
  have hchan : (s.chanStep c (Chan.applyOpen p)).chans[c] = (Chan.applyOpen p).ch := by simp
  have hprimes : Primes c (s.chanStep c (Chan.applyOpen p)) := by
    unfold Primes
    rw [hchan]
    exact ⟨rfl, rfl, rfl, not_liveOf_staleAll c _ { s with chans := s.chans.set c (Chan.applyOpen p).ch }⟩
  rw [State.chanAct_sent _ _ _ hb, wentOn_of_primes hprimes, hchan]
  refine ⟨hchan, _, mem_opsOf.2 ⟨List.mem_append_right _ (List.mem_singleton.2 rfl), rfl⟩, rfl, rfl, ?_, rfl⟩
  show (s.chanStep c (Chan.applyOpen p)).chans[c].ringBase + _ = _
  rw [hchan]
  exact BitVec.add_zero _

/-! ### What stands before and after -/

section Carry

variable {c : ChanId} {s s' t' t : State} (hs : ChanStands c s s') (ht : ChanStands c t' t)

include hs ht

theorem GoesOnTo.carry {q : List WbEntry} {next : Op} (h : GoesOnTo c q next s' t') : GoesOnTo c q next s t := by
  obtain ⟨l, hops, hl⟩ := h
  refine ⟨l, by rw [ht.ops, hops, hs.ops], hl.trans ?_⟩
  cases q with
  | nil => rfl
  | cons e r =>
    dsimp only
    rw [hs.chan]
    exact if_congr (and_congr_right' (not_congr (hs.liveOf_iff _))) rfl rfl

omit ht in
theorem posRead_carry (k : OpKind) : posRead c k s' = posRead c k s := by
  unfold posRead
  rw [hs.chan]

theorem EntersClosing.carry (h : EntersClosing c s' t') : EntersClosing c s t := by
  unfold EntersClosing at h ⊢
  rw [posRead_carry hs, hs.chan] at h
  exact ⟨ht.chan.trans h.1, h.2.carry hs ht⟩

theorem Reprimes.carry {x : HwyId} {l : List Nat} (h : Reprimes c x l s' t') : Reprimes c x l s t := by
  unfold Reprimes at h ⊢
  rw [posRead_carry hs, hs.chan] at h
  exact ⟨ht.chan.trans h.1, h.2.carry hs ht⟩

end Carry

end Sys2Proof.Machine
end

section
/-! PROOFS. O43: the STOP clear event. -/

set_option Elab.async false

namespace Sys2Proof.Machine

/-! ### The counter through the timing unit's work (R115, R131) -/

section Counter

variable (t : Timing)

@[simp] theorem Timing.leave_counter : t.leave.counter = t.counter := by
  unfold Timing.leave
  cases t.sel <;> rfl

@[simp] theorem Timing.toAcquiring_counter (src : Source) : (t.toAcquiring src).counter = t.counter := t.leave_counter

@[simp] theorem Timing.toFreerun_counter : t.toFreerun.counter = t.counter := t.leave_counter

@[simp] theorem Timing.toHoldover_counter : t.toHoldover.counter = t.counter := t.leave_counter

@[simp] theorem Timing.fallback_counter (limit : Nat) : (t.fallback limit).1.counter = t.counter := by
  unfold Timing.fallback
  split
  · simp
  · split <;> simp

@[simp] theorem Timing.checkSelected_counter : t.checkSelected.1.counter = t.counter := by
  unfold Timing.checkSelected
  split
  · split <;> simp
  · rfl

@[simp] theorem Timing.lose_counter (src : Source) : (t.lose src).1.counter = t.counter := by
  unfold Timing.lose
  split <;> rfl

@[simp] theorem Timing.loseNow_counter (src : Source) : (t.loseNow src).1.counter = t.counter := by
  simp [Timing.loseNow]

theorem Timing.selectorTick_counter : t.selectorTick.1.counter = t.counter := by
  unfold Timing.selectorTick
  cases t.sel
  case freerun => dsimp only; split <;> simp
  case holdover =>
    dsimp only
    split
    · simp
    · split <;> simp
  case acquiring src =>
    dsimp only
    split
    · split
      · simp
      · split <;> rfl
    · simp
  case locked src =>
    dsimp only
    split
    · split
      · simp
      · split <;> rfl
    · simp

theorem Timing.frameWork_counter (aligned : HwyId → Bool) : (t.frameWork aligned).1.counter = t.counter := by
  unfold Timing.frameWork Timing.exportFrame
  dsimp only
  split <;> exact Timing.selectorTick_counter _

/-- Changes of the timing unit taken one after the other leave the counter when each does. -/
theorem foldl_counter (f : Timing → HwyId → Timing × List TimOcc) (hf : ∀ t h, (f t h).1.counter = t.counter)
    (hs : List HwyId) (a : Timing × List TimOcc) :
    (hs.foldl (fun a h => let r := f a.1 h; (r.1, a.2 ++ r.2)) a).1.counter = a.1.counter := by
  induction hs generalizing a with
  | nil => rfl
  | cons h hs ih => exact (ih _).trans (hf _ _)

theorem Timing.frameEvent_counter (aligned : HwyId → Bool) (before after : List HwyId) :
    (t.frameEvent aligned before after).1.counter = t.counter :=
  (foldl_counter (fun t h => t.loseNow (.hwy h)) (fun t _ => t.loseNow_counter _) after _).trans <|
    (Timing.frameWork_counter _ _).trans <|
      foldl_counter (fun t h => t.lose (.hwy h)) (fun t _ => t.lose_counter _) before (t.enforce, [])

end Counter

theorem State.applied_tim (o : FrameOrder) (s : State) : (s.applied o).tim = (s.timingTick o).1 := by
  unfold State.applied
  split
  · exact State.applySet_tim o _
  · rfl

/-- The counter at the end of an event is the one it began with (R115). -/
theorem State.runEvent_counter (o : FrameOrder) (s : State) : (s.runEvent o).tim.counter = s.tim.counter := by
  rw [State.runEvent_eq, State.takePosts_tim, State.moved, State.moveChans_tim, State.switched, State.sendFrames_tim,
    State.applied_tim]
  exact Timing.frameEvent_counter _ _ _ _

@[simp] theorem actAll_tim {α : Type} {key : α → ChanId} {out : α → Chan → ChanEnv → ChanOut} (as : List α) (s : State) :
    (actAll key out as s).tim = s.tim := by
  induction as generalizing s with
  | nil => rfl
  | cons a as ih => rw [actAll_cons, ih, State.chanAct_tim]

@[simp] theorem actAll_comp {α : Type} {key : α → ChanId} {out : α → Chan → ChanEnv → ChanOut} (as : List α) (s : State) :
    (actAll key out as s).comp = s.comp := by
  induction as generalizing s with
  | nil => rfl
  | cons a as ih => rw [actAll_cons, ih, State.chanAct_comp]

@[simp] theorem actAll_proc {α : Type} {key : α → ChanId} {out : α → Chan → ChanEnv → ChanOut} (as : List α) (s : State) :
    (actAll key out as s).proc = s.proc := by
  induction as generalizing s with
  | nil => rfl
  | cons a as ih => rw [actAll_cons, ih, State.chanAct_proc]

/-- An event advances the counter once (R115). -/
theorem State.frameEvent_counter (o : FrameOrder) (s : State) : (s.frameEvent o).tim.counter = s.tim.counter + 1 := by
  rw [State.frameEvent, State.runEvent_counter]
  cases h : s.stopClearDue
  · rw [State.beginEvent_plain h]; rfl
  · rw [State.beginEvent_clears h, State.stopClear_tim]; rfl

/-! ### The channels that close -/

theorem Chan.close_of_open {ch : Chan} (env : ChanEnv) (h : ch.st = .priming ∨ ch.st = .running ∨ ch.st = .starved) :
    ch.close env = ch.toClosing := by
  unfold Chan.close
  rcases h with h | h | h <;> rw [h]

/-- The record of a FAULTED channel that a CLOSE or a STOP makes CLOSED (R35, R90). -/
theorem Chan.close_of_faulted {ch : Chan} (env : ChanEnv) (h : ch.st = .faulted) :
    ch.close env = { ch := { ch with st := .closed, slots := [] }, stales := .none, ops := [],
                     posts := env.post (.chanClosed env.id false) } := by
  unfold Chan.close
  rw [h]

theorem Chan.close_moves (ch : Chan) (env : ChanEnv) : (ch.close env).ch.moves = false :=
  ch.applyEntry_moves .closeEntry env

/-- A channel that has work at an event has a closing to begin (R90). -/
theorem Chan.moves_of_not_closable {ch : Chan} (h : ch.st.closable = false) : ch.moves = false := by
  unfold Chan.moves
  cases hst : ch.st
  case running => rw [hst] at h; cases h
  case starved => rw [hst] at h; cases h
  all_goals rfl

theorem State.mem_closers {s : State} {c : ChanId} : c ∈ s.closers ↔ s.chans[c].st.closable = true := by
  simp [State.closers]

theorem State.closers_nodup (s : State) : (s.closers.map id).Nodup := by
  rw [List.map_id]
  exact (List.nodup_finRange 128).filter _

/-- The event at which the map is cleared, after its clearing (R18, R90). -/
def State.clearing (s : State) : State := s.advanceCounter.stopClear

theorem State.clearing_eq (s : State) :
    s.clearing = actAll id (fun _ ch env => ch.close env) s.closers s.advanceCounter.stopCleared :=
  State.stopClear_eq s.advanceCounter

theorem State.stopCleared_stands (s : State) (c : ChanId) : ChanStands c s s.advanceCounter.stopCleared := ⟨rfl, rfl, rfl⟩

/-- After the clearing no channel has work at the event (R83, R90). -/
theorem State.clearing_moves (s : State) (c : ChanId) : s.clearing.chans[c].moves = false := by
  rw [State.clearing_eq]
  refine actAll_moves close_outOwn (fun _ => Chan.close_moves) _ _ ?_
  by_cases hc : c ∈ s.closers
  · exact .inr (by rw [List.map_id]; exact hc)
  · left
    rw [(s.stopCleared_stands c).chan]
    exact Chan.moves_of_not_closable (Bool.eq_false_iff.2 fun h => hc (State.mem_closers.2 h))

/-- With no channel that has work, the rest of such an event leaves channels and operations as the clearing has them. -/
theorem State.runEvent_idle_rest (o : FrameOrder) (s : State) (hoff : s.dev.st ≠ .online) (hfl : s.mc.inFlight = false)
    (hmoves : ∀ c : ChanId, s.chans[c].moves = false) : s.runEvent o = (s.ticked o).sendFrames s.reads := by
  have hswitched : s.switched o = (s.ticked o).sendFrames s.reads := by
    rw [State.switched, State.applied_of_not_inFlight o hfl]
  have hmovers : (s.switched o).movers = [] := by
    refine List.filter_eq_nil_iff.2 fun c _ => ?_
    rw [hswitched, State.sendFrames_chans, State.ticked_chans, hmoves c]
    exact Bool.false_ne_true
  have hmoved : (s.moved o).1 = s.switched o := by rw [State.moved, hmovers]; rfl
  rw [State.runEvent_eq, hmoved, hswitched]
  exact State.takePosts_offline _ _ hoff

/-! ### The whole event -/

section Event

variable {s : State} (o : FrameOrder) (hdue : s.stopClearDue = true)

include hdue

/-- The STOP clear event is its clearing, the ports, the timing unit and the send frames. -/
theorem State.frameEvent_clear : s.frameEvent o = (s.clearing.ticked o).sendFrames s.clearing.reads := by
  have hfl : s.clearing.mc.inFlight = false := by
    rw [State.clearing, State.stopClear_mc]
    exact (State.stopClearDue_eq_true.1 hdue).2.2.2
  have hdev : s.clearing.dev.st = .stopping := by rw [State.clearing_eq, actAll_dev]; rfl
  rw [State.frameEvent, State.beginEvent_clears hdue]
  exact State.runEvent_idle_rest o s.clearing (by rw [hdev]; decide) hfl s.clearing_moves

theorem State.frameEvent_clear_dev :
    (s.frameEvent o).dev = { s.dev with st := .stopping, stopPending := false } := by
  rw [State.frameEvent_clear o hdue, State.sendFrames_dev, State.ticked, State.clearing_eq, actAll_dev]
  rfl

theorem State.frameEvent_clear_comp : (s.frameEvent o).comp = s.comp := by
  rw [State.frameEvent_clear o hdue, State.sendFrames_comp, State.ticked, State.clearing_eq, actAll_comp]
  rfl

theorem State.frameEvent_clear_proc : (s.frameEvent o).proc = s.proc := by
  rw [State.frameEvent_clear o hdue, State.sendFrames_proc, State.ticked, State.clearing_eq, actAll_proc]
  rfl

theorem State.frameEvent_clear_link : (s.frameEvent o).link = s.clearing.link := by
  rw [State.frameEvent_clear o hdue, State.sendFrames_link]
  rfl

theorem State.frameEvent_clear_stands (c : ChanId) : ChanStands c s.clearing (s.frameEvent o) := by
  rw [State.frameEvent_clear o hdue]
  exact (s.clearing.ticked_stands o c).trans (State.sendFrames_stands c _ _)

/-- A channel that closes does so from what stood before the event. -/
theorem State.frameEvent_clear_at {c : ChanId} (h : s.chans[c].st.closable = true) :
    ∃ u, ChanStands c s u ∧ ChanStands c (u.chanAct c (u.chans[c].close (u.chanEnv c))).1 (s.frameEvent o) := by
  have hstands := State.frameEvent_clear_stands o hdue c
  rw [State.clearing_eq] at hstands
  obtain ⟨u, hu, hact⟩ := actAll_at close_outOwn s.closers_nodup (State.mem_closers.2 h) s.advanceCounter.stopCleared
  exact ⟨u, (s.stopCleared_stands c).trans hu, hact.trans hstands⟩

/-- An open channel enters CLOSING (R83, R90). -/
theorem State.frameEvent_clear_open (hb : s.cfg.busMaster = true) {c : ChanId}
    (h : s.chans[c].st = .priming ∨ s.chans[c].st = .running ∨ s.chans[c].st = .starved) :
    EntersClosing c s (s.frameEvent o) := by
  obtain ⟨u, hu, hact⟩ := State.frameEvent_clear_at o hdue (c := c) (by rcases h with h | h | h <;> rw [h] <;> rfl)
  rw [Chan.close_of_open _ (by rw [hu.chan]; exact h)] at hact
  exact (entersClosing_chanAct c u (by rw [hu.cfg]; exact hb)).carry hu hact

/-- A FAULTED channel becomes CLOSED with no memory access (R90). -/
theorem State.frameEvent_clear_faulted (hb : s.cfg.busMaster = true) {c : ChanId} (h : s.chans[c].st = .faulted) :
    (s.frameEvent o).chans[c] = { s.chans[c] with st := .closed, slots := [] } ∧
      opsOf c (s.frameEvent o) = opsOf c s := by
  obtain ⟨u, hu, hact⟩ := State.frameEvent_clear_at o hdue (c := c) (by rw [h]; rfl)
  rw [Chan.close_of_faulted _ (by rw [hu.chan]; exact h),
    State.chanAct_still u (by rw [hu.cfg]; exact hb) rfl rfl (.inl rfl), hu.chan] at hact
  exact ⟨hact.chan.trans (withChan_chan c _ u), hact.ops.trans hu.ops⟩

/-- Every other channel stands (R90). -/
theorem State.frameEvent_clear_other {c : ChanId} (h : s.chans[c].st.closable = false) :
    ChanStands c s (s.frameEvent o) := by
  have hnot : ∀ d ∈ s.closers, id d ≠ c := by
    rintro d hd rfl
    exact Bool.false_ne_true (h.symm.trans (State.mem_closers.1 hd))
  have hstands := State.frameEvent_clear_stands o hdue c
  rw [State.clearing_eq] at hstands
  exact (s.stopCleared_stands c).trans ((actAll_stands close_outOwn hnot _).trans hstands)

end Event

/-! ### The end of STOPPING -/

/-- Channels that are CLOSED or FAULTED close without an operation (R87, R90). -/
theorem actAll_close_link (cs : List ChanId) (s : State) (hb : s.cfg.busMaster = true)
    (h : ∀ c : ChanId, s.chans[c].st = .closed ∨ s.chans[c].st = .faulted) :
    (actAll id (fun _ ch env => ch.close env) cs s).link = s.link := by
  induction cs generalizing s with
  | nil => rfl
  | cons c cs ih =>
    have hact : ∃ ch : Chan, ch.st = .closed ∧
        (s.chanAct c (s.chans[c].close (s.chanEnv c))).1 = withChan c ch s := by
      rcases h c with hc | hc
      · have hclose : s.chans[c].close (s.chanEnv c) = s.chans[c].only := by unfold Chan.close; rw [hc]
        rw [hclose]
        exact ⟨s.chans[c], hc, State.chanAct_still s hb rfl rfl (.inl hc)⟩
      · rw [Chan.close_of_faulted _ hc]
        exact ⟨_, rfl, State.chanAct_still s hb rfl rfl (.inl rfl)⟩
    obtain ⟨ch, hch, hact⟩ := hact
    show (actAll id _ cs (s.chanAct c (s.chans[c].close (s.chanEnv c))).1).link = _
    rw [hact]
    refine ih (withChan c ch s) hb fun d => ?_
    by_cases hd : d = c
    · subst hd
      exact .inl (by rw [withChan_chan]; exact hch)
    · rw [show (withChan c ch s).chans[d] = s.chans[d] from getElem_set_other hd s.chans ch]
      exact h d

/-- After the STOP clear event a channel is CLOSED exactly when it was CLOSED or FAULTED before (R83, R90). -/
theorem State.frameEvent_clear_closed_iff {s : State} (o : FrameOrder) (hdue : s.stopClearDue = true)
    (hb : s.cfg.busMaster = true) (c : ChanId) :
    (s.frameEvent o).chans[c].st = .closed ↔ s.chans[c].st = .closed ∨ s.chans[c].st = .faulted := by
  have hopen : s.chans[c].st = .priming ∨ s.chans[c].st = .running ∨ s.chans[c].st = .starved →
      (s.frameEvent o).chans[c].st = .closing := by
    intro h
    have hclosing := (State.frameEvent_clear_open o hdue hb h).1
    rw [hclosing]
  cases hst : s.chans[c].st
  case priming => rw [hopen (.inl hst)]; simp
  case running => rw [hopen (.inr (.inl hst))]; simp
  case starved => rw [hopen (.inr (.inr hst))]; simp
  case faulted =>
    have hclosed := (State.frameEvent_clear_faulted o hdue hb hst).1
    rw [hclosed]
    simp
  case closed => rw [(State.frameEvent_clear_other o hdue (by rw [hst]; rfl)).chan, hst]; simp
  case closing => rw [(State.frameEvent_clear_other o hdue (by rw [hst]; rfl)).chan, hst]; simp

/-- STOPPING is over at once exactly when no channel has to close and nothing is in flight (R190). -/
theorem State.frameEvent_clear_ends_iff {s : State} (o : FrameOrder) (hdue : s.stopClearDue = true)
    (hb : s.cfg.busMaster = true) :
    ((∀ c : ChanId, (s.frameEvent o).chans[c].st = .closed) ∧ (s.frameEvent o).link.ops = []) ↔
      (∀ c : ChanId, s.chans[c].st = .closed ∨ s.chans[c].st = .faulted) ∧ s.link.ops = [] := by
  simp only [State.frameEvent_clear_closed_iff o hdue hb]
  refine and_congr_right fun h => ?_
  rw [State.frameEvent_clear_link o hdue, State.clearing_eq,
    actAll_close_link _ s.advanceCounter.stopCleared hb h]
  rfl

/-- Settles O43: the clearing, the channels one by one, and the end of STOPPING. -/
theorem stopClear : Obligations.StopClear := by
  unfold Obligations.StopClear
  intro o s hw hsp hst hfl
  have hb : s.cfg.busMaster = true := hw.linked
  have hdue : s.stopClearDue = true := State.stopClearDue_eq_true.2 ⟨hw.online, hsp, hst, hfl⟩
  have hevent : exec (.stopClearEvent o) s = done (s.frameEvent o) := by
    show done (s.stopClearEvent o) = _
    rw [State.stopClearEvent, State.eventIf, hdue, if_pos rfl]
  have hdev := State.frameEvent_clear_dev o hdue
  have hends := State.frameEvent_clear_ends_iff o hdue hb
  refine ⟨(s.frameEvent o).finish, hevent, rfl, ?pending, ?counter, ?comp, ?proc, fun h => ?map, fun c => ?chan, ?ends⟩
  case counter => rw [State.finish_tim, State.frameEvent_counter]
  case comp => rw [State.finish_comp, State.frameEvent_clear_comp o hdue]
  case proc => rw [State.finish_proc, State.frameEvent_clear_proc o hdue]
  case map => rw [State.finish_map, State.frameEvent_map_clear o hdue]
  case pending =>
    rw [State.finish_eq, ended]
    split <;> rw [hdev]
  case ends =>
    rw [State.finish_eq, ended]
    by_cases h : (∀ c : ChanId, s.chans[c].st = .closed ∨ s.chans[c].st = .faulted) ∧ s.link.ops = []
    · rw [if_pos h, if_pos (.inl ⟨by rw [hdev], hends.2 h⟩)]
    · rw [if_neg h, if_neg (fun e => ?_), hdev]
      rcases e with e | e
      · exact h (hends.1 e.2)
      · rw [hdev] at e; exact DeviceState.noConfusion e.1
  case chan =>
    have hfinish : ChanStands c (s.frameEvent o) (s.frameEvent o).finish :=
      ⟨by rw [State.finish_chans], by rw [opsOf, State.finish_link, opsOf], State.finish_cfg _⟩
    have hother := fun h => (State.frameEvent_clear_other o hdue (c := c) h).trans hfinish
    cases hc : s.chans[c].st
    case priming => exact (State.frameEvent_clear_open o hdue hb (.inl hc)).carry (.refl c s) hfinish
    case running => exact (State.frameEvent_clear_open o hdue hb (.inr (.inl hc))).carry (.refl c s) hfinish
    case starved => exact (State.frameEvent_clear_open o hdue hb (.inr (.inr hc))).carry (.refl c s) hfinish
    case faulted =>
      obtain ⟨hchan, hops⟩ := State.frameEvent_clear_faulted o hdue hb hc
      exact ⟨hfinish.chan.trans hchan, hfinish.ops.trans hops⟩
    case closed => exact ⟨(hother (by rw [hc]; rfl)).chan, (hother (by rw [hc]; rfl)).ops⟩
    case closing => exact ⟨(hother (by rw [hc]; rfl)).chan, (hother (by rw [hc]; rfl)).ops⟩

end Sys2Proof.Machine
end

section
/-! PROOFS. O42: the apply of the staging set. -/

set_option Elab.async false

namespace Sys2Proof.Machine

/-! ### Records taken one after the other, while operations are sent -/

theorem getElem_set_ring (v : Vector Ring 4) (n k : RingId) (r : Ring) : (v.set n r)[k] = if k = n then r else v[k] := by
  by_cases h : k = n
  · subst h; simp
  · have hne : n.val ≠ k.val := fun e => h (Fin.ext e.symm)
    simp [Vector.getElem_set_ne, hne, h]

/-- A record neither holds nor drops a held REQUEST_DONE (R168, R169). -/
theorem State.offer_held (s : State) (n k : RingId) (r : Record) (hb : s.cfg.busMaster = true) :
    (s.offer n r).comp.rings[k].held = s.comp.rings[k].held := by
  have hset : ∀ q : Ring, q.held = s.comp.rings[n].held → ((s.comp.rings.set n q)[k]).held = s.comp.rings[k].held := by
    intro q hq
    rw [getElem_set_ring]
    split
    · next h => rw [hq, h]
    · rfl
  unfold State.offer
  split_ifs
  · exact hset _ rfl
  · rw [State.place_eq _ _ _ hb]
    exact hset _ rfl
  · rfl

/-- What the taking of one record leaves, the taking of several leaves. -/
theorem State.takePosts_records {β : Type} (f : State → β)
    (hf : ∀ (s : State) (n : RingId) (r : Record), s.cfg.busMaster = true → f (s.offer n r) = f s) {ps : List Post}
    (h : ∀ p ∈ ps, p.IsRecord) (s : State) (hb : s.cfg.busMaster = true) : f (s.takePosts ps) = f s := by
  induction ps generalizing s with
  | nil => rfl
  | cons p ps ih =>
    obtain ⟨⟨ring, r, rfl⟩, hps⟩ := List.forall_mem_cons.1 h
    have hb' : (s.takePost (.record ring r)).cfg.busMaster = true := by rw [State.takePost_cfg]; exact hb
    exact (ih hps _ hb').trans (hf s (ring.getD s.comp.eventRing) r hb)

theorem State.takePosts_records_proc {ps : List Post} (h : ∀ p ∈ ps, p.IsRecord) (s : State)
    (hb : s.cfg.busMaster = true) : (s.takePosts ps).proc = s.proc :=
  State.takePosts_records State.proc (fun s n r hb => s.offer_proc n r hb) h s hb

theorem State.takePosts_records_held {ps : List Post} (h : ∀ p ∈ ps, p.IsRecord) (s : State)
    (hb : s.cfg.busMaster = true) (k : RingId) : (s.takePosts ps).comp.rings[k].held = s.comp.rings[k].held :=
  State.takePosts_records (fun s => s.comp.rings[k].held) (fun s n r hb => s.offer_held n k r hb) h s hb

/-- An empty staging set stays so while records are taken. -/
theorem State.takePosts_mc_reset (ps : List Post) (s : State) (hb : s.cfg.busMaster = true) (h : s.mc = .reset) :
    (s.takePosts ps).mc = .reset := by
  induction ps generalizing s with
  | nil => exact h
  | cons p ps ih =>
    refine ih _ (by rw [State.takePost_cfg]; exact hb) ?_
    cases p with
    | record ring r => exact (State.offer_mc _ r s hb).trans h
    | done hand st v f =>
      show (s.handDone _ _).mc = _
      by_cases ho : s.dev.st = .online
      · rw [State.handDone_eq _ _ _ hb ho]
        unfold afterDone afterRequest afterPlace
        split_ifs <;> simp [h, MapControl.reset]
      · rw [State.handDone, if_pos (by simp [State.isOnline, ho])]
        exact h

/-! ### The records of an event with an apply (R37, R172) -/

theorem eventPosts_isRecord (online : Bool) (now : Word32) (es : List Event) :
    ∀ p ∈ es.flatMap fun e => eventPost online now e, p.IsRecord := fun p hp => by
  obtain ⟨e, -, hp⟩ := List.mem_flatMap.1 hp
  exact eventPost_isRecord p hp

theorem timingPosts_isRecord (online : Bool) (now : Word32) (occs : List TimOcc) :
    ∀ p ∈ timingPosts online now occs, p.IsRecord := fun p hp => by
  obtain ⟨e, -, hp⟩ := List.mem_flatMap.1 hp
  exact eventPost_isRecord p hp

theorem merge_forall {α : Type} {P : α → Prop} {picks : List Nat} {gs : List (List α)} (h : ∀ g ∈ gs, ∀ p ∈ g, P p) :
    ∀ p ∈ merge picks gs, P p := fun p hp => by
  obtain ⟨g, hg, hp⟩ := List.mem_flatten.1 ((merge_perm picks gs).mem_iff.1 hp)
  exact h g hg p hp

/-- One thing of a kind among others stands somewhere in every order of them. -/
theorem perm_split {α : Type} {P : α → Prop} {ps xs ys : List α} {d : α} (h : ps.Perm (xs ++ d :: ys))
    (hx : ∀ p ∈ xs, P p) (hy : ∀ p ∈ ys, P p) : ∃ before after, ps = before ++ d :: after ∧
      (∀ p ∈ before, P p) ∧ ∀ p ∈ after, P p := by
  have hd : d ∈ ps := h.mem_iff.2 (List.mem_append_right xs List.mem_cons_self)
  obtain ⟨before, after, rfl⟩ := List.append_of_mem hd
  have hperm : (before ++ after).Perm (xs ++ ys) :=
    (List.perm_middle.symm.trans (h.trans List.perm_middle)).cons_inv
  have hall : ∀ p ∈ before ++ after, P p := fun p hp =>
    (List.mem_append.1 (hperm.mem_iff.1 hp)).elim (hx p) (hy p)
  exact ⟨before, after, rfl, fun p hp => hall p (List.mem_append_left _ hp),
    fun p hp => hall p (List.mem_append_right _ hp)⟩

/-- The records of the apply: those of its channels, and then the REQUEST_DONE of the COMMIT (R37). -/
theorem State.applySet_posts (o : FrameOrder) {s : State} {hand : Hand} (h : s.proc.hand = some hand) :
    ∃ rs, (∀ p ∈ rs, p.IsRecord) ∧ (s.applySet o).2 = rs ++ [.done hand .applied (entryCount s) s.now] := by
  refine ⟨merge o.closes (({ s with map := s.prospectiveMap } : State).applyEntries s.mc.entries).2,
    merge_forall (State.applyEntries_isRecord _ _), ?_⟩
  unfold State.applySet
  rw [h]
  rfl

theorem State.applyPosts_eq (o : FrameOrder) {s : State} {hand : Hand} (hfl : s.mc.inFlight = true)
    (h : s.proc.hand = some hand) : ∃ rs, (∀ p ∈ rs, p.IsRecord) ∧
      s.applyPosts o = rs ++ [.done hand .applied (entryCount s) (s.ticked o).now] := by
  have hticked : (s.ticked o).proc.hand = some hand := h
  obtain ⟨rs, hrs, happly⟩ := State.applySet_posts o hticked
  exact ⟨rs, hrs, (if_pos hfl).trans happly⟩

theorem flatten_split {α : Type} (gs hs : List (List α)) (g rs : List α) (d : α) :
    (gs ++ [g] ++ [rs ++ [d]] ++ hs).flatten = (gs.flatten ++ g ++ rs) ++ d :: hs.flatten := by
  simp

theorem State.eventGroups_flatten (o : FrameOrder) {s : State} {rs : List Post} {d : Post}
    (h : s.applyPosts o = rs ++ [d]) : (s.eventGroups o).flatten =
      ((s.hwyTicks.toList.map fun k => k.events.flatMap fun e => eventPost s.isOnline s.now e).flatten ++
        timingPosts s.isOnline s.now (s.timingTick o).2 ++ rs) ++ d :: (s.moved o).2.flatten := by
  rw [State.eventGroups, h]
  exact flatten_split _ _ _ _ _

/-- Among the records of an event with an apply the one REQUEST_DONE is the COMMIT's. -/
theorem State.eventPosts_split (o : FrameOrder) {s : State} {hand : Hand} (hfl : s.mc.inFlight = true)
    (h : s.proc.hand = some hand) : ∃ before after,
      merge o.picks (s.eventGroups o) = before ++ .done hand .applied (entryCount s) (s.ticked o).now :: after ∧
        (∀ p ∈ before, p.IsRecord) ∧ ∀ p ∈ after, p.IsRecord := by
  obtain ⟨rs, hrs, happly⟩ := State.applyPosts_eq o hfl h
  refine perm_split ((merge_perm o.picks (s.eventGroups o)).trans (.of_eq (State.eventGroups_flatten o happly)))
    (fun p hp => ?_) (fun p hp => ?_)
  · rcases List.mem_append.1 hp with hp | hp
    · rcases List.mem_append.1 hp with hp | hp
      · obtain ⟨g, hg, hp⟩ := List.mem_flatten.1 hp
        obtain ⟨k, -, rfl⟩ := List.mem_map.1 hg
        exact eventPosts_isRecord _ _ _ p hp
      · exact timingPosts_isRecord _ _ _ p hp
    · exact hrs p hp
  · obtain ⟨g, hg, hp⟩ := List.mem_flatten.1 hp
    rw [State.moved] at hg
    exact State.moveChans_isRecord _ _ _ g hg p hp

/-! ### The REQUEST_DONE of the COMMIT (R37, R168, R170, R177) -/

theorem State.takePost_done (s : State) (hand : Hand) (st : Status) (v : Nat) (f : Word32) (hb : s.cfg.busMaster = true)
    (ho : s.dev.st = .online) : s.takePost (.done hand st v f) =
      afterDone hand.ring { status := st, consumed := s.proc.consumed, tag := hand.tag, value := v, frame := f } s :=
  State.handDone_eq _ _ _ hb ho

theorem afterRequest_stopped {s : State} (h : s.dev.stopPending = true) : (afterRequest s).proc.st = .stopped := by
  rw [afterRequest, if_pos h]

/-- A record just placed is in its ring. -/
theorem handed_afterPlace (n : RingId) (rec : Record) (s : State) :
    ∃ w ∈ (afterPlace n rec s).link.ops, w.kind = .recordWrite n ∧ ∃ phase, w.data = rec.bytes phase :=
  ⟨recordOp s.link.nextId n s.comp.rings[n] rec, by simp [afterPlace], rfl, _, rfl⟩

/-- After a STOP a REQUEST_DONE is placed, or dropped and counted, and the processor is STOPPED (R158, R177). -/
theorem afterDone_stopping (n : RingId) (d : ReqDone) {s : State} (h : s.dev.stopPending = true) :
    (afterDone n d s).proc.st = .stopped ∧ Handed n (.requestDone d) (afterDone n d s) := by
  unfold afterDone
  split_ifs
  · obtain ⟨w, hw, hk⟩ := handed_afterPlace n (.requestDone d) s
    exact ⟨afterRequest_stopped h, .inl ⟨w, (grows_afterRequest _).ops w hw, hk⟩⟩
  · refine ⟨afterRequest_stopped h, .inr (Nat.lt_of_lt_of_le ?_ ((grows_afterRequest _).missed n))⟩
    simp only [Fin.getElem_fin, Vector.getElem_set_self, Ring.dropped]
    split <;> omega

/-- With no STOP pending it is placed, or held (R168, R170). -/
theorem afterDone_running (n : RingId) (d : ReqDone) {s : State} (h : s.dev.stopPending = false) :
    (∃ w ∈ (afterDone n d s).link.ops, w.kind = .recordWrite n ∧ ∃ phase, w.data = (Record.requestDone d).bytes phase) ∨
      (afterDone n d s).proc.st = .waitingSpace ∧ (afterDone n d s).comp.rings[n].held = some d := by
  unfold afterDone
  rw [if_neg (Bool.eq_false_iff.1 h)]
  split_ifs
  · obtain ⟨w, hw, hk⟩ := handed_afterPlace n (.requestDone d) s
    exact .inl ⟨w, (grows_afterRequest _).ops w hw, hk⟩
  · exact .inr ⟨rfl, by simp⟩

end Sys2Proof.Machine
end

section
/-! PROOFS. O42: the event with an apply. -/

set_option Elab.async false

namespace Sys2Proof.Machine

section Event

variable {s : State} (o : FrameOrder)

theorem State.advanceCounter_stands (s : State) (c : ChanId) : ChanStands c s s.advanceCounter := ⟨rfl, rfl, rfl⟩

theorem State.applied_cfg (o : FrameOrder) (s : State) : (s.applied o).cfg = s.cfg := by
  unfold State.applied
  split
  · exact State.applySet_cfg o _
  · rfl

theorem State.moved_cfg (o : FrameOrder) (s : State) : (s.moved o).1.cfg = s.cfg := by
  rw [State.moved, State.moveChans_cfg, State.switched, State.sendFrames_cfg, State.applied_cfg]

theorem State.moved_proc (hfl : s.mc.inFlight = true) : (s.moved o).1.proc = s.proc := by
  rw [State.moved, State.moveChans_proc, State.switched, State.sendFrames_proc, State.applied_of_inFlight o hfl,
    State.applySet_proc, State.ticked]

theorem State.moved_dev (hfl : s.mc.inFlight = true) : (s.moved o).1.dev = s.dev := by
  rw [State.moved, State.moveChans_dev, State.switched, State.sendFrames_dev, State.applied_of_inFlight o hfl,
    State.applySet_dev, State.ticked]

theorem State.moved_mc (hfl : s.mc.inFlight = true) : (s.moved o).1.mc = .reset := by
  rw [State.moved, State.moveChans_mc, State.switched, State.sendFrames_mc, State.applied_of_inFlight o hfl]
  rfl

/-- An event with an apply begins with the counter alone (R189). -/
theorem State.frameEvent_apply (hfl : s.mc.inFlight = true) : s.frameEvent o = s.advanceCounter.runEvent o := by
  rw [State.frameEvent, State.beginEvent_plain (State.stopClearDue_of_inFlight hfl)]

/-- The set is emptied and the flag cleared (R37). -/
theorem State.frameEvent_apply_mc (hfl : s.mc.inFlight = true) (hb : s.cfg.busMaster = true) :
    (s.frameEvent o).mc = { targets := [], entries := [], inFlight := false } := by
  rw [State.frameEvent_apply o hfl, State.runEvent_eq]
  exact State.takePosts_mc_reset _ _ (by rw [State.moved_cfg]; exact hb) (State.moved_mc o hfl)

theorem State.frameEvent_apply_dev (hfl : s.mc.inFlight = true) (hb : s.cfg.busMaster = true) :
    (s.frameEvent o).dev = s.dev := by
  rw [State.frameEvent_apply o hfl, State.runEvent_dev o s.advanceCounter hb]
  rfl

/-! ### The channels -/

/-- A channel without work at an event stands through all of it after the apply. -/
theorem State.runEvent_stands (hb : s.cfg.busMaster = true) {c : ChanId} (h : (s.applied o).chans[c].moves = false) :
    ChanStands c (s.applied o) (s.runEvent o) := by
  rw [State.runEvent_eq]
  exact (s.moved_stands o h).trans (chanStands_takePosts c _ _ (by rw [State.moved_cfg]; exact hb))

/-- A channel with an entry: what the entry does to it is all the event does (R34 to R36). -/
theorem State.frameEvent_apply_at (hfl : s.mc.inFlight = true) (hb : s.cfg.busMaster = true)
    (hset : (s.mc.entries.map Prod.fst).Nodup) {c : ChanId} {e : ChanEntry} (he : (c, e) ∈ s.mc.entries) :
    ∃ u, ChanStands c s u ∧ ChanStands c (u.chanAct c (u.chans[c].applyEntry e (u.chanEnv c))).1 (s.frameEvent o) := by
  have hstaged : lookupKey c s.mc.entries ≠ none :=
    Option.isSome_iff_ne_none.1 ((lookupKey_isSome c _).2 (List.mem_map_of_mem he))
  obtain ⟨u, hu, hact⟩ := actAll_at applyEntry_outOwn hset he
    { s.advanceCounter.ticked o with map := (s.advanceCounter.ticked o).prospectiveMap }
  have happly := (s.advanceCounter.ticked o).applySet_stands o c
  have hevent := State.runEvent_stands o (s := s.advanceCounter) hb (s.advanceCounter.applied_moves o hfl hstaged)
  rw [← State.frameEvent_apply o hfl, State.applied_of_inFlight (s := s.advanceCounter) o hfl] at hevent
  have hbegin := (s.advanceCounter_stands c).trans <| (s.advanceCounter.ticked_stands o c).trans <|
    State.withMap_stands c (s.advanceCounter.ticked o).prospectiveMap _
  exact ⟨u, hbegin.trans hu, hact.trans (happly.trans hevent)⟩

/-- A channel without an entry and without work at the event (R32). -/
theorem State.frameEvent_apply_other (hfl : s.mc.inFlight = true) (hb : s.cfg.busMaster = true) {c : ChanId}
    (h : lookupKey c s.mc.entries = none) (hrun : s.chans[c].st ≠ .running) (hstarved : s.chans[c].st ≠ .starved) :
    (s.frameEvent o).chans[c] = s.chans[c] := by
  have happly := s.advanceCounter.applied_stands o (.inr h)
  have hmoves : (s.advanceCounter.applied o).chans[c].moves = false := by
    rw [happly.chan, (s.advanceCounter_stands c).chan, Chan.moves, decide_eq_false hrun, decide_eq_false hstarved]
    rfl
  rw [State.frameEvent_apply o hfl]
  exact (happly.trans (State.runEvent_stands (s := s.advanceCounter) o hb hmoves)).chan

theorem Chan.applyReslot_of_open {ch : Chan} (h : HwyId) (l : List Nat)
    (hst : ch.st = .priming ∨ ch.st = .running ∨ ch.st = .starved) : ch.applyReslot h l = ch.toPriming h l := by
  unfold Chan.applyReslot
  rcases hst with e | e | e <;> rw [e]

theorem Chan.applyReslot_of_faulted {ch : Chan} (h : HwyId) (l : List Nat) (hst : ch.st = .faulted) :
    ch.applyReslot h l = Chan.only { ch with hwy := h, slots := l } := by
  unfold Chan.applyReslot
  rw [hst]

section Entries

variable (hfl : s.mc.inFlight = true) (hb : s.cfg.busMaster = true) (hset : (s.mc.entries.map Prod.fst).Nodup)
include hfl hb hset

/-- OPEN (R34, R72). -/
theorem State.frameEvent_apply_open {c : ChanId} {p : OpenParams} (he : (c, .openEntry p) ∈ s.mc.entries) :
    (s.frameEvent o).chans[c] = (Chan.applyOpen p).ch ∧
      ∃ d ∈ (s.frameEvent o).link.ops, d.kind = .descRead c 0 ∧ d.mark = .live ∧ d.addr = p.ringBase ∧ d.len = 32 := by
  obtain ⟨u, hu, hact⟩ := State.frameEvent_apply_at o hfl hb hset he
  obtain ⟨hchan, d, hd, hread⟩ := applyOpen_chanAct c p u (by rw [hu.cfg]; exact hb)
  refine ⟨hact.chan.trans hchan, d, (mem_opsOf.1 (?_ : d ∈ opsOf c (s.frameEvent o))).1, hread⟩
  rw [hact.ops]
  exact hd

/-- CLOSE of an open channel (R35, R83). -/
theorem State.frameEvent_apply_close {c : ChanId} (he : (c, .closeEntry) ∈ s.mc.entries)
    (hst : s.chans[c].st = .priming ∨ s.chans[c].st = .running ∨ s.chans[c].st = .starved) :
    EntersClosing c s (s.frameEvent o) := by
  obtain ⟨u, hu, hact⟩ := State.frameEvent_apply_at o hfl hb hset he
  rw [Chan.applyEntry, Chan.close_of_open _ (by rw [hu.chan]; exact hst)] at hact
  exact (entersClosing_chanAct c u (by rw [hu.cfg]; exact hb)).carry hu hact

/-- CLOSE of a FAULTED channel (R35). -/
theorem State.frameEvent_apply_close_faulted {c : ChanId} (he : (c, .closeEntry) ∈ s.mc.entries)
    (hst : s.chans[c].st = .faulted) :
    (s.frameEvent o).chans[c] = { s.chans[c] with st := .closed, slots := [] } ∧
      opsOf c (s.frameEvent o) = opsOf c s := by
  obtain ⟨u, hu, hact⟩ := State.frameEvent_apply_at o hfl hb hset he
  rw [Chan.applyEntry, Chan.close_of_faulted _ (by rw [hu.chan]; exact hst),
    State.chanAct_still u (by rw [hu.cfg]; exact hb) rfl rfl (.inl rfl), hu.chan] at hact
  exact ⟨hact.chan.trans (withChan_chan c _ u), hact.ops.trans hu.ops⟩

/-- RESLOT of an open channel (R36, R82). -/
theorem State.frameEvent_apply_reslot {c : ChanId} {h : HwyId} {l : List Nat}
    (he : (c, .reslotEntry h l) ∈ s.mc.entries)
    (hst : s.chans[c].st = .priming ∨ s.chans[c].st = .running ∨ s.chans[c].st = .starved) :
    Reprimes c h l s (s.frameEvent o) := by
  obtain ⟨u, hu, hact⟩ := State.frameEvent_apply_at o hfl hb hset he
  rw [Chan.applyEntry, Chan.applyReslot_of_open h l (by rw [hu.chan]; exact hst)] at hact
  exact (reprimes_chanAct c h l u (by rw [hu.cfg]; exact hb)).carry hu hact

/-- RESLOT of a FAULTED channel (R36). -/
theorem State.frameEvent_apply_reslot_faulted {c : ChanId} {h : HwyId} {l : List Nat}
    (he : (c, .reslotEntry h l) ∈ s.mc.entries) (hst : s.chans[c].st = .faulted) :
    (s.frameEvent o).chans[c] = { s.chans[c] with hwy := h, slots := l } ∧ opsOf c (s.frameEvent o) = opsOf c s := by
  obtain ⟨u, hu, hact⟩ := State.frameEvent_apply_at o hfl hb hset he
  have hstu : u.chans[c].st = .faulted := by rw [hu.chan]; exact hst
  rw [Chan.applyEntry, Chan.applyReslot_of_faulted h l hstu,
    State.chanAct_still u (by rw [hu.cfg]; exact hb) rfl rfl (.inr hstu), hu.chan] at hact
  exact ⟨hact.chan.trans (withChan_chan c _ u), hact.ops.trans hu.ops⟩

end Entries

/-! ### The COMMIT -/

/-- The REQUEST_DONE of a COMMIT whose set is applied (R37). -/
def State.appliedDone (hand : Hand) (now : Word32) (s : State) : ReqDone :=
  { status := .applied, consumed := s.proc.consumed, tag := hand.tag, value := entryCount s, frame := now }

/-- The event with an apply takes records, then the COMMIT's REQUEST_DONE, and then records again (R37, R172). -/
theorem State.runEvent_apply_done {hand : Hand} (hfl : s.mc.inFlight = true) (hb : s.cfg.busMaster = true)
    (ho : s.dev.st = .online) (h : s.proc.hand = some hand) :
    ∃ (u : State) (after : List Post), (∀ p ∈ after, p.IsRecord) ∧ u.cfg.busMaster = true ∧ u.dev = s.dev ∧
      s.runEvent o = (afterDone hand.ring (s.appliedDone hand (s.ticked o).now) u).takePosts after := by
  obtain ⟨before, after, hposts, hbefore, hafter⟩ := State.eventPosts_split o hfl h
  have hbm : (s.moved o).1.cfg.busMaster = true := by rw [State.moved_cfg]; exact hb
  have hcfg : ((s.moved o).1.takePosts before).cfg.busMaster = true := by rw [State.takePosts_cfg]; exact hbm
  have hdev : ((s.moved o).1.takePosts before).dev = s.dev := by
    rw [State.takePosts_dev _ _ hbm, State.moved_dev o hfl]
  have hproc : ((s.moved o).1.takePosts before).proc = s.proc := by
    rw [State.takePosts_records_proc hbefore _ hbm, State.moved_proc o hfl]
  refine ⟨(s.moved o).1.takePosts before, after, hafter, hcfg, hdev, ?_⟩
  rw [State.runEvent_eq, hposts, State.takePosts_append, State.takePosts_cons,
    State.takePost_done _ _ _ _ _ hcfg (by rw [hdev]; exact ho), hproc]
  rfl

/-- The frame number of a record of the event is that of the event (R115). -/
theorem State.ticked_now (o : FrameOrder) (s : State) : (s.advanceCounter.ticked o).now = s.tim.counter + 1 :=
  Timing.frameEvent_counter _ _ _ _

theorem State.appliedDone_advanceCounter (hand : Hand) (now : Word32) (s : State) :
    s.advanceCounter.appliedDone hand now = s.appliedDone hand now := rfl

theorem afterRequest_cfg (s : State) : (afterRequest s).cfg = s.cfg := (grows_afterRequest s).cfg

theorem afterDone_cfg (n : RingId) (d : ReqDone) (s : State) : (afterDone n d s).cfg = s.cfg := by
  unfold afterDone
  split_ifs
  · rw [afterRequest_cfg]; rfl
  · rw [afterRequest_cfg]
  · rfl

/-- Every order of the event's records leaves the COMMIT's REQUEST_DONE as R37, R168, R170 and R177 have it. -/
theorem State.frameEvent_apply_done {hand : Hand} (hfl : s.mc.inFlight = true) (hb : s.cfg.busMaster = true)
    (ho : s.dev.st = .online) (h : s.proc.hand = some hand) :
    if s.dev.stopPending then
      (s.frameEvent o).proc.st = .stopped ∧ (s.frameEvent o).dev.stopPending = true ∧
        Handed hand.ring (.requestDone (s.appliedDone hand (s.tim.counter + 1))) (s.frameEvent o)
    else
      (∃ w ∈ (s.frameEvent o).link.ops, w.kind = .recordWrite hand.ring ∧
          ∃ phase, w.data = (Record.requestDone (s.appliedDone hand (s.tim.counter + 1))).bytes phase) ∨
        (s.frameEvent o).proc.st = .waitingSpace ∧
          (s.frameEvent o).comp.rings[hand.ring].held = some (s.appliedDone hand (s.tim.counter + 1)) := by
  obtain ⟨u, after, hafter, hcfg, hdev, hrun⟩ := State.runEvent_apply_done (s := s.advanceCounter) o hfl hb ho h
  rw [State.ticked_now, ← State.frameEvent_apply o hfl, State.appliedDone_advanceCounter] at hrun
  have hdevEvent := State.frameEvent_apply_dev o hfl hb
  rw [hrun] at hdevEvent ⊢
  generalize s.appliedDone hand (s.tim.counter + 1) = d at hdevEvent ⊢
  have hcfg' : (afterDone hand.ring d u).cfg.busMaster = true := by rw [afterDone_cfg]; exact hcfg
  rw [State.takePosts_records_proc hafter _ hcfg']
  have hgrows := grows_takePosts after _ hcfg'
  split_ifs with hstop
  · obtain ⟨hst, hhanded⟩ := afterDone_stopping hand.ring d (s := u) (by rw [hdev]; exact hstop)
    exact ⟨hst, by rw [hdevEvent]; exact hstop, hhanded.grows hgrows⟩
  · have hrunning : u.dev.stopPending = false := by rw [hdev]; exact Bool.eq_false_iff.2 hstop
    refine (afterDone_running hand.ring d hrunning).imp (fun ⟨w, hw, hk⟩ => ⟨w, hgrows.ops w hw, hk⟩)
      fun ⟨hst, hheld⟩ => ?_
    exact ⟨hst, by rw [State.takePosts_records_held hafter _ hcfg']; exact hheld⟩

end Event

/-- Settles O42: the apply, the channels' entries one by one, and the COMMIT's REQUEST_DONE in every order of the event's
records. -/
theorem applyTakesEffect : Obligations.ApplyTakesEffect := by
  unfold Obligations.ApplyTakesEffect
  intro o hand s hw hstaging hfl hhand
  have hb : s.cfg.busMaster = true := hw.linked
  have hset := Rising.nodup hstaging.2.2
  have honline : (s.frameEvent o).dev.st = .online := by rw [State.frameEvent_apply_dev o hfl hb]; exact hw.online
  have hevent : exec (.deviceFrameEvent o) s = .next (s.frameEvent o) := done_online _ honline
  have happly : exec (.apply o) s = .next (s.frameEvent o) := by
    show done (s.applyEvent o) = _
    rw [State.applyEvent, State.eventIf, hfl, if_pos rfl]
    exact hevent
  refine ⟨s.frameEvent o, happly, hevent, State.frameEvent_apply_mc o hfl hb, s.frameEvent_counter o, fun h => ?map,
    fun c p he => State.frameEvent_apply_open o hfl hb hset he,
    fun c he => ⟨State.frameEvent_apply_close o hfl hb hset he, State.frameEvent_apply_close_faulted o hfl hb hset he⟩,
    fun c h l he =>
      ⟨State.frameEvent_apply_reslot o hfl hb hset he, State.frameEvent_apply_reslot_faulted o hfl hb hset he⟩,
    fun c h hrun hstarved => State.frameEvent_apply_other o hfl hb h hrun hstarved,
    State.frameEvent_apply_done o hfl hb hw.online hhand⟩
  case map =>
    rw [State.frameEvent_map_apply o hfl]
    refine ⟨by simp [State.prospectiveMap], fun n hn => ?_⟩
    have hn' : n < s.map[h.val].length := hn
    simp [State.prospectiveMap, hn']

end Sys2Proof.Machine
end

section
/-! PROOFS. O58: every step keeps the staging set's invariant. -/

set_option Elab.async false

namespace Sys2Proof.Machine

/-! ### Records and the request processor leave the set, or empty it -/

section Shared

variable {s : State} (h : StagingInv s)

include h

theorem StagingInv.of_mc {t : State} (e : t.mc = s.mc) : StagingInv t := by
  unfold StagingInv entryCount at h ⊢
  rw [e]
  exact h

omit h in
theorem stagingInv_of_emptied {t : State} (ht : t.mc.targets = []) (he : t.mc.entries = []) : StagingInv t := by
  unfold StagingInv entryCount
  rw [ht, he]
  exact ⟨Nat.zero_le 256, List.Pairwise.nil, List.Pairwise.nil⟩

/-- A halt withdraws a COMMIT in flight and keeps the set (R41, R191). -/
theorem StagingInv.halt (k : Cause) : StagingInv (s.halt k) := h

theorem StagingInv.place (n : RingId) (r : Record) : StagingInv (s.place n r) := by
  by_cases hb : s.cfg.busMaster = true
  · exact h.of_mc (State.place_mc n r s hb)
  · rw [State.place_unsent n r s (Bool.eq_false_iff.2 hb)]
    exact h

theorem StagingInv.offer (n : RingId) (r : Record) : StagingInv (s.offer n r) := by
  unfold State.offer
  split_ifs
  · exact h
  · exact h.place n r
  · exact h

theorem StagingInv.fetch : StagingInv s.fetch := by
  unfold State.fetch
  split_ifs
  · exact h
  · exact h

theorem StagingInv.procNext : StagingInv s.procNext := by
  unfold State.procNext
  split_ifs
  · exact stagingInv_of_emptied rfl rfl
  · exact h
  · exact h.fetch

theorem StagingInv.placeDone (n : RingId) (d : ReqDone) : StagingInv (s.placeDone n d) := by
  have hplace := h.place n (.requestDone d)
  unfold State.placeDone
  dsimp only
  split_ifs
  · exact hplace.procNext
  · exact hplace

theorem StagingInv.handDone (n : RingId) (d : ReqDone) : StagingInv (s.handDone n d) := by
  have hmiss : StagingInv (s.miss n) := h
  unfold State.handDone
  split_ifs
  · exact h
  · exact h.placeDone n d
  · exact hmiss.procNext
  · exact h

theorem StagingInv.finishRequest (hand : Hand) (st : Status) (v : Nat) (f : Word32) :
    StagingInv (s.finishRequest hand st v f) := h.handDone _ _

theorem StagingInv.failRequest (hand : Hand) (st : Status) : StagingInv (s.failRequest hand st) :=
  h.finishRequest hand st 0 0

theorem StagingInv.takePosts (ps : List Post) : StagingInv (s.takePosts ps) := by
  induction ps generalizing s with
  | nil => exact h
  | cons p ps ih =>
    refine ih ?_
    cases p with
    | record ring r => exact h.offer _ r
    | done hand st v f => exact h.finishRequest hand st v f

/-! ### Channels and the timing unit -/

theorem StagingInv.chanEvent (c : ChanId) (o : ChanOut) : StagingInv (s.chanEvent c o) :=
  (h.of_mc (State.chanAct_mc c o s)).takePosts _

theorem StagingInv.chanStepIf (c : ChanId) (can : Chan → ChanEnv → Bool) (step : Chan → ChanEnv → ChanOut) :
    StagingInv (s.chanStepIf c can step) := by
  unfold State.chanStepIf
  split_ifs
  · exact h.chanEvent c _
  · exact h

theorem StagingInv.withTiming (r : Timing × List TimOcc) : StagingInv (s.withTiming r) := by
  have htim : StagingInv { s with tim := r.1 } := h
  exact htim.takePosts _

theorem StagingInv.arrival (x : HwyId) (f : Frame) (since : Bool) : StagingInv (s.arrival x f since) := by
  have hport : ∀ p, StagingInv (s.setHwy x p) := fun _ => h
  unfold State.arrival
  split_ifs
  · exact ((hport _).takePosts _).withTiming _
  · exact h

theorem StagingInv.changeHwy (x : HwyId) (r : ReqRecord) (k : HwyChange) : StagingInv (s.changeHwy x r k) := by
  have hchanged : StagingInv { s with
      hwys := s.hwys.set x (s.hwys[x].change r k), map := s.map.set x (changeDrivers (reqByte r 0x0A) s.map[x] k) } := h
  unfold State.changeHwy
  dsimp only
  split_ifs
  · exact hchanged.withTiming _
  · exact hchanged

/-! ### The device frame event -/

theorem StagingInv.beginEvent : StagingInv s.beginEvent := h.of_mc s.beginEvent_mc

/-- An apply empties the set (R37). -/
theorem StagingInv.applied (o : FrameOrder) : StagingInv (s.applied o) := by
  unfold State.applied
  split_ifs
  · exact stagingInv_of_emptied rfl rfl
  · exact h

theorem StagingInv.frameEvent (o : FrameOrder) : StagingInv (s.frameEvent o) := by
  have hmoved : StagingInv (s.beginEvent.moved o).1 := by
    refine (h.beginEvent.applied o).of_mc ?_
    rw [State.moved, State.moveChans_mc, State.switched, State.sendFrames_mc]
  rw [State.frameEvent, State.runEvent_eq]
  exact hmoved.takePosts _

theorem StagingInv.eventIf (due : Bool) (o : FrameOrder) : StagingInv (s.eventIf due o) := by
  unfold State.eventIf
  split_ifs
  · exact h.frameEvent o
  · exact h

/-! ### The device and its registers -/

theorem StagingInv.stopRule : StagingInv s.stopRule := by
  unfold State.stopRule
  split
  · split_ifs
    · exact h
    · rw [State.stopOnline_eq]
      split_ifs
      · exact stagingInv_of_emptied rfl rfl
      · exact stagingInv_of_emptied rfl rfl
      · exact h
  · exact stagingInv_of_emptied rfl rfl
  all_goals exact h

theorem StagingInv.setupRule (high : Bool) (v : Word32) : StagingInv (s.setupRule high v) := by
  unfold State.setupRule
  split_ifs <;> exact h

theorem StagingInv.regWrite (legal v : Word32) {rule : State → State} (hrule : StagingInv (rule s)) :
    StagingInv (s.regWrite legal v rule) := by
  unfold State.regWrite
  split_ifs
  · exact h
  · exact h
  · exact hrule

theorem StagingInv.setupWrite (high : Bool) (v : Word32) : StagingInv (s.setupWrite high v) :=
  h.regWrite _ _ (h.setupRule high v)

theorem StagingInv.fetchStep : StagingInv s.fetchStep := by
  unfold State.fetchStep
  split_ifs
  · exact h.fetch
  · exact h

theorem StagingInv.tailRule (v : Word32) : StagingInv (s.tailRule v) := by
  have htail : ∀ x, StagingInv { s with proc := { s.proc with tail := x } } := fun _ => h
  unfold State.tailRule
  split_ifs
  · exact h
  · exact h
  · exact (htail _).fetchStep

theorem StagingInv.tailWrite (v : Word32) : StagingInv (s.tailWrite v) := h.regWrite _ _ (h.tailRule v)

theorem StagingInv.placeOverflow (n : RingId) : StagingInv (s.placeOverflow n) := by
  have hring : ∀ r, StagingInv (s.setRing n r) := fun _ => h
  unfold State.placeOverflow
  split_ifs
  · exact (hring _).place n _
  · exact h

theorem StagingInv.placeHeld (n : RingId) : StagingInv (s.placeHeld n) := by
  have hring : ∀ r, StagingInv (s.setRing n r) := fun _ => h
  unfold State.placeHeld
  split
  · split_ifs
    · exact h
    · exact (hring _).placeDone n _
  · exact h

theorem StagingInv.takeHead (n : RingId) (v : Word32) : StagingInv (s.takeHead n v) := by
  have hring : StagingInv (s.setRing n { s.ring n with head := headCount v }) := h
  have hfilled : StagingInv (if (s.ring n).advance v = 0 then s.setRing n { s.ring n with head := headCount v }
      else (s.setRing n { s.ring n with head := headCount v }).fillSpace n) := by
    split_ifs
    · exact hring
    · exact (hring.placeOverflow n).placeHeld n
  unfold State.takeHead
  dsimp only
  split_ifs at hfilled ⊢
  · exact hfilled.of_mc (State.judgeArm_mc n _)
  · exact hfilled
  · exact hfilled.of_mc (State.judgeArm_mc n _)
  · exact hfilled

theorem StagingInv.ringHeadWrite (n : RingId) (v : Word32) : StagingInv (s.ringHeadWrite n v) := by
  refine h.regWrite _ _ ?_
  unfold State.headRule
  split_ifs
  · exact h
  · exact h
  · exact h.takeHead n v

theorem StagingInv.controlWrite (v : Word32) : StagingInv (s.controlWrite v) := by
  unfold State.controlWrite
  split_ifs
  · exact h.of_mc s.startRule_mc
  · exact h.stopRule
  · exact stagingInv_of_emptied rfl rfl
  · exact h

theorem StagingInv.windowWrite (offset len : Nat) (v : Word32) : StagingInv (s.windowWrite offset len v) := by
  unfold State.windowWrite
  split_ifs
  · exact h
  · exact h
  · exact h
  · exact h
  · exact h.controlWrite v
  · exact h.setupWrite false v
  · exact h.setupWrite true v
  · exact h.tailWrite v
  · exact h.ringHeadWrite _ v

/-! ### The ends of host memory operations -/

theorem StagingInv.endOp (id : Nat) : StagingInv (s.endOp id) := h

theorem StagingInv.resultEnd (accepted : Bool) : StagingInv (s.resultEnd accepted) := by
  unfold State.resultEnd
  split
  · split_ifs
    · exact h.finishRequest _ _ _ _
    · exact h.failRequest _ _
  · exact h

theorem StagingInv.fails (k : OpKind) (timeout : Bool) : StagingInv (s.fails k timeout) := by
  cases k with
  | setupRead => exact h.of_mc (State.startFails_mc _ s)
  | requestFetch => exact h.halt _
  | resultWrite => exact h.resultEnd false
  | recordWrite n => exact h.halt _
  | descRead c i => exact h.chanEvent c _
  | dataRead c i => exact h.chanEvent c _
  | dataWrite c i => exact h.chanEvent c _
  | writeBack c e f => exact h.chanEvent c _
  | flushRead c i => exact h.chanEvent c _

theorem StagingInv.discarded (o : Op) : StagingInv (s.discarded o) := by
  unfold State.discarded
  split
  · exact (h.of_mc (State.chanPump_mc _ s)).takePosts _
  all_goals exact h

theorem StagingInv.failOp (id : Nat) (timeout : Bool) : StagingInv (s.failOp id timeout) := by
  unfold State.failOp
  split
  · split
    · exact (h.endOp id).fails _ timeout
    · exact (h.endOp id).discarded _
    · exact (h.endOp id).discarded _
  · exact h

theorem StagingInv.staleEnd (id : Nat) : StagingInv (s.staleEnd id) := by
  unfold State.staleEnd
  split
  · split
    · exact h
    · exact (h.endOp id).discarded _
    · exact (h.endOp id).discarded _
  · exact h

theorem StagingInv.setupReadEnd (e : ReadEnd) : StagingInv (s.setupReadEnd e) := by
  unfold State.setupReadEnd
  split
  · cases e with
    | data bytes => exact (h.endOp _).of_mc (State.setupData_mc bytes _)
    | error => exact h.failOp _ _
    | timeout => exact h.failOp _ _
  · exact h

theorem StagingInv.fetchFails (timeout : Bool) : StagingInv (s.fetchFails timeout) := by
  unfold State.fetchFails
  split
  · exact h.failOp _ _
  · exact h

theorem StagingInv.resultWriteEnd (e : WriteEnd) : StagingInv (s.resultWriteEnd e) := by
  unfold State.resultWriteEnd
  split
  · cases e with
    | accepted => exact (h.endOp _).resultEnd true
    | error => exact h.failOp _ _
    | timeout => exact h.failOp _ _
  · exact h

theorem StagingInv.chanReadEnd (id : Nat) (c : ChanId) (e : ReadEnd) (take : Chan → ChanEnv → List Byte → ChanOut) :
    StagingInv (s.chanReadEnd id c e take) := by
  cases e with
  | data bytes => exact (h.endOp id).chanEvent c _
  | error => exact h.failOp _ _
  | timeout => exact h.failOp _ _

theorem StagingInv.chanWriteEnd (id : Nat) (c : ChanId) (e : WriteEnd) (take : Chan → ChanEnv → ChanOut) :
    StagingInv (s.chanWriteEnd id c e take) := by
  cases e with
  | accepted => exact (h.endOp id).chanEvent c _
  | error => exact h.failOp _ _
  | timeout => exact h.failOp _ _

theorem StagingInv.descriptorReadEnd (id : Nat) (e : ReadEnd) : StagingInv (s.descriptorReadEnd id e) := by
  unfold State.descriptorReadEnd
  split
  · exact h.chanReadEnd id _ e _
  · exact h

theorem StagingInv.dataReadEnd (id : Nat) (e : ReadEnd) : StagingInv (s.dataReadEnd id e) := by
  unfold State.dataReadEnd
  split
  · exact h.chanReadEnd id _ e _
  · exact h

theorem StagingInv.dataWriteEnd (id : Nat) (e : WriteEnd) : StagingInv (s.dataWriteEnd id e) := by
  unfold State.dataWriteEnd
  split
  · exact h.chanWriteEnd id _ e _
  · exact h

theorem StagingInv.writeBackEnd (id : Nat) (e : WriteEnd) : StagingInv (s.writeBackEnd id e) := by
  unfold State.writeBackEnd
  split
  · exact h.chanWriteEnd id _ e _
  · exact h

theorem StagingInv.flushReadEnd (id : Nat) (e : ReadEnd) : StagingInv (s.flushReadEnd id e) := by
  unfold State.flushReadEnd
  split
  · exact h.chanReadEnd id _ e _
  · exact h

theorem StagingInv.completionWriteEnd (id : Nat) (e : WriteEnd) : StagingInv (s.completionWriteEnd id e) := by
  unfold State.completionWriteEnd
  split
  · cases e with
    | accepted => exact h
    | error => exact h.failOp _ _
    | timeout => exact h.failOp _ _
  · exact h

theorem StagingInv.overflowStep (n : RingId) : StagingInv (s.overflowStep n) := by
  unfold State.overflowStep
  split_ifs
  · exact h.placeOverflow n
  · exact h

theorem StagingInv.heldStep (n : RingId) : StagingInv (s.heldStep n) := by
  unfold State.heldStep
  split_ifs
  · exact h.placeHeld n
  · exact h

end Shared

end Sys2Proof.Machine
end

section
/-! PROOFS. O58: the requests that change the set, and every step. -/

set_option Elab.async false

namespace Sys2Proof.Machine

/-! ### What a staging request leaves in the set -/

section Requests

variable {s : State} (h : StagingInv s)

include h

/-- An entry is put under a key that has one, or while there is room (R22). -/
theorem StagingInv.stageTarget {x : HwyId} {n : Nat} (t : Target)
    (hroom : lookupKey ⟨x, n⟩ s.mc.targets ≠ none ∨ entryCount s < 256) : StagingInv (s.stageTarget x n t) := by
  obtain ⟨hcount, htargets, hentries⟩ := h
  refine ⟨?_, htargets.putKey SlotRef.rank_injective ⟨x, n⟩ t, hentries⟩
  unfold entryCount State.stageTarget at *
  dsimp only
  rw [putKey_length _ _ htargets]
  rw [← Option.isSome_iff_ne_none] at hroom
  split_ifs with hkey
  · exact hcount
  · have := hroom.resolve_left hkey
    omega

/-- A channel entry is put, and target entries may be absorbed by it (R22, R25). -/
theorem StagingInv.stageSlots {c : ChanId} (e : ChanEntry) (d : Dir) (x : HwyId) (l : List Nat)
    (hroom : lookupKey c s.mc.entries ≠ none ∨ entryCount s < 256) : StagingInv (s.stageSlots c e d x l) := by
  obtain ⟨hcount, htargets, hentries⟩ := h
  rw [State.stageSlots_eq]
  have habsorbed : (absorbed d x l s.mc.targets).length ≤ s.mc.targets.length ∧
      Rising SlotRef.rank (absorbed d x l s.mc.targets) := by
    unfold absorbed
    split_ifs
    · exact ⟨List.length_filter_le _ _, htargets.filter _⟩
    · exact ⟨le_rfl, htargets⟩
  refine ⟨?_, habsorbed.2, hentries.putKey chanRank_injective c e⟩
  have hshort := habsorbed.1
  unfold entryCount at *
  dsimp only
  rw [putKey_length _ _ hentries]
  rw [← Option.isSome_iff_ne_none] at hroom
  split_ifs with hkey
  · omega
  · have := hroom.resolve_left hkey
    omega

theorem StagingInv.stageChan {c : ChanId} (e : ChanEntry)
    (hroom : lookupKey c s.mc.entries ≠ none ∨ entryCount s < 256) : StagingInv (s.stageChan c e) :=
  h.stageSlots e .rx 0 [] hroom

/-- A withdrawn entry leaves the others (R28). -/
theorem StagingInv.eraseChan (c : ChanId) :
    StagingInv { s with mc := { s.mc with entries := eraseKey c s.mc.entries } } := by
  obtain ⟨hcount, htargets, hentries⟩ := h
  refine ⟨?_, htargets, hentries.filter _⟩
  have hshort : (eraseKey c s.mc.entries).length ≤ s.mc.entries.length := List.length_filter_le _ _
  unfold entryCount at *
  dsimp only
  omega

theorem StagingInv.stagingDone (hand : Hand) (immediate : Bool) (st : Status) :
    StagingInv (s.stagingDone hand immediate st) := by
  unfold State.stagingDone
  split_ifs
  · exact h
  · exact h.finishRequest hand st _ _

end Requests

/-! ### Checks that pass leave room -/

theorem firstFailure_eq_none {cs : List (Option Status)} : firstFailure cs = none ↔ ∀ c ∈ cs, c = none := by
  simp [firstFailure]

theorem State.room_of_targetCheck {s : State} {x : HwyId} {n : Nat} (h : s.targetCheck x n = none) :
    lookupKey ⟨x, n⟩ s.mc.targets ≠ none ∨ entryCount s < 256 := by
  rw [State.targetCheck_eq] at h
  split_ifs at h with hbusy hfull
  by_cases hkey : lookupKey ⟨x, n⟩ s.mc.targets = none
  · exact .inr (Nat.lt_of_not_le fun hle => hfull ⟨hkey, hle⟩)
  · exact .inl hkey

/-- The capacity check, in the terms of Safety.lean (R22, R26). -/
theorem State.capacityCheck_eq (s : State) :
    s.capacityCheck = if 256 ≤ entryCount s then some .stagingFull else none := rfl

theorem State.room_of_capacityCheck {s : State} (h : s.capacityCheck = none) : entryCount s < 256 := by
  rw [State.capacityCheck_eq] at h
  split_ifs at h with hfull
  exact Nat.lt_of_not_le hfull

/-! ### The meanings of the requests -/

section Bodies

variable {s : State} (h : StagingInv s) (r : ReqRecord) (hand : Hand)

include h

theorem StagingInv.nopBody : StagingInv (nopBody r hand s) := by
  unfold Machine.nopBody
  split_ifs
  · exact h.finishRequest hand _ _ _
  · exact h.failRequest hand _

theorem StagingInv.sethwyBody : StagingInv (sethwyBody r hand s) := by
  unfold Machine.sethwyBody
  dsimp only
  split_ifs
  · split
    · exact h.failRequest hand _
    · exact (h.changeHwy _ r _).finishRequest hand _ _ _
  · exact h.failRequest hand _

theorem StagingInv.connectBody : StagingInv (connectBody r hand s) := by
  unfold Machine.connectBody
  split_ifs
  · split
    · exact h.failRequest hand _
    · next hcheck =>
      have htarget := firstFailure_eq_none.1 hcheck (s.targetCheck (reqHwy r 0x08) (reqByte r 0x09)) (by simp)
      exact (h.stageTarget _ (State.room_of_targetCheck htarget)).stagingDone hand _ _
  · exact h.failRequest hand _

theorem StagingInv.disconnectBody : StagingInv (disconnectBody r hand s) := by
  unfold Machine.disconnectBody
  split_ifs
  · split
    · exact h.failRequest hand _
    · next hcheck =>
      have htarget := firstFailure_eq_none.1 hcheck (s.targetCheck (reqHwy r 0x08) (reqByte r 0x09)) (by simp)
      exact (h.stageTarget _ (State.room_of_targetCheck htarget)).stagingDone hand _ _
  · exact h.failRequest hand _

theorem StagingInv.openBody : StagingInv (openBody r hand s) := by
  unfold Machine.openBody
  dsimp only
  split_ifs
  · split
    · exact h.failRequest hand _
    · next hcheck =>
      have hroom := firstFailure_eq_none.1 hcheck s.capacityCheck (by simp)
      exact (h.stageSlots _ _ _ _ (.inr (State.room_of_capacityCheck hroom))).stagingDone hand _ _
  · exact h.failRequest hand _

theorem StagingInv.closeChan (c : ChanId) (immediate : Bool) : StagingInv (s.closeChan c hand immediate) := by
  unfold State.closeChan
  split
  · exact (h.eraseChan c).stagingDone hand _ _
  · next hentry => exact (h.stageChan _ (.inl (by rw [State.chanEntry] at hentry; simp [hentry]))).stagingDone hand _ _
  · exact h.failRequest hand _
  · split_ifs
    · split
      · exact h.failRequest hand _
      · next hroom => exact (h.stageChan _ (.inr (State.room_of_capacityCheck hroom))).stagingDone hand _ _
    · exact h.failRequest hand _

theorem StagingInv.closeBody : StagingInv (closeBody r hand s) := by
  unfold Machine.closeBody
  split_ifs
  · exact h.closeChan hand _ _
  · exact h.failRequest hand _

theorem StagingInv.reslotOpen (c : ChanId) (x : HwyId) (l : List Nat) (immediate : Bool) :
    StagingInv (s.reslotOpen c x l hand immediate) := by
  unfold State.reslotOpen
  split
  · exact h.failRequest hand _
  · next hcheck =>
    have hroom := firstFailure_eq_none.1 hcheck s.capacityCheck (by simp)
    exact (h.stageSlots _ _ _ _ (.inr (State.room_of_capacityCheck hroom))).stagingDone hand _ _

theorem StagingInv.reslotChan (c : ChanId) (x : HwyId) (l : List Nat) (immediate : Bool) :
    StagingInv (s.reslotChan c x l hand immediate) := by
  have hreplace : ∀ e d, s.chanEntry c ≠ none →
      StagingInv (match s.slotsCheck c d x l with
        | some st => s.failRequest hand st
        | none => (s.stageSlots c e d x l).stagingDone hand immediate .staged) := by
    intro e d hentry
    split
    · exact h.failRequest hand _
    · exact (h.stageSlots e d x l (.inl hentry)).stagingDone hand _ _
  unfold State.reslotChan
  split
  · next hentry => exact hreplace _ _ (by simp [hentry])
  · next hentry => exact hreplace _ _ (by simp [hentry])
  · exact h.failRequest hand _
  · split
    · exact h.failRequest hand _
    · exact h.failRequest hand _
    · exact h.failRequest hand _
    all_goals exact h.reslotOpen hand c x l immediate

theorem StagingInv.reslotBody : StagingInv (reslotBody r hand s) := by
  unfold Machine.reslotBody
  split_ifs
  · exact h.reslotChan hand _ _ _ _
  · exact h.failRequest hand _

theorem StagingInv.commitBody : StagingInv (commitBody r hand s) := by
  unfold Machine.commitBody
  split_ifs
  · exact h.finishRequest hand _ _ _
  · exact h
  · exact h.failRequest hand _

theorem StagingInv.discardBody : StagingInv (discardBody r hand s) := by
  have hempty : StagingInv { s with mc := s.mc.emptied } := stagingInv_of_emptied rfl rfl
  unfold Machine.discardBody
  split_ifs
  · exact hempty.finishRequest hand _ _ _
  · exact h.failRequest hand _

theorem StagingInv.setrefBody : StagingInv (setrefBody r hand s) := by
  unfold Machine.setrefBody
  split_ifs
  · exact (h.withTiming _).finishRequest hand _ _ _
  · exact h.failRequest hand _

theorem StagingInv.writeResult (bytes : List Byte) : StagingInv (s.writeResult r hand bytes) := by
  unfold State.writeResult
  split_ifs
  · exact h
  · exact h.failRequest hand _

theorem StagingInv.qhwyBody : StagingInv (qhwyBody r hand s) := by
  have hclear : ∀ p, StagingInv (s.setHwy (reqHwy r 0x08) p) := fun _ => h
  unfold Machine.qhwyBody
  dsimp only
  split_ifs
  · exact (hclear _).writeResult r hand _
  · exact h.writeResult r hand _
  · exact h.failRequest hand _

theorem StagingInv.qchanBody : StagingInv (qchanBody r hand s) := by
  have hclear : ∀ ch, StagingInv (s.setChan (reqChan r) ch) := fun _ => h
  unfold Machine.qchanBody
  dsimp only
  split_ifs
  · exact (hclear _).writeResult r hand _
  · exact h.writeResult r hand _
  · exact h.failRequest hand _

theorem StagingInv.qslotBody : StagingInv (qslotBody r hand s) := by
  unfold Machine.qslotBody
  split_ifs
  · split
    · exact h.failRequest hand _
    · exact h.writeResult r hand _
  · exact h.failRequest hand _

theorem StagingInv.qtimeBody : StagingInv (qtimeBody r hand s) := by
  unfold Machine.qtimeBody
  split_ifs
  · exact h.writeResult r hand _
  · exact h.writeResult r hand _
  · exact h.failRequest hand _

end Bodies

/-! ### The end of a fetch, and every step -/

theorem StagingInv.fetched {s t : State} (h : StagingInv s) (ht : s.fetched = some t) : StagingInv t := by
  unfold State.fetched at ht
  split at ht
  · split_ifs at ht
    rw [← Option.some.inj ht]
    exact h
  · cases ht

/-- A fetched request keeps the invariant when its kind's own meaning does. -/
theorem StagingInv.request {s : State} (h : StagingInv s) (r : ReqRecord) {body : ReqRecord → Hand → State → State}
    (hbody : ∀ {u : State}, StagingInv u → ∀ r hand, StagingInv (body r hand u)) : StagingInv (s.request r body) := by
  unfold State.request
  split
  · exact h
  · next hfetched =>
    have hexec := h.fetched hfetched
    split_ifs
    · exact hbody hexec _ _
    · exact hexec.failRequest _ _

theorem StagingInv.unknownKind {s : State} (h : StagingInv s) (k : Byte) (r : ReqRecord) :
    StagingInv (s.unknownKind k r) := by
  unfold State.unknownKind
  split_ifs
  · exact h
  · split
    · exact h
    · next hfetched => exact (h.fetched hfetched).failRequest _ _

/-- Every command keeps the invariant. -/
theorem StagingInv.exec {s : State} (h : StagingInv s) (i : Instr) :
    ∃ t, exec i s = .next t ∧ StagingInv t := by
  have hdone : ∀ {u : State}, StagingInv u → ∃ t, done u = .next t ∧ StagingInv t :=
    fun {u} hu => ⟨u.finish, rfl, hu.of_mc u.finish_mc⟩
  cases i with
  | powerOnReset => exact hdone (stagingInv_of_emptied rfl rfl)
  | configurationSpaceWrite busMaster messages vectors => exact hdone (h : StagingInv (s.configWrite _ _ _))
  | start => exact hdone (h.of_mc s.startRule_mc)
  | stop => exact hdone h.stopRule
  | reset => exact hdone (stagingInv_of_emptied rfl rfl)
  | setupAddressWrite high value => exact hdone (h.setupWrite high value)
  | requestTail value => exact hdone (h.tailWrite value)
  | ringHead ring value => exact hdone (h.ringHeadWrite ring value)
  | registerWrite offset len value => exact hdone (h.windowWrite offset len value)
  | setupReadEnd e => exact hdone (h.setupReadEnd e)
  | requestFetch => exact hdone h.fetchStep
  | requestFetchError timeout => exact hdone (h.fetchFails timeout)
  | badKind kind r => exact hdone (h.unknownKind kind r)
  | nop r => exact hdone (h.request r StagingInv.nopBody)
  | sethwy r => exact hdone (h.request r StagingInv.sethwyBody)
  | connect r => exact hdone (h.request r StagingInv.connectBody)
  | disconnect r => exact hdone (h.request r StagingInv.disconnectBody)
  | openChannel r => exact hdone (h.request r StagingInv.openBody)
  | closeChannel r => exact hdone (h.request r StagingInv.closeBody)
  | reslot r => exact hdone (h.request r StagingInv.reslotBody)
  | commit r => exact hdone (h.request r StagingInv.commitBody)
  | discard r => exact hdone (h.request r StagingInv.discardBody)
  | setref r => exact hdone (h.request r StagingInv.setrefBody)
  | qhwy r => exact hdone (h.request r StagingInv.qhwyBody)
  | qchan r => exact hdone (h.request r StagingInv.qchanBody)
  | qslot r => exact hdone (h.request r StagingInv.qslotBody)
  | qtime r => exact hdone (h.request r StagingInv.qtimeBody)
  | resultWriteEnd e => exact hdone (h.resultWriteEnd e)
  | deviceFrameEvent o => exact hdone (h.frameEvent o)
  | apply o => exact hdone (h.eventIf _ o)
  | stopClearEvent o => exact hdone (h.eventIf _ o)
  | frameArrival x bytes since => exact hdone (h.arrival x bytes since)
  | hwySilence x o => exact hdone (h.eventIf _ o)
  | hwyLost x o => exact hdone (h.eventIf _ o)
  | referencePulse r => exact hdone (h : StagingInv (s.pulse r))
  | referenceLoss r o => exact hdone (h.eventIf _ o)
  | driftWindowEnd src o => exact hdone (h.eventIf _ o)
  | candidateQualified src o => exact hdone (h.eventIf _ o)
  | selectLocked o => exact hdone (h.eventIf _ o)
  | holdoverValid o => exact hdone (h.eventIf _ o)
  | holdoverLimit o => exact hdone (h.eventIf _ o)
  | waitToRestore o => exact hdone (h.eventIf _ o)
  | operationTimeout id => exact hdone (h.failOp id true)
  | lateAnswer id e => exact ⟨s, rfl, h⟩
  | descriptorReadEnd id e => exact hdone (h.descriptorReadEnd id e)
  | dataReadEnd id e => exact hdone (h.dataReadEnd id e)
  | dataWriteEnd id e => exact hdone (h.dataWriteEnd id e)
  | writeBackEnd id e => exact hdone (h.writeBackEnd id e)
  | flushReadEnd id e => exact hdone (h.flushReadEnd id e)
  | staleOperationEnd id e => exact hdone (h.staleEnd id)
  | completionWriteEnd id e => exact hdone (h.completionWriteEnd id e)
  | writeBackIssue c => exact hdone (h.chanStepIf c _ _)
  | deferredLookaheadRead c => exact hdone (h.chanStepIf c _ _)
  | primingRead c => exact hdone (h.chanStepIf c _ _)
  | flushWalk c => exact hdone (h.chanStepIf c _ _)
  | chanClosed c => exact hdone (h.chanStepIf c _ _)
  | overflow ring => exact hdone (h.overflowStep ring)
  | heldRecordPlaced ring => exact hdone (h.heldStep ring)
  | stoppingEnd => exact hdone (h.of_mc s.stoppingEnd_mc)
  | resettingEnd => exact hdone (h.of_mc s.resettingEnd_mc)

theorem StagingInv.step {s t : State} (h : StagingInv s) (hstep : step s = .next t) : StagingInv t := by
  unfold Machine.step at hstep
  split at hstep
  · cases hstep
    exact h
  · next c rest _ =>
    have hrest : StagingInv { s with pending := rest } := h
    obtain ⟨u, hexec, hu⟩ := hrest.exec c
    rw [hexec] at hstep
    cases hstep
    exact hu

/-- Sets in canonical form with the same entry under every key are the same data (R21). -/
theorem MapControl.ext_of_sameEntries {s t : State} (hs : StagingInv s) (ht : StagingInv t)
    (hsame : SameEntries s.mc t.mc) (hfl : s.mc.inFlight = t.mc.inFlight) : s.mc = t.mc := by
  obtain ⟨-, hstargets, hsentries⟩ := hs
  obtain ⟨-, httargets, htentries⟩ := ht
  have htargets := hstargets.ext SlotRef.rank_injective httargets hsame.1
  have hentries := hsentries.ext chanRank_injective htentries hsame.2
  calc s.mc = ⟨s.mc.targets, s.mc.entries, s.mc.inFlight⟩ := rfl
    _ = ⟨t.mc.targets, t.mc.entries, t.mc.inFlight⟩ := by rw [htargets, hentries, hfl]

/-- Settles O58: command by command, and by the canonical form of a set. -/
theorem stagingKept : Obligations.StagingKept := by
  unfold Obligations.StagingKept
  refine ⟨fun s t h hstep => h.step hstep, fun s t hs ht hsame hrest hfl => ?_⟩
  rw [hrest, ← MapControl.ext_of_sameEntries hs ht hsame hfl]

end Sys2Proof.Machine
end

section
/-! PROOFS. O24 to O28: OPEN, CLOSE, RESLOT, COMMIT and DISCARD. -/

set_option Elab.async false

namespace Sys2Proof.Machine

/-! ### A request's answer in the terms of Safety.lean -/

section Answers

variable {f : Op} {s : State} (hf : Fetching f s) (r : ReqRecord)

include hf

/-- A request that its checks refuse (R150). -/
theorem Fetching.refused (st : Status) :
    done ((executing f s).failRequest { ring := ringOf r, tag := r.tag, frame := 0 } st) =
      .next (answer r st 0 (inHand f s)) :=
  (congrArg done (hf.finish r st 0 (inHand f s) rfl rfl)).trans (done_answer _ _ _ _ hf.online)

/-- A staging request that leaves `m` in the map controller (R30, R38). -/
theorem Fetching.staged (st : Status) (m : MapControl) :
    done (State.stagingDone { ring := ringOf r, tag := r.tag, frame := 0 } r.immediate st
        { executing f s with mc := m }) =
      .next (answerStaged r st { inHand f s with mc := m }) :=
  (congrArg done (hf.stagingDone r st { inHand f s with mc := m } rfl rfl)).trans (done_answerStaged _ _ _ hf.online)

/-- A request that stages an OPEN or RESLOT entry when its checks let it pass (R25, R30, R38). -/
theorem Fetching.stageSlots (c : ChanId) (e : ChanEntry) (d : Dir) (x : HwyId) (l : List Nat) (check : Option Status) :
    done (match check with
      | some st => (executing f s).failRequest { ring := ringOf r, tag := r.tag, frame := 0 } st
      | none => State.stagingDone { ring := ringOf r, tag := r.tag, frame := 0 } r.immediate .staged
          ((executing f s).stageSlots c e d x l)) =
      .next (stageAnswer r (inHand f s)
        { inHand f s with mc := { s.mc with
            targets := absorbed d x l s.mc.targets, entries := putKey chanRank c e s.mc.entries } } check) := by
  cases check with
  | some st => exact hf.refused r st
  | none =>
    rw [State.stageSlots_eq]
    exact hf.staged r .staged _

end Answers

/-! ### Checks in their order -/

@[simp] theorem firstFailure_none (cs : List (Option Status)) : firstFailure (none :: cs) = firstFailure cs := rfl

@[simp] theorem firstFailure_some (st : Status) (cs : List (Option Status)) : firstFailure (some st :: cs) = some st := rfl

@[simp] theorem firstFailure_singleton (c : Option Status) : firstFailure [c] = c := by cases c <;> rfl

/-- OPEN's checks in their order (R26, R71). -/
theorem State.openCheck_eq (s : State) (c : ChanId) (p : OpenParams) :
    s.openCheck c p =
      if lookupKey c s.mc.entries ≠ none ∨ s.chans[c].st ≠ .closed then some .channelBusy
      else firstFailure [slotsFailure s c p.dir p.hwy p.slots, s.capacityCheck] := by
  unfold State.openCheck State.chanEntry
  rw [State.slotsCheck_eq]
  by_cases hfree : lookupKey c s.mc.entries = none ∧ s.chans[c].st = .closed
  · rw [if_pos (by rwa [Option.isNone_iff_eq_none]), if_neg (by tauto), firstFailure_none]
  · rw [if_neg (by rwa [Option.isNone_iff_eq_none]), if_pos (by tauto), firstFailure_some]

/-! ### OPEN -/

/-- OPEN that passes its header and body checks (R26, R27). -/
theorem Fetching.openChannel {f : Op} {s : State} (hf : Fetching f s) {r : ReqRecord} (hr : HeaderPasses r s)
    (hbody : BodyPasses (.openChannel r) r s) :
    exec (.openChannel r) s = .next (stageAnswer r (inHand f s)
      { inHand f s with mc := { s.mc with
          targets := absorbed (openParams r).dir (openParams r).hwy (openParams r).slots s.mc.targets
          entries := putKey chanRank (reqChan r) (.openEntry (openParams r)) s.mc.entries } }
      (s.openCheck (reqChan r) (openParams r))) := by
  have hfields : openFieldsOk (executing f s).comp.ringCount r = true := hbody.checks
  show done (s.request r openBody) = _
  rw [hf.request hr, openBody, if_pos hfields]
  exact hf.stageSlots r (reqChan r) (.openEntry (openParams r)) _ _ _ (s.openCheck (reqChan r) (openParams r))

/-- Settles O24: the checks in their order, and the entry that a request which passes them stages. -/
theorem openStages : Obligations.OpenStages := by
  unfold Obligations.OpenStages
  intro r f s hf hr hbody
  rw [hf.openChannel hr hbody, State.openCheck_eq, stageAnswer_ite]
  congr 1
  refine if_congr Iff.rfl rfl ?_
  cases slotsFailure s (reqChan r) (openParams r).dir (openParams r).hwy (openParams r).slots with
  | some st => rfl
  | none => rw [firstFailure_none, firstFailure_singleton, State.capacityCheck_eq, stageAnswer_ite]; rfl

/-! ### CLOSE -/

theorem ChanState.closable_iff (st : ChanState) : st.closable = true ↔ ¬(st = .closed ∨ st = .closing) := by
  cases st <;> simp [ChanState.closable]

/-- CLOSE that passes its header and body checks goes by the channel's prospective state (R28). -/
theorem Fetching.closeChannel {f : Op} {s : State} (hf : Fetching f s) {r : ReqRecord} (hr : HeaderPasses r s)
    (hbody : BodyPasses (.closeChannel r) r s) :
    exec (.closeChannel r) s =
      done ((executing f s).closeChan (reqChan r) { ring := ringOf r, tag := r.tag, frame := 0 } r.immediate) := by
  have hfields : (reservedOk r [(0x08, 1)] && reqByte r 0x08 ≤ 127) = true := hbody.checks
  show done (s.request r closeBody) = _
  rw [hf.request hr, closeBody, if_pos hfields]

/-- Settles O25: each row of R28. -/
theorem closeStages : Obligations.CloseStages := by
  unfold Obligations.CloseStages
  intro r f s hf hr hbody
  have hput := hf.staged r .staged { s.mc with entries := putKey chanRank (reqChan r) .closeEntry s.mc.entries }
  have hentry : (executing f s).chanEntry (reqChan r) = lookupKey (reqChan r) s.mc.entries := rfl
  rw [hf.closeChannel hr hbody, State.closeChan, hentry]
  dsimp only
  cases lookupKey (reqChan r) s.mc.entries with
  | some e =>
    cases e with
    | openEntry p =>
      have herase : eraseKey (reqChan r) s.mc.entries = s.mc.entries.filter fun e => decide (e.1 ≠ reqChan r) := by
        simp [eraseKey]
      dsimp only
      rw [← herase]
      exact hf.staged r .unstaged { s.mc with entries := eraseKey (reqChan r) s.mc.entries }
    | closeEntry => exact hf.refused r .channelIdle
    | reslotEntry x l => exact hput
  | none =>
    have hst : (executing f s).chans[reqChan r].st = s.chans[reqChan r].st := rfl
    have hcap : (executing f s).capacityCheck = if 256 ≤ entryCount s then some .stagingFull else none := rfl
    dsimp only
    rw [hst, hcap]
    by_cases hidle : s.chans[reqChan r].st = .closed ∨ s.chans[reqChan r].st = .closing
    · rw [if_pos hidle, if_neg (by rw [ChanState.closable_iff]; exact not_not_intro hidle)]
      exact hf.refused r .channelIdle
    · rw [if_neg hidle, if_pos ((ChanState.closable_iff _).2 hidle)]
      by_cases hfull : 256 ≤ entryCount s
      · rw [if_pos hfull, if_pos hfull]
        exact hf.refused r .stagingFull
      · rw [if_neg hfull, if_neg hfull]
        exact hput

/-! ### RESLOT -/

/-- RESLOT that passes its header and body checks goes by the channel's prospective state (R29). -/
theorem Fetching.reslot {f : Op} {s : State} (hf : Fetching f s) {r : ReqRecord} (hr : HeaderPasses r s)
    (hbody : BodyPasses (.reslot r) r s) :
    exec (.reslot r) s =
      done ((executing f s).reslotChan (reqChan r) (reqHwy r 0x0A) (reqSlots r)
        { ring := ringOf r, tag := r.tag, frame := 0 } r.immediate) := by
  have hfields : reslotFieldsOk r = true := hbody.checks
  show done (s.request r reslotBody) = _
  rw [hf.request hr, reslotBody, if_pos hfields]

/-- A RESLOT that stages its entry when the slot checks let it pass (R25, R29, R71). -/
theorem Fetching.reslotStages {f : Op} {s : State} (hf : Fetching f s) (r : ReqRecord) (c : ChanId) (e : ChanEntry) (d : Dir)
    (x : HwyId) (l : List Nat) :
    done (match (executing f s).slotsCheck c d x l with
      | some st => (executing f s).failRequest { ring := ringOf r, tag := r.tag, frame := 0 } st
      | none => State.stagingDone { ring := ringOf r, tag := r.tag, frame := 0 } r.immediate .staged
          ((executing f s).stageSlots c e d x l)) =
      .next (match slotsFailure s c d x l with
        | some st => answer r st 0 (inHand f s)
        | none => answerStaged r .staged { inHand f s with mc := { s.mc with
            targets := absorbed d x l s.mc.targets, entries := putKey chanRank c e s.mc.entries } }) := by
  have hslots : (executing f s).slotsCheck c d x l = slotsFailure s c d x l := (executing f s).slotsCheck_eq c d x l
  refine (hf.stageSlots r c e d x l _).trans ?_
  rw [hslots]
  cases slotsFailure s c d x l <;> rfl

/-- A RESLOT of an open channel with no entry needs room for one more (R22, R29). -/
theorem Fetching.reslotOpen {f : Op} {s : State} (hf : Fetching f s) (r : ReqRecord) (c : ChanId) (x : HwyId)
    (l : List Nat) :
    done ((executing f s).reslotOpen c x l { ring := ringOf r, tag := r.tag, frame := 0 } r.immediate) =
      .next (if slotsFailure s c s.chans[c].dir x l = none ∧ 256 ≤ entryCount s then answer r .stagingFull 0 (inHand f s)
        else match slotsFailure s c s.chans[c].dir x l with
          | some st => answer r st 0 (inHand f s)
          | none => answerStaged r .staged { inHand f s with mc := { s.mc with
              targets := absorbed s.chans[c].dir x l s.mc.targets
              entries := putKey chanRank c (.reslotEntry x l) s.mc.entries } }) := by
  have hslots : (executing f s).slotsCheck c (executing f s).chans[c].dir x l = slotsFailure s c s.chans[c].dir x l :=
    (executing f s).slotsCheck_eq c s.chans[c].dir x l
  have hcap : (executing f s).capacityCheck = if 256 ≤ entryCount s then some .stagingFull else none := rfl
  refine (hf.stageSlots r c (.reslotEntry x l) s.chans[c].dir x l _).trans ?_
  rw [hslots, hcap]
  cases slotsFailure s c s.chans[c].dir x l with
  | some st => rfl
  | none => by_cases hfull : 256 ≤ entryCount s <;> simp [hfull]

/-- Settles O26: each row of R29. -/
theorem reslotStages : Obligations.ReslotStages := by
  unfold Obligations.ReslotStages
  intro r f s hf hr hbody
  have hstage := fun e d => hf.reslotStages r (reqChan r) e d (reqHwy r 0x0A) (reqSlots r)
  have hopen := hf.reslotOpen r (reqChan r) (reqHwy r 0x0A) (reqSlots r)
  have hentry : (executing f s).chanEntry (reqChan r) = lookupKey (reqChan r) s.mc.entries := rfl
  rw [hf.reslot hr hbody, State.reslotChan, hentry]
  dsimp only
  cases lookupKey (reqChan r) s.mc.entries with
  | some e =>
    cases e with
    | openEntry p => exact hstage (.openEntry { p with hwy := reqHwy r 0x0A, slots := reqSlots r }) p.dir
    | closeEntry => exact hf.refused r .channelIdle
    | reslotEntry x l => exact hstage (.reslotEntry (reqHwy r 0x0A) (reqSlots r)) s.chans[reqChan r].dir
  | none =>
    have hst : (executing f s).chans[reqChan r].st = s.chans[reqChan r].st := rfl
    dsimp only
    rw [hst]
    cases hchan : s.chans[reqChan r].st with
    | closed => exact hf.refused r .channelIdle
    | closing => exact hf.refused r .channelIdle
    | faulted => exact hf.refused r .channelBusy
    | priming => exact hopen
    | running => exact hopen
    | starved => exact hopen

/-! ### COMMIT and DISCARD -/

/-- A body that is 0 throughout passes its check (R31, R39). -/
theorem reservedOk_of_zero {r : ReqRecord} (h : ∀ i < 56, byteAt r.body i = 0) : reservedOk r [] = true := by
  simp only [reservedOk, List.all_eq_true, List.mem_range, Bool.or_eq_true, beq_iff_eq]
  exact fun i hi => .inr (h i hi)

/-- Settles O27: by the entry count, the answer or the wait for the apply. -/
theorem commitTaken : Obligations.CommitTaken := by
  unfold Obligations.CommitTaken
  intro r f s hf hr hzero
  have hcount : (executing f s).mc.count = entryCount s := rfl
  show done (s.request r commitBody) = _
  rw [hf.request hr, commitBody, if_pos (reservedOk_of_zero hzero), hcount]
  by_cases hempty : entryCount s = 0
  · rw [if_pos hempty, if_pos hempty]
    exact hf.refused r .nothingStaged
  · rw [if_neg hempty, if_neg hempty]
    exact done_online _ hf.online

/-- A request that no fetch has brought has no place (R146; log entry 5). -/
theorem State.request_of_not_fetching {s : State} (h : s.proc.st ≠ .fetching) (r : ReqRecord)
    (body : ReqRecord → Hand → State → State) : s.request r body = s := by
  have hnone : s.fetched = none := by
    unfold State.fetched
    split
    · exact if_neg h
    · rfl
  rw [State.request, hnone]

/-- Settles O28: the emptied set completes the request, and outside FETCHING none is taken. -/
theorem discardEmpties : Obligations.DiscardEmpties := by
  unfold Obligations.DiscardEmpties
  refine ⟨fun r f s hf hr hzero => ?_, fun r s hsettled hwaits => ?_⟩
  · have hfinish := hf.finish r .ok (entryCount s)
      { inHand f s with mc := { s.mc with targets := [], entries := [] } } rfl rfl
    show done (s.request r discardBody) = _
    rw [hf.request hr, discardBody, if_pos (reservedOk_of_zero hzero)]
    exact (congrArg done hfinish).trans (done_answer _ _ _ _ hf.online)
  · have hstays := s.request_of_not_fetching (by rw [hwaits]; decide) r discardBody
    show done (s.request r discardBody) = _
    rw [hstays, done, hsettled.finish]

end Sys2Proof.Machine
end

section
/-! PROOFS. O30: the prospective driver. -/

set_option Elab.async false

namespace Sys2Proof.Machine

/-! ### The entries that are considered (R23, R25) -/

theorem State.mem_entriesBut {s : State} {skip : Option ChanId} {e : ChanId × ChanEntry} :
    e ∈ s.entriesBut skip ↔ some e.1 ≠ skip ∧ e ∈ s.mc.entries := by
  simp [State.entriesBut, and_comm]

theorem ChanEntry.claims_iff (ch : Chan) (h : HwyId) (n : Nat) (e : ChanEntry) :
    e.claims ch h n = true ↔
      (∃ p, e = .openEntry p ∧ p.dir = .tx ∧ p.hwy = h ∧ n ∈ p.slots) ∨
        ∃ l, e = .reslotEntry h l ∧ ch.dir = .tx ∧ n ∈ l := by
  cases e with
  | openEntry p => simp [ChanEntry.claims, and_assoc]
  | closeEntry => simp [ChanEntry.claims]
  | reslotEntry g l =>
    simp only [ChanEntry.claims, Bool.and_eq_true, beq_iff_eq, List.contains_iff_mem, reduceCtorEq, false_and,
      exists_false, false_or, ChanEntry.reslotEntry.injEq]
    constructor
    · rintro ⟨⟨hdir, rfl⟩, hn⟩
      exact ⟨l, ⟨rfl, rfl⟩, hdir, hn⟩
    · rintro ⟨l, ⟨rfl, rfl⟩, hdir, hn⟩
      exact ⟨⟨hdir, rfl⟩, hn⟩

theorem ChanEntry.releases_iff (ch : Chan) (h : HwyId) (n : Nat) (e : ChanEntry) :
    e.releases ch h n = true ↔
      (ch.dir = .tx ∧ ch.hwy = h ∧ n ∈ ch.slots) ∧
        (e = .closeEntry ∨ ∃ g l, e = .reslotEntry g l ∧ ¬(g = h ∧ n ∈ l)) := by
  cases e with
  | openEntry p => simp [ChanEntry.releases]
  | closeEntry => simp [ChanEntry.releases, and_assoc]
  | reslotEntry g l =>
    simp only [ChanEntry.releases, Bool.and_eq_true, Bool.not_eq_true', Bool.and_eq_false_imp, beq_iff_eq,
      List.contains_iff_mem, reduceCtorEq, false_or, ChanEntry.reslotEntry.injEq]
    constructor
    · rintro ⟨⟨⟨hdir, hhwy⟩, hn⟩, hnot⟩
      exact ⟨⟨hdir, hhwy, hn⟩, g, l, ⟨rfl, rfl⟩, by simpa using hnot⟩
    · rintro ⟨⟨hdir, hhwy, hn⟩, _, _, ⟨rfl, rfl⟩, hnot⟩
      exact ⟨⟨⟨hdir, hhwy⟩, hn⟩, by simpa using hnot⟩

/-! ### The four steps (R23) -/

section Steps

variable {s : State} {skip : Option ChanId} {h : HwyId} {n : Nat}

theorem State.prospective_target {t : Target} (ht : lookupKey ⟨h, n⟩ s.mc.targets = some t) :
    s.prospective skip h n = (t.driver, .target) := by
  unfold State.prospective
  rw [ht]

variable (ht : lookupKey ⟨h, n⟩ s.mc.targets = none)

include ht

theorem State.prospective_claim (hclaim : ∃ e ∈ s.entriesBut skip, e.2.claims s.chans[e.1] h n = true) :
    ∃ e ∈ s.entriesBut skip, e.2.claims s.chans[e.1] h n = true ∧
      s.prospective skip h n = (.channel e.1, .claim) := by
  have hsome : ((s.entriesBut skip).find? fun e => e.2.claims s.chans[e.1] h n).isSome = true :=
    List.find?_isSome.2 hclaim
  obtain ⟨e, he⟩ := Option.isSome_iff_exists.1 hsome
  have hclaims := List.find?_some he
  refine ⟨e, List.mem_of_find?_eq_some he, hclaims, ?_⟩
  unfold State.prospective
  rw [ht]
  dsimp only
  rw [he]

variable (hclaim : ¬∃ e ∈ s.entriesBut skip, e.2.claims s.chans[e.1] h n = true)

include hclaim

theorem State.prospective_unclaimed : s.prospective skip h n =
    if ∃ e ∈ s.entriesBut skip, e.2.releases s.chans[e.1] h n = true then (.none, .release)
    else ((s.map[h][n]?).getD .none, .active) := by
  have hnone : (s.entriesBut skip).find? (fun e => e.2.claims s.chans[e.1] h n) = none :=
    List.find?_eq_none.2 fun e he hc => hclaim ⟨e, he, hc⟩
  unfold State.prospective
  rw [ht]
  dsimp only
  rw [hnone]
  simp only [List.any_eq_true, State.activeDriver]

end Steps

/-- Settles O30: a claim and a release are each an entry of the channel among those considered. -/
theorem prospectiveDriver : Obligations.ProspectiveDriver := by
  unfold Obligations.ProspectiveDriver
  intro s skip h n holds claims releases
  have hclaims : ∀ c, claims c ↔ ∃ e, (c, e) ∈ s.entriesBut skip ∧ e.claims s.chans[c] h n = true := by
    intro c
    simp only [claims, State.mem_entriesBut, ChanEntry.claims_iff]
    constructor
    · rintro ⟨hskip, ⟨p, he, hp⟩ | ⟨l, he, hl⟩⟩
      · exact ⟨_, ⟨hskip, he⟩, .inl ⟨p, rfl, hp⟩⟩
      · exact ⟨_, ⟨hskip, he⟩, .inr ⟨l, rfl, hl⟩⟩
    · rintro ⟨_, ⟨hskip, he⟩, ⟨p, rfl, hp⟩ | ⟨l, rfl, hl⟩⟩
      · exact ⟨hskip, .inl ⟨p, he, hp⟩⟩
      · exact ⟨hskip, .inr ⟨l, he, hl⟩⟩
  have hreleases : ∀ c, releases c ↔ ∃ e, (c, e) ∈ s.entriesBut skip ∧ e.releases s.chans[c] h n = true := by
    intro c
    simp only [releases, holds, State.mem_entriesBut, ChanEntry.releases_iff]
    constructor
    · rintro ⟨hskip, hslot, he | ⟨g, l, he, hother⟩⟩
      · exact ⟨_, ⟨hskip, he⟩, hslot, .inl rfl⟩
      · exact ⟨_, ⟨hskip, he⟩, hslot, .inr ⟨g, l, rfl, hother⟩⟩
    · rintro ⟨_, ⟨hskip, he⟩, hslot, rfl | ⟨g, l, rfl, hother⟩⟩
      · exact ⟨hskip, hslot, .inl he⟩
      · exact ⟨hskip, hslot, .inr ⟨g, l, he, hother⟩⟩
  have hpairs : ∀ p : ChanId → ChanEntry → Prop,
      (∃ c e, (c, e) ∈ s.entriesBut skip ∧ p c e) ↔ ∃ e ∈ s.entriesBut skip, p e.1 e.2 := fun p =>
    ⟨fun ⟨c, e, hm, hp⟩ => ⟨(c, e), hm, hp⟩, fun ⟨e, hm, hp⟩ => ⟨e.1, e.2, hm, hp⟩⟩
  have hclaimed : (∃ c, claims c) ↔ ∃ e ∈ s.entriesBut skip, e.2.claims s.chans[e.1] h n = true := by
    simp only [hclaims]
    exact hpairs fun c e => e.claims s.chans[c] h n = true
  have hreleased : (∃ c, releases c) ↔ ∃ e ∈ s.entriesBut skip, e.2.releases s.chans[e.1] h n = true := by
    simp only [hreleases]
    exact hpairs fun c e => e.releases s.chans[c] h n = true
  refine ⟨State.prospective_target, fun g k => State.prospective_target, fun b => State.prospective_target,
    fun ht => ⟨fun hc => ?claim, fun hc hr => ?release, fun hc hr => ?active⟩⟩
  case claim =>
    obtain ⟨e, hmem, hclaim, hdriver⟩ := State.prospective_claim ht (hclaimed.1 hc)
    exact ⟨e.1, (hclaims e.1).2 ⟨e.2, hmem, hclaim⟩, hdriver⟩
  case release =>
    rw [State.prospective_unclaimed ht (mt hclaimed.2 hc)]
    exact if_pos (hreleased.1 hr)
  case active =>
    rw [State.prospective_unclaimed ht (mt hclaimed.2 hc)]
    exact if_neg (mt hreleased.2 hr)

end Sys2Proof.Machine
end

section
/-! PROOFS. What a RUNNING or STARVED channel's own step in a device frame event leaves at the end of the event. -/

set_option Elab.async false

namespace Sys2Proof.Machine

/-! ### One action among several -/

section Gather

variable {α β : Type} (f : State → α → State × β)

theorem foldl_gather_keeps (as : List α) (s : State) (gs : List β) {g : β} (hg : g ∈ gs) :
    g ∈ (as.foldl (fun a e => ((f a.1 e).1, a.2 ++ [(f a.1 e).2])) (s, gs)).2 := by
  induction as generalizing s gs with
  | nil => exact hg
  | cons a as ih => exact ih _ _ (List.mem_append_left _ hg)

/-- Among the records gathered are those of each step, taken on what the steps before it have left. -/
theorem foldl_gather_mem (before after : List α) (a : α) (s : State) (gs : List β) :
    (f (before.foldl (fun s e => (f s e).1) s) a).2 ∈
      ((before ++ a :: after).foldl (fun a e => ((f a.1 e).1, a.2 ++ [(f a.1 e).2])) (s, gs)).2 := by
  rw [List.foldl_append, List.foldl_cons]
  refine foldl_gather_keeps f after _ _ (List.mem_append_right _ (List.mem_singleton.2 ?_))
  rw [foldl_gather]

end Gather

/-- What channel `c` finds when its turn comes in the channels' work of an event, and what it leaves and hands on. -/
theorem State.moveChans_at (reads : Vector ReadFrame 16) {cs : List ChanId} (hnodup : cs.Nodup) {c : ChanId}
    (hc : c ∈ cs) (s : State) :
    ∃ u, ChanStands c s u ∧ u.dev = s.dev ∧ u.tim = s.tim ∧
      ChanStands c (u.chanAct c (u.chans[c].frame (u.chanEnv c) reads[u.chans[c].hwy])).1 (s.moveChans reads cs).1 ∧
      (u.chanAct c (u.chans[c].frame (u.chanEnv c) reads[u.chans[c].hwy])).2 ∈ (s.moveChans reads cs).2 := by
  obtain ⟨before, after, rfl⟩ := List.append_of_mem hc
  obtain ⟨hafter, hbefore⟩ : c ∉ after ∧ c ∉ before := by
    have := List.nodup_middle.1 hnodup
    rw [List.nodup_cons, List.mem_append] at this
    tauto
  have hown := frame_outOwn reads
  refine ⟨(s.moveChans reads before).1, ?_, State.moveChans_dev _ _ _, State.moveChans_tim _ _ _, ?_, ?_⟩
  · rw [State.moveChans_eq]
    exact actAll_stands hown (fun _ hd => ne_of_mem_of_not_mem hd hbefore) s
  · rw [State.moveChans_eq, State.moveChans_eq, actAll, actAll, List.foldl_append]
    exact actAll_stands hown (fun _ hd => ne_of_mem_of_not_mem hd hafter) _
  · have hmem := foldl_gather_mem (fun (s : State) c => s.chanAct c (s.chans[c].frame (s.chanEnv c) reads[s.chans[c].hwy]))
      before after c s []
    rwa [← foldl_gather (gs := [])] at hmem

/-! ### What a channel's step leaves -/

/-- A request of a channel as an operation in flight (R195). -/
def OpReq.op (id : Nat) : OpReq → Op
  | .read k a n => { id := id, kind := k, mark := .live, addr := a, len := n, data := [] }
  | .write k a d => { id := id, kind := k, mark := .live, addr := a, len := d.length, data := d }

theorem OpReq.op_kind (r : OpReq) (id : Nat) : (r.op id).kind = r.kind := by cases r <;> rfl

theorem State.issueReq_ops (r : OpReq) (s : State) : (s.issueReq r).link.ops = s.link.ops ++ [r.op s.link.nextId] := by
  rw [State.issueReq_eq]
  cases r <;> rfl

theorem mem_issueReqs_of_mem (rs : List OpReq) {s : State} {o : Op} (ho : o ∈ s.link.ops) :
    o ∈ (rs.foldl (fun s r => s.issueReq r) s).link.ops := by
  induction rs generalizing s with
  | nil => exact ho
  | cons r rs ih => exact ih (by rw [State.issueReq_ops]; exact List.mem_append_left _ ho)

/-- Each operation of a list is in flight once it is issued. -/
theorem exists_op_of_mem {rs : List OpReq} {r : OpReq} (hr : r ∈ rs) (s : State) :
    ∃ id, r.op id ∈ (rs.foldl (fun s r => s.issueReq r) s).link.ops := by
  induction rs generalizing s with
  | nil => cases hr
  | cons q rs ih =>
    rcases List.mem_cons.1 hr with rfl | hr
    · refine ⟨s.link.nextId, mem_issueReqs_of_mem rs ?_⟩
      rw [State.issueReq_ops]
      exact List.mem_append_right _ (List.mem_singleton.2 rfl)
    · exact ih hr _

theorem mem_wentOn_ops {c : ChanId} {s : State} {o : Op} (ho : o ∈ s.link.ops) : o ∈ (wentOn c s).link.ops := by
  unfold wentOn
  split_ifs
  · split
    · exact List.mem_append_left _ ho
    · exact ho
  · exact List.mem_append_left _ ho
  · exact List.mem_append_left _ ho
  · exact ho
  · exact ho

theorem Chan.moves_of_running {ch : Chan} (h : ch.st = .running) : ch.moves = true := by simp [Chan.moves, h]

theorem Chan.moves_of_starved {ch : Chan} (h : ch.st = .starved) : ch.moves = true := by simp [Chan.moves, h]

/-- A RUNNING or STARVED channel keeps its record in what it goes on to: a write-back at most (R79). -/
theorem wentOn_chan_of_moves {c : ChanId} {s : State} (h : s.chans[c].moves = true) :
    (wentOn c s).chans[c] = s.chans[c] := by
  have hst : s.chans[c].st = .running ∨ s.chans[c].st = .starved := by simpa [Chan.moves] using h
  have hp : ¬Primes c s := fun hp => by rcases hst with e | e <;> exact ChanState.noConfusion (e.symm.trans hp.1)
  have hk : ¬Walks c s := fun hk => by rcases hst with e | e <;> exact ChanState.noConfusion (e.symm.trans hk.1)
  have hc : ¬Closes c s := fun hc => by rcases hst with e | e <;> exact ChanState.noConfusion (e.symm.trans hc.1)
  unfold wentOn
  rw [if_neg hp, if_neg hk, if_neg hc]
  split_ifs
  · split <;> rfl
  · rfl

/-- What a step of channel `c` comes to in the state `t`: its record, while it is RUNNING or STARVED, its operations, and
its records for the event ring `n`. -/
structure Acted (c : ChanId) (out : ChanOut) (n : RingId) (t : State) : Prop where
  chan : out.ch.moves = true → t.chans[c] = out.ch
  ops : ∀ r ∈ out.ops, ∃ id, r.op id ∈ t.link.ops
  posts : ∀ rec, .record none rec ∈ out.posts → Handed n rec t

/-- What channel `c` sees at the device frame event after `s`. -/
structure EventEnv (c : ChanId) (s : State) (env : ChanEnv) : Prop where
  id : env.id = c
  online : env.online = true
  sent : env.sent = true
  now : env.now = s.tim.counter + 1
  liveDesc : env.liveDesc = true ↔ LiveOf c (fun k => k.isDescRead = true) s

/-- The read frame of channel `c`'s highway at the device frame event after `s` (R58). -/
def State.eventRead (s : State) (c : ChanId) : ReadFrame := s.advanceCounter.reads[s.chans[c].hwy]

/-- Channel `c`'s own step at that event (R74, R75, R80). -/
def State.eventOut (s : State) (c : ChanId) (env : ChanEnv) : ChanOut := s.chans[c].frame env (s.eventRead c)

theorem State.eventOut_own (s : State) {c : ChanId} {env : ChanEnv} (hid : env.id = c) : (s.eventOut c env).OwnTo c :=
  Chan.frame_own hid _

theorem State.chanAct_chan {c : ChanId} {out : ChanOut} {u : State} (hb : u.cfg.busMaster = true)
    (h : out.ch.moves = true) : (u.chanAct c out).1.chans[c] = out.ch := by
  have hstep : (u.chanStep c out).chans[c] = out.ch := by simp
  rw [State.chanAct_sent _ _ _ hb, wentOn_chan_of_moves (by rw [hstep]; exact h), hstep]

theorem State.chanAct_ops {c : ChanId} {out : ChanOut} {u : State} (hb : u.cfg.busMaster = true) :
    ∀ r ∈ out.ops, ∃ id, r.op id ∈ (u.chanAct c out).1.link.ops := by
  intro r hr
  obtain ⟨id, hid⟩ := exists_op_of_mem hr { u with chans := u.chans.set c out.ch, link := u.link.staleChan c out.stales }
  rw [State.chanAct_sent _ _ _ hb]
  exact ⟨id, mem_wentOn_ops hid⟩

section Event

variable {s : State} (o : FrameOrder)

theorem State.applied_dev (o : FrameOrder) (s : State) : (s.applied o).dev = s.dev := by
  unfold State.applied
  split
  · exact State.applySet_dev o _
  · rfl

theorem State.applied_comp (o : FrameOrder) (s : State) : (s.applied o).comp = s.comp := by
  unfold State.applied
  split
  · exact State.applySet_comp o _
  · rfl

theorem State.moved_comp (o : FrameOrder) (s : State) : (s.moved o).1.comp = s.comp := by
  rw [State.moved, State.moveChans_comp, State.switched, State.sendFrames_comp, State.applied_comp]

/-- The device through the blocks' work at an event. -/
theorem State.moved_dev_eq (o : FrameOrder) (s : State) : (s.moved o).1.dev = s.dev := by
  rw [State.moved, State.moveChans_dev, State.switched, State.sendFrames_dev, State.applied_dev]

/-- An event that is not the STOP clear event leaves the device ONLINE, and is all that the command does. -/
theorem State.exec_frameEvent (hw : Working s) (hno : NoStopClear s) :
    s.frameEvent o = s.advanceCounter.runEvent o ∧ exec (.deviceFrameEvent o) s = .next (s.frameEvent o) := by
  have hdue : s.stopClearDue = false := by
    rw [← Bool.not_eq_true, State.stopClearDue_iff hw.online]
    exact not_not_intro hno
  have hrun : s.frameEvent o = s.advanceCounter.runEvent o := by rw [State.frameEvent, State.beginEvent_plain hdue]
  refine ⟨hrun, done_online _ ?_⟩
  rw [hrun, State.runEvent_dev o s.advanceCounter hw.linked]
  exact hw.online

/-- A RUNNING or STARVED channel that no apply touches has its turn in the event on what stood before the event, and what
its turn leaves stands at the event's end (R33). -/
theorem State.frameEvent_turn (hw : Working s) (hno : NoStopClear s) {c : ChanId} (hun : Untouched c s)
    (hmoves : s.chans[c].moves = true) :
    ∃ u, ChanStands c s u ∧ u.dev = s.dev ∧ u.now = s.tim.counter + 1 ∧
      ChanStands c (u.chanAct c (s.eventOut c (u.chanEnv c))).1 (s.frameEvent o) ∧
      (u.chanAct c (s.eventOut c (u.chanEnv c))).2 ∈ s.advanceCounter.eventGroups o := by
  have hplain : s.mc.inFlight = false ∨ lookupKey c s.mc.entries = none := by
    by_cases hfl : s.mc.inFlight = true
    · exact .inr (hun hfl)
    · exact .inl (Bool.eq_false_iff.2 hfl)
  have hswitched : ChanStands c s (s.advanceCounter.switched o) :=
    (s.advanceCounter_stands c).trans <| (s.advanceCounter.applied_stands o hplain).trans <|
      State.sendFrames_stands c _ _
  have hmover : c ∈ (s.advanceCounter.switched o).movers := State.mem_movers.2 (by rw [hswitched.chan]; exact hmoves)
  obtain ⟨u, hu, hdev, htim, hact, hposts⟩ := State.moveChans_at s.advanceCounter.reads
    ((List.nodup_finRange 128).filter _) hmover (s.advanceCounter.switched o)
  have hsu := hswitched.trans hu
  have hframe : u.chans[c].frame (u.chanEnv c) s.advanceCounter.reads[u.chans[c].hwy] = s.eventOut c (u.chanEnv c) :=
    congrArg (fun ch : Chan => ch.frame (u.chanEnv c) s.advanceCounter.reads[ch.hwy]) hsu.chan
  rw [hframe] at hact hposts
  refine ⟨u, hsu, ?dev, ?now, ?_, List.mem_append_right _ hposts⟩
  case dev =>
    rw [hdev, State.switched, State.sendFrames_dev, State.applied_dev]
    rfl
  case now =>
    rw [State.now, htim, State.switched, State.sendFrames_tim, State.applied_tim]
    exact State.ticked_now o s
  rw [(State.exec_frameEvent o hw hno).1, State.runEvent_eq]
  have hb : (s.advanceCounter.moved o).1.cfg.busMaster = true := by rw [State.moved_cfg]; exact hw.linked
  exact hact.trans (chanStands_takePosts c _ _ hb)

/-- Every record that a source hands on at an event is in its ring, or counted as dropped (R168, R169). -/
theorem State.handed_frameEvent (hw : Working s) (hno : NoStopClear s) {g : List Post} {rec : Record}
    (hg : g ∈ s.advanceCounter.eventGroups o) (hrec : .record none rec ∈ g) :
    Handed s.comp.eventRing rec (s.frameEvent o) := by
  rw [(State.exec_frameEvent o hw hno).1, State.runEvent_eq]
  refine handed_takePosts _ _ _ _ (by rw [State.moved_cfg]; exact hw.linked)
    (by rw [State.moved_dev_eq]; exact hw.online) (.inr ⟨by rw [State.moved_comp]; rfl, ?_⟩)
  exact (merge_perm _ _).mem_iff.2 (List.mem_flatten.2 ⟨g, hg, hrec⟩)

/-- A RUNNING or STARVED channel that no apply touches does its own step at the event, and what the step comes to stands
at the event's end (R33, R74, R75, R80). -/
theorem State.frameEvent_mover (hw : Working s) (hno : NoStopClear s) {c : ChanId} (hun : Untouched c s)
    (hmoves : s.chans[c].moves = true) :
    ∃ env, EventEnv c s env ∧ Acted c (s.eventOut c env) s.comp.eventRing (s.frameEvent o) := by
  obtain ⟨u, hu, hdev, hnow, hend, hposts⟩ := State.frameEvent_turn o hw hno hun hmoves
  have hb : u.cfg.busMaster = true := by rw [hu.cfg]; exact hw.linked
  have honline : u.isOnline = true := decide_eq_true (by rw [hdev]; exact hw.online)
  have hown := s.eventOut_own (c := c) (env := u.chanEnv c) rfl
  refine ⟨u.chanEnv c, ⟨rfl, honline, hb, hnow, by rw [State.liveDesc_iff, hu.liveOf_iff]⟩, ?_⟩
  generalize s.eventOut c (u.chanEnv c) = out at hown hend hposts ⊢
  refine ⟨fun h => hend.chan.trans (State.chanAct_chan hb h), fun r hr => ?_,
    fun rec hrec => State.handed_frameEvent o hw hno hposts (List.mem_append_left _ hrec)⟩
  obtain ⟨id, hid⟩ := State.chanAct_ops (c := c) hb r hr
  have hmem := mem_opsOf.2 ⟨hid, by rw [OpReq.op_kind]; exact hown.ops r hr⟩
  rw [← hend.ops] at hmem
  exact ⟨id, (mem_opsOf.1 hmem).1⟩

end Event

/-! ### The read frame of an enabled highway (R58) -/

theorem Highway.frameTick_substitute (online : Bool) (h : HwyId) (p : Highway) (hp : p.align ≠ .disabled) :
    (p.frameTick online h).frame.substitute = substituted p := by
  unfold Highway.frameTick substituted Highway.fallsSilent Config.silenceLimit
  cases ha : p.align
  case disabled => exact absurd ha hp
  case lost => simp [Highway.substituteFrame]
  case searching => dsimp only; split <;> simp [Highway.substituteFrame]
  case aligned =>
    by_cases hs : p.silence + 1 < 4
    · have hs' : ¬4 ≤ p.silence + 1 := by omega
      simp only [hs, hs', decide_true, decide_false, Bool.and_false, Bool.false_eq_true, if_false, and_self,
        Bool.not_true, Bool.false_or, Highway.readAligned]
      cases p.unread with
      | cons f rest => rfl
      | nil => cases p.last <;> rfl
    · have hs' : 4 ≤ p.silence + 1 := by omega
      simp [hs, hs', Highway.substituteFrame]

theorem State.eventRead_bytes {s : State} {c : ChanId} (h : s.hwys[s.chans[c].hwy].align ≠ .disabled) :
    (s.eventRead c).bytes = readFrame s.hwys[s.chans[c].hwy] := by
  rw [State.eventRead, State.reads_getElem]
  exact Highway.frameTick_bytes _ _ _ h

theorem State.eventRead_substitute {s : State} {c : ChanId} (h : s.hwys[s.chans[c].hwy].align ≠ .disabled) :
    (s.eventRead c).substitute = substituted s.hwys[s.chans[c].hwy] := by
  rw [State.eventRead, State.reads_getElem]
  exact Highway.frameTick_substitute _ _ _ h

end Sys2Proof.Machine
end

section
/-! PROOFS. A RUNNING channel's step at a device frame event while operations are sent, and O39 and O40. -/

set_option Elab.async false

namespace Sys2Proof.Machine

/-! ### The parts of the step -/

/-- The current copy with one more frame moved, by direction (R74 to R77). -/
def Chan.movedCopy (ch : Chan) (env : ChanEnv) (rf : ReadFrame) (cur : Current) : Current :=
  cur.move env (ch.dir == .tx && ch.ready.isNone) (ch.dir == .rx && rf.substitute) (if ch.dir = .rx then 1 else 0)

/-- The record with its frame moved, before its copies move on: a transmit channel's ready data are used up (R75, R77). -/
def Chan.framed (ch : Chan) (cur : Current) : Chan :=
  { ch with
    ready := if ch.dir = .tx then none else ch.ready
    due := if ch.dir = .tx then none else ch.due
    deferred := if cur.moved = 0 then ch.inQueue (ch.nextIndex cur.desc.index) else ch.deferred
    late := if ch.dir = .tx ∧ ch.ready = none then Config.satAdd Config.max32 ch.late else ch.late }

/-- The data write of a receive channel's frame (R74, R102). -/
def Chan.frameWrite (ch : Chan) (env : ChanEnv) (rf : ReadFrame) (cur : Current) : OpReq :=
  .write (.dataWrite env.id cur.desc.index) (ch.frameAddr cur.desc (cur.moved + 1)) (ch.rxBytes rf)

/-- What the frame itself issues: the data write of a receive channel, and the lookahead read (R74, R77). -/
def Chan.frameReqs (ch : Chan) (env : ChanEnv) (rf : ReadFrame) (cur : Current) : List OpReq :=
  (if ch.dir = .rx then [ch.frameWrite env rf cur] else []) ++ (ch.lookaheadRead? env cur (cur.moved + 1)).toList

section Sent

variable {ch : Chan} {env : ChanEnv} (hs : env.sent = true)

include hs

theorem Chan.issue?_sent (r : Option OpReq) (rest : ChanOut) :
    ch.issue? env r rest = { rest with ops := r.toList ++ rest.ops } := by
  cases r with
  | none => rfl
  | some r => exact Chan.issue_sent ch env r rest hs

theorem Chan.moveFrame_sent (rf : ReadFrame) (cur : Current) :
    ch.moveFrame env rf cur =
      { (ch.framed cur).afterFrame env (ch.movedCopy env rf cur) with
        ops := ch.frameReqs env rf cur ++ ((ch.framed cur).afterFrame env (ch.movedCopy env rf cur)).ops } := by
  have hfirst : cur.moved + 1 = 1 ↔ cur.moved = 0 := Nat.succ_inj
  have hnone : ch.ready.isNone = true ↔ ch.ready = none := Option.isNone_iff_eq_none
  unfold Chan.moveFrame Chan.framed Chan.movedCopy Chan.frameReqs
  cases ch.dir with
  | rx =>
    simp only [Chan.issue_sent _ _ _ _ hs, Chan.issue?_sent hs, hfirst, reduceCtorEq, false_and, if_false]
    rfl
  | tx =>
    simp only [Chan.issue?_sent hs, hfirst, hnone, true_and, if_true]
    rfl

omit hs in
/-- The work after a frame that is not the last: none of a receive channel. -/
theorem Chan.afterFrame_rx {cur : Current} (hdir : ch.dir = .rx) (hmore : cur.moved < cur.desc.frames) :
    ch.afterFrame env cur = Chan.only { ch with current := some cur } := by
  unfold Chan.afterFrame
  rw [if_neg (Nat.not_le_of_lt hmore), hdir]

/-- A transmit channel reads the next frame (R75). -/
theorem Chan.afterFrame_tx {cur : Current} (hdir : ch.dir = .tx) (hmore : cur.moved < cur.desc.frames) :
    ch.afterFrame env cur =
      { ch := ({ ch with current := some cur } : Chan).awaitData, stales := .none
        ops := [ch.dataRead env cur.desc (cur.moved + 1)], posts := [] } := by
  unfold Chan.afterFrame
  rw [if_neg (Nat.not_le_of_lt hmore), hdir]
  exact Chan.issue_sent _ _ _ _ hs

end Sent

theorem Chan.frame_running {ch : Chan} {env : ChanEnv} {cur : Current} (rf : ReadFrame) (hst : ch.st = .running)
    (hcur : ch.current = some cur) : ch.frame env rf = ch.moveFrame env rf cur := by
  unfold Chan.frame
  rw [hst]
  dsimp only
  rw [hcur]

/-- The lookahead read at the first frame, when its index is not in the queue (R77). -/
theorem Chan.lookaheadRead?_first {ch : Chan} {env : ChanEnv} {cur : Current} (h0 : cur.moved = 0)
    (hfree : ∀ e ∈ ch.queue, e.desc.index ≠ ch.nextIndex cur.desc.index) :
    ch.lookaheadRead? env cur (cur.moved + 1) = some (ch.descRead env (ch.nextIndex cur.desc.index)) := by
  have hnot : ch.inQueue (ch.nextIndex cur.desc.index) = false :=
    List.any_eq_false.2 fun e he => by simpa using hfree e he
  unfold Chan.lookaheadRead?
  rw [h0, if_pos rfl, hnot]
  rfl

/-- A host-owned lookahead is read again while frames are left and no read is in flight (R77). -/
theorem Chan.lookaheadRead?_again {ch : Chan} {env : ChanEnv} {cur : Current} {j : Nat} (h1 : 1 ≤ cur.moved)
    (hmore : cur.moved + 1 < cur.desc.frames) (hlook : ch.lookahead = some { index := j, owned := none })
    (hdesc : env.liveDesc = false) : ch.lookaheadRead? env cur (cur.moved + 1) = some (ch.descRead env j) := by
  unfold Chan.lookaheadRead?
  dsimp only
  rw [if_neg (by omega), hlook]
  exact if_pos ⟨hmore, hdesc⟩

/-! ### O39 -/

/-- A receive channel's step at a frame that is not the last (R74, R77, R102). -/
theorem Chan.frame_receives {ch : Chan} {env : ChanEnv} {cur : Current} (rf : ReadFrame) (hs : env.sent = true)
    (hst : ch.st = .running) (hdir : ch.dir = .rx) (hcur : ch.current = some cur)
    (hmore : cur.moved + 1 < cur.desc.frames) :
    (ch.frame env rf).ch = { ch with
        current := some { cur with
          moved := cur.moved + 1
          firstFrame := if cur.moved = 0 then env.now else cur.firstFrame
          sourceLost := cur.sourceLost || rf.substitute
          unaccepted := cur.unaccepted + 1 }
        deferred := if cur.moved = 0 then ch.inQueue (ch.nextIndex cur.desc.index) else ch.deferred } ∧
      (ch.frame env rf).ops = ch.frameReqs env rf cur := by
  have hmoved : (ch.movedCopy env rf cur).moved < (ch.movedCopy env rf cur).desc.frames := hmore
  rw [Chan.frame_running rf hst hcur, Chan.moveFrame_sent hs, Chan.afterFrame_rx (ch := ch.framed cur) hdir hmoved]
  refine ⟨?_, List.append_nil _⟩
  simp [Chan.only, Chan.framed, Chan.movedCopy, Current.move, hdir]

/-- Settles O39: the frame's data write and the lookahead read are the step's, and the record is what it leaves. -/
theorem receiveMoves : Obligations.ReceiveMoves := by
  unfold Obligations.ReceiveMoves
  intro o c cur s hw hno hun hst hdir hcur hmore hen
  obtain ⟨env, henv, hact⟩ := State.frameEvent_mover o hw hno hun (Chan.moves_of_running hst)
  obtain ⟨hch, hops⟩ := Chan.frame_receives (env := env) (s.eventRead c) henv.sent hst hdir hcur hmore
  refine ⟨s.frameEvent o, (State.exec_frameEvent o hw hno).2, ?chan, ?write, fun h0 hfree => ?look⟩
  case chan =>
    have hmoves : (s.eventOut c env).ch.moves = true := by rw [State.eventOut, hch]; exact Chan.moves_of_running hst
    rw [hact.chan hmoves, State.eventOut, hch, State.eventRead_substitute hen, henv.now]
    rfl
  case write =>
    obtain ⟨id, hid⟩ := hact.ops (s.chans[c].frameWrite env (s.eventRead c) cur) (by
      rw [State.eventOut, hops, Chan.frameReqs, if_pos hdir]
      exact List.mem_append_left _ (List.mem_singleton.2 rfl))
    refine ⟨_, hid, ?_, rfl, rfl, ?_⟩
    · rw [← henv.id]; rfl
    · rw [← State.eventRead_bytes hen]; rfl
  case look =>
    obtain ⟨id, hid⟩ := hact.ops (s.chans[c].descRead env (s.chans[c].nextIndex cur.desc.index)) (by
      rw [State.eventOut, hops, Chan.frameReqs, Chan.lookaheadRead?_first h0 hfree]
      exact List.mem_append_right _ (List.mem_singleton.2 rfl))
    exact ⟨_, hid, by rw [← henv.id]; rfl, rfl, rfl⟩

/-! ### O40 -/

/-- A transmit channel's step at a frame that is not the last (R75, R76, R77). -/
theorem Chan.frame_transmits {ch : Chan} {env : ChanEnv} {cur : Current} (rf : ReadFrame) (hs : env.sent = true)
    (hst : ch.st = .running) (hdir : ch.dir = .tx) (hcur : ch.current = some cur)
    (hmore : cur.moved + 1 < cur.desc.frames) :
    (ch.frame env rf).ch = { ch with
        current := some { cur with
          moved := cur.moved + 1
          firstFrame := if cur.moved = 0 then env.now else cur.firstFrame
          late := cur.late || ch.ready.isNone }
        ready := none
        due := some ch.readSeq
        readSeq := ch.readSeq + 1
        late := if ch.ready = none ∧ ch.late < 4294967295 then ch.late + 1 else ch.late
        deferred := if cur.moved = 0 then ch.inQueue (ch.nextIndex cur.desc.index) else ch.deferred } ∧
      ch.dataRead env cur.desc (cur.moved + 2) ∈ (ch.frame env rf).ops := by
  have hmoved : (ch.movedCopy env rf cur).moved < (ch.movedCopy env rf cur).desc.frames := hmore
  have hlate : (if ch.ready = none then Config.satAdd Config.max32 ch.late else ch.late) =
      if ch.ready = none ∧ ch.late < 4294967295 then ch.late + 1 else ch.late := by
    unfold Config.satAdd Config.max32
    cases ch.ready <;> simp
  rw [Chan.frame_running rf hst hcur, Chan.moveFrame_sent hs,
    Chan.afterFrame_tx (ch := ch.framed cur) hs hdir hmoved, ← hlate]
  refine ⟨?_, List.mem_append_right _ (List.mem_singleton.2 ?_)⟩
  · simp [Chan.framed, Chan.movedCopy, Chan.awaitData, Current.move, hdir]
  · simp [Chan.dataRead, Chan.frameAddr, Chan.framed, Chan.movedCopy, Current.move, hdir]

/-- Settles O40: the next frame's data read is the step's, and the record is what it leaves. -/
theorem transmitMoves : Obligations.TransmitMoves := by
  unfold Obligations.TransmitMoves
  intro o c cur s hw hno hun hst hdir hcur hmore
  obtain ⟨env, henv, hact⟩ := State.frameEvent_mover o hw hno hun (Chan.moves_of_running hst)
  obtain ⟨hch, hread⟩ := Chan.frame_transmits (env := env) (s.eventRead c) henv.sent hst hdir hcur hmore
  have hmoves : (s.eventOut c env).ch.moves = true := by rw [State.eventOut, hch]; exact Chan.moves_of_running hst
  obtain ⟨id, hid⟩ := hact.ops _ hread
  refine ⟨s.frameEvent o, (State.exec_frameEvent o hw hno).2, ?_, _, hid, by rw [← henv.id]; rfl, rfl, rfl, rfl⟩
  rw [hact.chan hmoves, State.eventOut, hch, henv.now]
  rfl

end Sys2Proof.Machine
end

section
/-! PROOFS. O41: the end of a buffer, and a STARVED channel. -/

set_option Elab.async false

namespace Sys2Proof.Machine

/-! ### The event that moves the last frame (R78) -/

/-- Entry into STARVED with a write-back queue (R78, R81). -/
def Chan.starveWith (ch : Chan) (env : ChanEnv) (q : List WbEntry) : ChanOut :=
  let r := { ch with queue := q, current := none, lookahead := none, deferred := false }.enterStarved env
  { ch := r.1, stales := .none, ops := [], posts := r.2 }

/-- What a channel is that has entered STARVED in ONLINE with the queue `q` (R78, R81). -/
structure Starves (ch : Chan) (env : ChanEnv) (q : List WbEntry) (out : ChanOut) : Prop where
  st : out.ch.st = .starved
  current : out.ch.current = none
  lookahead : out.ch.lookahead = none
  queue : out.ch.queue = q
  latch : out.ch.latch = true
  post : ch.latch = false → .record none (.event (.chanStarved env.id) env.now) ∈ out.posts

theorem Chan.starveWith_starves (ch : Chan) {env : ChanEnv} (q : List WbEntry) (honline : env.online = true) :
    Starves ch env q (ch.starveWith env q) := by
  unfold Chan.starveWith Chan.enterStarved
  rw [honline]
  cases hlatch : ch.latch with
  | false => exact ⟨rfl, rfl, rfl, rfl, rfl, fun _ => by simp [ChanEnv.post, eventPost, honline]⟩
  | true => exact ⟨rfl, rfl, rfl, rfl, rfl, fun h => absurd (hlatch.symm.trans h) (by decide)⟩

section Ends

variable {ch : Chan} {env : ChanEnv} (cur : Current)

/-- With no lookahead, or a host-owned one, the channel starves (R78). -/
theorem Chan.endDesc_none (h : ch.lookahead.bind Lookahead.owned = none) :
    ch.endDesc env cur = ch.starveWith env (ch.queue ++ [cur.entry .done]) := by
  unfold Chan.endDesc
  split
  · next d hl =>
    rw [hl] at h
    cases h
  · rfl
  · rfl

/-- An invalid lookahead is returned BAD, and the channel starves (R78). -/
theorem Chan.endDesc_bad {j : Nat} {d : Desc} (hl : ch.lookahead = some { index := j, owned := some d })
    (hd : d.valid = false) :
    ch.endDesc env cur = ch.starveWith env (ch.queue ++ [cur.entry .done] ++ [d.unmoved .bad]) := by
  unfold Chan.endDesc
  rw [hl]
  dsimp only
  rw [hd]
  rfl

/-- A valid lookahead takes over (R75, R78). -/
theorem Chan.endDesc_valid (hs : env.sent = true) {j : Nat} {d : Desc}
    (hl : ch.lookahead = some { index := j, owned := some d }) (hd : d.valid = true) :
    ch.endDesc env cur =
      let ch1 : Chan := { ch with
        queue := ch.queue ++ [cur.entry .done], current := some (.fresh d), lookahead := none, deferred := false }
      match ch.dir with
      | .rx => ch1.only
      | .tx => { ch := ch1.awaitData, stales := .none, ops := [ch.dataRead env d 1], posts := [] } := by
  unfold Chan.endDesc
  rw [hl]
  dsimp only
  rw [hd, if_pos rfl]
  cases ch.dir with
  | rx => rfl
  | tx => exact Chan.issue_sent _ _ _ _ hs

end Ends

theorem Desc.valid_iff (d : Desc) : d.valid = true ↔ 1 ≤ d.frames ∧ d.frames ≤ 4096 := by
  rw [Desc.valid, Bool.and_eq_true, decide_eq_true_iff, decide_eq_true_iff]
  rfl

/-! ### What the last frame leaves of the record -/

/-- The queue entry of a descriptor whose last frame moves at the event (R74 to R78). -/
def Chan.doneEntry (ch : Chan) (env : ChanEnv) (rf : ReadFrame) (cur : Current) : WbEntry :=
  (ch.movedCopy env rf cur).entry .done

section Last

variable {ch : Chan} {env : ChanEnv} {cur : Current} (rf : ReadFrame) (hs : env.sent = true)
  (hst : ch.st = .running) (hcur : ch.current = some cur) (hlast : cur.moved + 1 = cur.desc.frames)

include hs hst hcur hlast

/-- The step is the end of the descriptor, with what the frame itself issues before it. -/
theorem Chan.frame_last : ch.frame env rf =
    { (ch.framed cur).endDesc env (ch.movedCopy env rf cur) with
      ops := ch.frameReqs env rf cur ++ ((ch.framed cur).endDesc env (ch.movedCopy env rf cur)).ops } := by
  have hend : (ch.framed cur).afterFrame env (ch.movedCopy env rf cur) =
      (ch.framed cur).endDesc env (ch.movedCopy env rf cur) := if_pos (Nat.le_of_eq hlast.symm)
  rw [Chan.frame_running rf hst hcur, Chan.moveFrame_sent hs, hend]

theorem Chan.frame_starves {q : List WbEntry} (honline : env.online = true)
    (hend : (ch.framed cur).endDesc env (ch.movedCopy env rf cur) = (ch.framed cur).starveWith env q) :
    Starves ch env q (ch.frame env rf) := by
  have h := (ch.framed cur).starveWith_starves q honline
  rw [Chan.frame_last rf hs hst hcur hlast, hend]
  exact ⟨h.st, h.current, h.lookahead, h.queue, h.latch, h.post⟩

/-- The last frame with no lookahead or a host-owned one (R78, R81). -/
theorem Chan.frame_last_none (honline : env.online = true) (h : ch.lookahead.bind Lookahead.owned = none) :
    Starves ch env (ch.queue ++ [ch.doneEntry env rf cur]) (ch.frame env rf) := by
  refine Chan.frame_starves rf hs hst hcur hlast honline ?_
  rw [Chan.endDesc_none (ch := ch.framed cur) _ h]
  rfl

/-- The last frame with an invalid lookahead (R78, R81). -/
theorem Chan.frame_last_bad (honline : env.online = true) {j : Nat} {d : Desc}
    (hl : ch.lookahead = some { index := j, owned := some d }) (hd : d.valid = false) :
    Starves ch env (ch.queue ++ [ch.doneEntry env rf cur, unmoved d .bad]) (ch.frame env rf) := by
  refine Chan.frame_starves rf hs hst hcur hlast honline ?_
  rw [Chan.endDesc_bad (ch := ch.framed cur) _ hl hd, List.append_assoc]
  rfl

/-- The last frame with a valid lookahead (R75, R78). -/
theorem Chan.frame_last_valid {j : Nat} {d : Desc} (hl : ch.lookahead = some { index := j, owned := some d })
    (hd : d.valid = true) :
    (ch.frame env rf).ch.st = .running ∧ (ch.frame env rf).ch.current = some (freshCopy d) ∧
      (ch.frame env rf).ch.lookahead = none ∧ (ch.frame env rf).ch.queue = ch.queue ++ [ch.doneEntry env rf cur] ∧
      (ch.dir = .tx → (ch.frame env rf).ch.ready = none ∧ (ch.frame env rf).ch.due = some ch.readSeq ∧
        .read (.dataRead env.id ch.readSeq) d.buffer ch.slots.length ∈ (ch.frame env rf).ops) := by
  have haddr : (ch.framed cur).dataRead env d 1 = .read (.dataRead env.id ch.readSeq) d.buffer ch.slots.length := by
    simp [Chan.dataRead, Chan.frameAddr, Chan.framed]
  rw [Chan.frame_last rf hs hst hcur hlast,
    Chan.endDesc_valid (ch := ch.framed cur) _ hs hl hd, show (ch.framed cur).dir = ch.dir from rfl, haddr]
  cases hdir : ch.dir with
  | rx => exact ⟨hst, rfl, rfl, rfl, fun h => Dir.noConfusion h⟩
  | tx => exact ⟨hst, rfl, rfl, rfl, fun _ => ⟨rfl, rfl, List.mem_append_right _ (List.mem_singleton.2 rfl)⟩⟩

end Last

/-! ### A host-owned lookahead, and a STARVED channel -/

/-- What the frame itself issues is among the step's operations, whether the frame is the last or not. -/
theorem Chan.mem_frame_ops {ch : Chan} {env : ChanEnv} {cur : Current} (rf : ReadFrame) (hs : env.sent = true)
    (hst : ch.st = .running) (hcur : ch.current = some cur) :
    ∀ r ∈ ch.frameReqs env rf cur, r ∈ (ch.frame env rf).ops := by
  intro r hr
  rw [Chan.frame_running rf hst hcur, Chan.moveFrame_sent hs]
  exact List.mem_append_left _ hr

/-- A STARVED channel's step (R80). -/
theorem Chan.frame_starved {ch : Chan} {env : ChanEnv} (rf : ReadFrame) (hs : env.sent = true) (hst : ch.st = .starved) :
    (ch.frame env rf).ch =
        { ch with starved := if ch.starved < 4294967295 then ch.starved + 1 else ch.starved } ∧
      (ch.queue = [] → env.liveDesc = false → ch.descRead env ch.pos ∈ (ch.frame env rf).ops) := by
  have hframe : ch.frame env rf = ch.starvedFrame env := by rw [Chan.frame, hst]
  rw [hframe, Chan.starvedFrame, Chan.issue?_sent hs]
  refine ⟨rfl, fun hq hdesc => ?_⟩
  rw [hq, hdesc]
  exact List.mem_singleton.2 rfl

/-! ### O41 -/

/-- A channel that its step at the event has left STARVED is so at the event's end, and with its latch clear before it has
handed CHAN_STARVED (R80, R81). -/
theorem Acted.starves {c : ChanId} {s t : State} {env : ChanEnv} {q : List WbEntry} (henv : EventEnv c s env)
    (hact : Acted c (s.eventOut c env) s.comp.eventRing t) (h : Starves s.chans[c] env q (s.eventOut c env)) :
    (t.chans[c].st = .starved ∧ t.chans[c].current = none ∧ t.chans[c].queue = q ∧ t.chans[c].latch = true) ∧
      t.chans[c].lookahead = none ∧
      (s.chans[c].latch = false → Handed s.comp.eventRing (.event (.chanStarved c) (s.tim.counter + 1)) t) := by
  rw [hact.chan (Chan.moves_of_starved h.st)]
  refine ⟨⟨h.st, h.current, h.queue, h.latch⟩, h.lookahead, fun hlatch => hact.posts _ ?_⟩
  have hpost := h.post hlatch
  rwa [henv.id, henv.now] at hpost

/-- Settles O41: the step of the channel's own, by its lookahead at the last frame, and by its state. -/
theorem bufferEndsAndStarves : Obligations.BufferEndsAndStarves := by
  unfold Obligations.BufferEndsAndStarves
  intro o c s hw hno hun
  have hexec := (State.exec_frameEvent o hw hno).2
  refine ⟨fun cur hst hcur hlast => ?ends, fun cur j hst hcur h1 hmore hlook hdesc => ?again, fun hst => ?starved⟩
  case ends =>
    obtain ⟨env, henv, hact⟩ := State.frameEvent_mover o hw hno hun (Chan.moves_of_running hst)
    refine ⟨s.frameEvent o, s.chans[c].doneEntry env (s.eventRead c) cur, hexec, rfl, rfl, rfl,
      by rw [← henv.now]; rfl, rfl, rfl, fun hen => by rw [← State.eventRead_substitute hen]; rfl, ?_⟩
    have hnone := Chan.frame_last_none (s.eventRead c) henv.sent hst hcur hlast henv.online
    cases hlook : s.chans[c].lookahead with
    | none =>
      obtain ⟨hrecord, hl, hpost⟩ := hact.starves henv (hnone (by rw [hlook]; rfl))
      exact ⟨hl, fun _ hlatch _ => hpost hlatch, hrecord⟩
    | some l =>
      obtain ⟨j, owned⟩ := l
      cases owned with
      | none =>
        obtain ⟨hrecord, hl, hpost⟩ := hact.starves henv (hnone (by rw [hlook]; rfl))
        exact ⟨hl, fun _ hlatch _ => hpost hlatch, hrecord⟩
      | some d =>
        dsimp only
        by_cases hvalid : d.valid = true
        · obtain ⟨hrun, hcopy, hl, hqueue, hread⟩ :=
            Chan.frame_last_valid (s.eventRead c) henv.sent hst hcur hlast hlook hvalid
          rw [if_pos (d.valid_iff.1 hvalid), hact.chan (Chan.moves_of_running hrun)]
          refine ⟨hl, fun hstarved => ChanState.noConfusion (hrun.symm.trans hstarved), hrun, hcopy, hqueue,
            fun hdir => ?_⟩
          obtain ⟨hready, hdue, hop⟩ := hread hdir
          obtain ⟨id, hid⟩ := hact.ops _ hop
          exact ⟨hready, hdue, _, hid, by rw [← henv.id]; rfl, rfl, rfl, rfl⟩
        · obtain ⟨hrecord, hl, hpost⟩ := hact.starves henv
            (Chan.frame_last_bad (s.eventRead c) henv.sent hst hcur hlast henv.online hlook (Bool.eq_false_iff.2 hvalid))
          rw [if_neg (mt d.valid_iff.2 hvalid)]
          exact ⟨hl, fun _ hlatch _ => hpost hlatch, hrecord⟩
  case again =>
    obtain ⟨env, henv, hact⟩ := State.frameEvent_mover o hw hno hun (Chan.moves_of_running hst)
    have hidle : env.liveDesc = false := Bool.eq_false_iff.2 fun h => hdesc (henv.liveDesc.1 h)
    have hreq : s.chans[c].descRead env j ∈ s.chans[c].frameReqs env (s.eventRead c) cur := by
      rw [Chan.frameReqs, Chan.lookaheadRead?_again h1 hmore hlook hidle]
      exact List.mem_append_right _ (List.mem_singleton.2 rfl)
    obtain ⟨id, hid⟩ := hact.ops _ (Chan.mem_frame_ops (s.eventRead c) henv.sent hst hcur _ hreq)
    exact ⟨_, hexec, _, hid, by rw [← henv.id]; rfl, rfl, rfl, rfl⟩
  case starved =>
    obtain ⟨env, henv, hact⟩ := State.frameEvent_mover o hw hno hun (Chan.moves_of_starved hst)
    obtain ⟨hch, hread⟩ := Chan.frame_starved (env := env) (s.eventRead c) henv.sent hst
    have hmoves : (s.eventOut c env).ch.moves = true := by rw [State.eventOut, hch]; exact Chan.moves_of_starved hst
    refine ⟨_, hexec, (hact.chan hmoves).trans hch, fun hq hdesc => ?_⟩
    obtain ⟨id, hid⟩ := hact.ops _ (hread hq (Bool.eq_false_iff.2 fun h => hdesc (henv.liveDesc.1 h)))
    exact ⟨_, hid, by rw [← henv.id]; rfl, rfl, rfl, rfl⟩

end Sys2Proof.Machine
end

section
/-! PROOFS. The loss of highways' candidates and the selector's move at it, and O5: the device reset. -/

set_option Elab.async false

namespace Sys2Proof.Machine

/-! ### The selector's move (R127, R128) -/

/-- Leaving LOCKED ends the locked run (R127). -/
theorem Timing.leave_eq (t : Timing) : t.leave = { t with lockedRun := match t.sel with
    | .locked _ => 0
    | _ => t.lockedRun } := by
  obtain ⟨_, _, _, _, _, _, _, _, sel⟩ := t
  cases sel <;> rfl

/-- The selector as it falls (R127, R128). -/
theorem Timing.fallback_eq (limit : Nat) (t : Timing) : (t.fallback limit).1 = fallen limit t := by
  unfold Timing.fallback fallen bestQualified Timing.toAcquiring Timing.toHoldover Timing.toFreerun
  rw [Timing.leave_eq]
  cases t.cands.find? fun c => c.st == .qualified with
  | some c => rfl
  | none =>
    by_cases hvalid : t.valid = true ∧ 0 < limit
    · exact (congrArg Prod.fst (if_pos hvalid)).trans (if_pos hvalid).symm
    · exact (congrArg Prod.fst (if_neg hvalid)).trans (if_neg hvalid).symm

/-- A selector falls exactly when it is on a candidate that is not QUALIFIED (R128). -/
theorem Timing.checkSelected_eq (t : Timing) : t.checkSelected.1 =
    if t.selected?.any fun src => !t.selectedQualified src then fallen t.limitInForce t else t := by
  unfold Timing.checkSelected
  cases t.selected? with
  | none => rfl
  | some src => cases h : t.selectedQualified src <;> simp [h, Timing.fallback_eq]

/-- A falling selector leaves the candidates and REFOUT. -/
theorem fallen_keeps (limit : Nat) (t : Timing) : (fallen limit t).cands = t.cands ∧
    (fallen limit t).exportSel = t.exportSel ∧ (fallen limit t).refout = t.refout := by
  unfold fallen
  dsimp only
  split
  · exact ⟨rfl, rfl, rfl⟩
  · split <;> exact ⟨rfl, rfl, rfl⟩

theorem Timing.checkSelected_cands (t : Timing) : t.checkSelected.1.cands = t.cands := by
  rw [Timing.checkSelected_eq]
  split
  · exact (fallen_keeps _ t).1
  · rfl

/-! ### The candidates of a list of distinct sources (R116, R117) -/

theorem find?_src {cs : List Cand} (hnodup : (cs.map Cand.src).Nodup) {c : Cand} (hc : c ∈ cs) :
    (cs.find? fun k => k.src == c.src) = some c := by
  induction cs with
  | nil => cases hc
  | cons k cs ih =>
    obtain ⟨hk, hcs⟩ := List.nodup_cons.1 hnodup
    rcases List.mem_cons.1 hc with rfl | hc
    · simp
    · have hne : k.src ≠ c.src := fun e => hk (e ▸ List.mem_map_of_mem hc)
      rw [List.find?_cons_of_neg (by simpa using hne), ih hcs hc]

/-- REFOUT carries a source exactly while its one candidate is not FAILED (R137). -/
theorem Timing.passes_iff {t : Timing} (hnodup : (t.cands.map Cand.src).Nodup) (src : Source) :
    t.passes src = true ↔ ∃ k ∈ t.cands, k.src = src ∧ k.st ≠ .failed := by
  unfold Timing.passes Timing.cand?
  constructor
  · intro h
    split at h
    · next c hc => exact ⟨c, List.mem_of_find?_eq_some hc, by simpa using List.find?_some hc, by simpa using h⟩
    · cases h
  · rintro ⟨k, hk, rfl, hst⟩
    rw [find?_src hnodup hk]
    simpa using hst

/-! ### Losses (R118, R120, R123) -/

/-- The candidate is one of a highway among `lost`. -/
def Cand.isAmong (lost : HwyId → Bool) (c : Cand) : Bool :=
  match c.src with
  | .hwy h => lost h
  | .ref _ => false

/-- The candidates of the highways of `lost` have failed, the selector not yet moved (R118, R123). -/
def Timing.withLost (lost : HwyId → Bool) (t : Timing) : Timing :=
  { t with cands := t.cands.map fun c => if c.isAmong lost then c.lose else c }

/-- With the invariant of the timing unit, the selector's check after losses is its fall from a lost candidate
(R124, R128). -/
theorem checkSelected_withLost {s : State} (hinv : TimingInv s) (lost : HwyId → Bool) :
    (s.tim.withLost lost).checkSelected.1 = afterLoss lost s.tim := by
  obtain ⟨-, hnodup, hselected, -⟩ := hinv
  have hsources : ((s.tim.withLost lost).cands.map Cand.src) = s.tim.cands.map Cand.src := by
    simp only [Timing.withLost, List.map_map]
    refine List.map_congr_left fun c _ => ?_
    simp only [Function.comp_apply]
    split <;> rfl
  rw [Timing.checkSelected_eq]
  show (if s.tim.selected?.any _ then _ else _) = (if s.tim.selected?.any _ then _ else _)
  cases hsel : s.tim.selected? with
  | none => rfl
  | some src =>
    obtain ⟨c, hc, rfl, hst⟩ := hselected src hsel
    have hmem : (if c.isAmong lost then c.lose else c) ∈ (s.tim.withLost lost).cands :=
      List.mem_map_of_mem (f := fun c : Cand => if c.isAmong lost then c.lose else c) hc
    have hsrc : (if c.isAmong lost then c.lose else c).src = c.src := by split <;> rfl
    have hfind := find?_src (hsources ▸ hnodup) hmem
    rw [hsrc] at hfind
    have hqual : (!(s.tim.withLost lost).selectedQualified c.src) = c.isAmong lost := by
      unfold Timing.selectedQualified Timing.cand?
      rw [hfind]
      cases h : c.isAmong lost <;> simp [hst, Cand.lose, Cand.fail]
    simp only [Option.any_some, hqual]
    rfl

theorem Timing.lose_eq (h : HwyId) (t : Timing) : (t.lose (.hwy h)).1 = t.withLost fun g => g == h := by
  have hmod : t.modCand (.hwy h) Cand.lose = t.withLost fun g => g == h := by
    unfold Timing.modCand Timing.withLost
    congr 1
    refine List.map_congr_left fun c _ => ?_
    cases hsrc : c.src <;> simp [Cand.isAmong, hsrc]
  unfold Timing.lose
  split
  · exact hmod
  · next hnone =>
    have hunlisted : ∀ c ∈ t.cands, c.src ≠ .hwy h := by simpa [Timing.cand?] using hnone
    have hsame : t.modCand (.hwy h) Cand.lose = t := by
      unfold Timing.modCand
      congr 1
      exact (List.map_congr_left fun c hc => if_neg (hunlisted c hc)).trans (List.map_id _)
    rw [← hmod, hsame]

/-- The loss of one highway, taken at once (R123, R128). -/
theorem loseNow_eq {s : State} (hinv : TimingInv s) (h : HwyId) :
    (s.tim.loseNow (.hwy h)).1 = afterLoss (fun g => g == h) s.tim := by
  rw [← checkSelected_withLost hinv, ← Timing.lose_eq]
  rfl

theorem Timing.loseNow_cands (h : HwyId) (t : Timing) : (t.loseNow (.hwy h)).1.cands =
    t.cands.map fun c => if c.src = .hwy h then c.lose else c := by
  show ((t.lose (.hwy h)).1.checkSelected).1.cands = _
  rw [Timing.checkSelected_cands, Timing.lose_eq]
  refine List.map_congr_left fun c _ => ?_
  cases hsrc : c.src <;> simp [Cand.isAmong, hsrc]

/-- A device reset is the loss of every highway for the timing unit (R140). -/
theorem deviceReset_eq {s : State} (hinv : TimingInv s) : s.tim.deviceReset = afterLoss (fun _ => true) s.tim := by
  rw [← checkSelected_withLost hinv]
  have hcand : ∀ c : Cand, c.hwyReset = if c.isAmong fun _ => true then c.lose else c := by
    intro c
    unfold Cand.hwyReset Cand.isAmong
    cases c.src <;> rfl
  rw [Timing.deviceReset, funext hcand]
  rfl

/-! ### RESET -/

/-- Settles O5: the reset values block by block, the losses of all highways, and the end of RESETTING. -/
theorem deviceReset : Obligations.DeviceReset := by
  unfold Obligations.DeviceReset
  intro s hinv
  have hreset : s.deviceReset = { s.deviceReset with tim := afterLoss (fun _ => true) s.tim } :=
    congrArg (fun x => { s.deviceReset with tim := x }) (deviceReset_eq hinv)
  show done s.deviceReset = _
  rw [hreset, done, State.finish_eq, ended]
  have hops : s.link.drop.ops = [] ↔ s.link.ops = [] := by simp [Link.drop]
  by_cases hquiet : s.link.ops = []
  · rw [if_pos hquiet, if_pos (.inr ⟨rfl, hops.2 hquiet⟩)]
    rfl
  · rw [if_neg hquiet, if_neg]
    · rfl
    · rintro (⟨hst, -⟩ | ⟨-, hdrop⟩)
      · cases hst
      · exact hquiet (hops.1 hdrop)

end Sys2Proof.Machine
end

section
/-! PROOFS. O31: when a highway is in use, and O22: SETHWY that takes a highway out of ALIGNED. -/

set_option Elab.async false

namespace Sys2Proof.Machine

/-! ### The uses of a highway, one by one (R47) -/

/-- A driver uses a highway by its output slot or by its source (R47, items 1 and 2). -/
theorem Driver.uses_iff (h g : HwyId) (d : Driver) : d.uses h g = true ↔
    g = h ∧ ((∃ x k, d = .connection x k) ∨ ∃ c, d = .channel c) ∨ ∃ k, d = .connection h k := by
  cases d <;> simp [Driver.uses]

theorem State.driversUse_iff (s : State) (h : HwyId) :
    ((List.finRange 16).any fun g =>
        (List.range s.map[g].length).any fun n => (s.prospective none g n).1.uses h g) = true ↔
      (∃ n < s.map[h].length, (∃ g k, (s.prospective none h n).1 = .connection g k) ∨
        ∃ c, (s.prospective none h n).1 = .channel c) ∨
      ∃ g, ∃ n < s.map[g].length, ∃ k, (s.prospective none g n).1 = .connection h k := by
  simp only [List.any_eq_true, List.mem_finRange, List.mem_range, Driver.uses_iff, true_and]
  constructor
  · rintro ⟨g, n, hn, ⟨rfl, hd⟩ | hd⟩
    · exact .inl ⟨n, hn, hd⟩
    · exact .inr ⟨g, n, hn, hd⟩
  · rintro (⟨n, hn, hd⟩ | ⟨g, n, hn, hd⟩)
    · exact ⟨h, n, hn, .inl ⟨rfl, hd⟩⟩
    · exact ⟨g, n, hn, .inr hd⟩

/-- The highway of a channel in the prospective state: by its staged entry, or with none by its record while it is open or
FAULTED (R24; R47, item 3). -/
theorem State.prospectiveHwy_iff (s : State) (c : ChanId) (h : HwyId) : s.prospectiveHwy c = some h ↔
    (∃ p, lookupKey c s.mc.entries = some (.openEntry p) ∧ p.hwy = h) ∨
      (∃ l, lookupKey c s.mc.entries = some (.reslotEntry h l)) ∨
      lookupKey c s.mc.entries = none ∧ s.chans[c].hwy = h ∧
        s.chans[c].st ∈ [.priming, .running, .starved, .faulted] := by
  unfold State.prospectiveHwy
  cases lookupKey c s.mc.entries with
  | none => cases s.chans[c].st <;> simp
  | some e => cases e <;> simp

/-- A target entry names a highway by its slot or its source (R47, item 4). -/
theorem targetNames_iff (h : HwyId) (e : SlotRef × Target) :
    targetNames h e = true ↔ e.1.hwy = h ∨ ∃ k, e.2 = .connection h k := by
  obtain ⟨k, x⟩ := e
  cases x <;> simp [targetNames]

/-- A channel entry names the highways it sets and leaves (R47, item 5). -/
theorem entryNames_iff (s : State) (h : HwyId) (e : ChanId × ChanEntry) : entryNames s h e = true ↔
    (∃ p, e.2 = .openEntry p ∧ p.hwy = h) ∨ (e.2 = .closeEntry ∧ s.chans[e.1].hwy = h) ∨
      ∃ g l, e.2 = .reslotEntry g l ∧ (g = h ∨ s.chans[e.1].hwy = h) := by
  obtain ⟨c, x⟩ := e
  cases x <;> simp [entryNames]

/-- Settles O31: each of the five uses is one of the model's tests. -/
theorem highwayUse : Obligations.HighwayUse := by
  unfold Obligations.HighwayUse
  intro s h
  simp only [State.hwyInUse, Bool.or_eq_true, State.driversUse_iff]
  simp only [List.any_eq_true, List.mem_finRange, true_and, beq_iff_eq, State.prospectiveHwy_iff, targetNames_iff,
    entryNames_iff, or_assoc]

/-! ### SETHWY that costs alignment -/

/-- A Disable or a Resize takes an ALIGNED highway out of ALIGNED (R49, R55). -/
theorem sethwyPort_unaligned {r : ReqRecord} {p : Highway} (ha : p.align = .aligned)
    (hcost : reqByte r 0x09 = 0 ∨ reqByte r 0x0A ≠ p.slotCount) : (sethwyPort r p).align ≠ .aligned := by
  unfold sethwyPort
  rcases hcost with hoff | hresize
  · simp [ha, hoff]
  · by_cases hoff : reqByte r 0x09 = 0 <;> simp [ha, hoff, hresize]

/-- The port and the map entries of a highway after a SETHWY that is carried out (R10, R49). -/
def State.reconfigured (s : State) (h : HwyId) (r : ReqRecord) : State :=
  { s with hwys := s.hwys.set h (sethwyPort r s.hwys[h]), map := s.map.set h (sethwyMap r s.hwys[h] s.map[h]) }

/-- Carrying out a SETHWY that costs the alignment: a loss for the timing unit (R49, R118). -/
theorem State.changeHwy_loses (s : State) (h : HwyId) (r : ReqRecord) (ha : s.hwys[h].align = .aligned)
    (hcost : reqByte r 0x09 = 0 ∨ reqByte r 0x0A ≠ s.hwys[h].slotCount) :
    s.changeHwy h r (hwyChange s.hwys[h] r) = (s.reconfigured h r).withTiming (s.tim.loseNow (.hwy h)) := by
  unfold State.changeHwy State.reconfigured
  rw [Highway.change_eq, changeDrivers_eq]
  exact if_pos ⟨decide_eq_true ha, sethwyPort_unaligned ha hcost⟩

/-- The timing unit's records leave the processor (R138). -/
theorem State.withTiming_proc (r : Timing × List TimOcc) (s : State) (hb : s.cfg.busMaster = true) :
    (s.withTiming r).proc = s.proc :=
  State.takePosts_records_proc (timingPosts_isRecord _ _ _) _ hb

/-- A request completes with the consumed count of its fetch (R144). -/
theorem State.finishRequest_consumed (h : Hand) (st : Status) (v : Nat) (f : Word32) (s : State)
    (hb : s.cfg.busMaster = true) (ho : s.dev.st = .online) :
    (s.finishRequest h st v f).proc.consumed = s.proc.consumed := by
  rw [State.finishRequest, State.handDone_eq _ _ _ hb ho]
  unfold afterDone afterRequest
  split_ifs <;> rfl

/-- A request that completes after a change of the timing unit, in ONLINE while operations are sent. -/
theorem done_withTiming_finishRequest (hand : Hand) (st : Status) (v : Nat) (x : Timing × List TimOcc) (s : State)
    (hb : s.cfg.busMaster = true) (ho : s.dev.st = .online) :
    ∃ t, done ((s.withTiming x).finishRequest hand st v 0) = .next t ∧ t.hwys = s.hwys ∧ t.map = s.map ∧
      t.chans = s.chans ∧ t.proc.consumed = s.proc.consumed ∧ t.tim = x.1 := by
  have hb' : (s.withTiming x).cfg.busMaster = true := by rw [State.withTiming_cfg]; exact hb
  have ho' : (s.withTiming x).dev.st = .online := by rw [State.withTiming_dev _ _ hb]; exact ho
  refine ⟨_, done_online _ (by rw [State.finishRequest_dev _ _ _ _ _ hb']; exact ho'), ?_⟩
  rw [State.finishRequest_consumed _ _ _ _ _ hb' ho', State.withTiming_proc _ _ hb]
  simp [hb]

/-- Settles O22: the checks let the request pass, and its change is a loss for the timing unit. -/
theorem sethwyLosesAlignment : Obligations.SethwyLosesAlignment := by
  unfold Obligations.SethwyLosesAlignment
  intro r f s hf hr hbody ha hcost hfree hbudget
  have hfields : sethwyFieldsOk r = true := hbody.checks
  have huse : ¬TakesUsed r (reqHwy r 0x08) s := fun h => Bool.false_ne_true (hfree.symm.trans h.2.2)
  have hroom : ¬PassesBudget r (reqHwy r 0x08) s := fun ⟨hon, _, hover⟩ => by
    rcases hbudget with hoff | hle
    · omega
    · exact absurd hover (Nat.not_lt.2 hle)
  have hcheck := (executing f s).sethwyCheck_eq (reqHwy r 0x08) r (sethwyFieldsOk_enable hfields)
  have hchange := (executing f s).changeHwy_loses (reqHwy r 0x08) r ha hcost
  obtain ⟨t, hdone, hhwys, hmap, hchans, hconsumed, htim⟩ := done_withTiming_finishRequest
    { ring := ringOf r, tag := r.tag, frame := 0 } .ok
    (budgetUsed (((executing f s).reconfigured (reqHwy r 0x08) r).withTiming (s.tim.loseNow (.hwy (reqHwy r 0x08)))).hwys)
    (s.tim.loseNow (.hwy (reqHwy r 0x08))) ((executing f s).reconfigured (reqHwy r 0x08) r) hf.linked hf.online
  have hexec : exec (.sethwy r) s = .next t := by
    show done (s.request r sethwyBody) = _
    rw [hf.request hr, sethwyBody_carried _ hfields (hcheck.trans ((if_neg huse).trans (if_neg hroom))) hchange]
    exact hdone
  refine ⟨t, hexec, hhwys, hmap, hchans, hconsumed, ?_⟩
  rw [htim]
  exact ⟨Timing.loseNow_counter _ _, Timing.loseNow_cands _ _, fun hinv => loseNow_eq hinv _⟩

end Sys2Proof.Machine
end

section
/-! PROOFS. O44: a frame arrival at the port, at the timing unit, and in the records. -/

set_option Elab.async false

namespace Sys2Proof.Machine

/-! ### The candidate of the highway (R118, R120, R123) -/

section Arrival

variable (h : HwyId) (t : Timing)

/-- What an arrival does to a candidate: it counts in the window, begins a loss, ends one, or leaves one standing; `was` and
`now` say whether the highway is ALIGNED before and after it. -/
def Cand.arrived (was now : Prop) [Decidable was] [Decidable now] (c : Cand) : Cand :=
  if c.src = .hwy h then
    if was then if now then c.arrive else c.lose else if now then c.endLoss else c
  else c

/-- The timing unit after an arrival, before REFOUT. -/
def Timing.arrived (was now : Bool) : Timing :=
  match was, now with
  | true, false => (t.loseNow (.hwy h)).1
  | false, true => t.modCand (.hwy h) Cand.endLoss
  | true, true => t.modCand (.hwy h) Cand.arrive
  | false, false => t

theorem Timing.hwyArrival_eq (was now : Bool) :
    (t.hwyArrival h was now).1 = (t.arrived h was now).exportArrival (.hwy h) := by
  cases was <;> cases now <;> rfl

variable (was now : Prop) [Decidable was] [Decidable now]

theorem Timing.arrived_cands : (t.arrived h was now).cands = t.cands.map (Cand.arrived h was now) := by
  unfold Timing.arrived
  by_cases hw : was
  · by_cases hn : now <;> simp [hw, hn, Timing.loseNow_cands, Timing.modCand, Cand.arrived]
  · by_cases hn : now
    · simp [hw, hn, Timing.modCand, Cand.arrived]
    · have hstays : ∀ c, Cand.arrived h was now c = c := fun c => by simp [Cand.arrived, hw, hn]
      simp [hw, hn, funext hstays]

theorem Timing.arrived_counter (was now : Bool) : (t.arrived h was now).counter = t.counter := by
  cases was <;> cases now
  case true.false => exact t.loseNow_counter _
  all_goals rfl

end Arrival

theorem Cand.arrived_src (h : HwyId) (was now : Prop) [Decidable was] [Decidable now] (c : Cand) :
    (c.arrived h was now).src = c.src := by
  unfold Cand.arrived
  split_ifs <;> rfl

theorem Timing.exportArrival_eq (src : Source) (t : Timing) : t.exportArrival src =
    { t with refout := if t.exportSel = .source src ∧ t.passes src = true then t.refout + 1 else t.refout } := by
  unfold Timing.exportArrival
  split <;> rfl

/-- The pulses that REFOUT has given once an arrival of `src` has left the candidates `cs` (R137). -/
def Timing.carried (src : Source) (cs : List Cand) (t : Timing) : Nat :=
  if t.exportSel = .source src ∧ ∃ k ∈ cs, k.src = src ∧ k.st ≠ .failed then t.refout + 1 else t.refout

theorem Timing.exportArrival_of_nodup {t u : Timing} (src : Source) (hnodup : (u.cands.map Cand.src).Nodup)
    (hexport : u.exportSel = t.exportSel) (hrefout : u.refout = t.refout) : u.exportArrival src =
      { u with refout := t.carried src u.cands } := by
  rw [Timing.exportArrival_eq]
  simp only [Timing.carried, Timing.passes_iff hnodup, hexport, hrefout]

theorem afterLoss_keeps (lost : HwyId → Bool) (t : Timing) :
    (afterLoss lost t).exportSel = t.exportSel ∧ (afterLoss lost t).refout = t.refout := by
  unfold afterLoss
  dsimp only
  split
  · obtain ⟨-, hexport, hrefout⟩ := fallen_keeps t.limitInForce (t.withLost lost)
    exact ⟨hexport, hrefout⟩
  · exact ⟨rfl, rfl⟩

/-- Beyond its candidates and REFOUT an arrival moves the selector alone, and at a loss alone (R123, R128, R137). -/
theorem hwyArrival_of_inv {s : State} (hinv : TimingInv s) (h : HwyId) (was now : Prop) [Decidable was] [Decidable now] :
    (s.tim.hwyArrival h was now).1 =
      { (if was ∧ ¬now then afterLoss (fun g => g == h) s.tim else s.tim) with
        cands := (s.tim.hwyArrival h was now).1.cands
        refout := s.tim.carried (.hwy h) (s.tim.hwyArrival h was now).1.cands } := by
  have hnodup : ((s.tim.arrived h was now).cands.map Cand.src).Nodup := by
    have hsources : Cand.src ∘ Cand.arrived h was now = Cand.src := funext (Cand.arrived_src h was now)
    rw [Timing.arrived_cands, List.map_map, hsources]
    exact hinv.2.1
  have hselector : s.tim.arrived h was now =
      { (if was ∧ ¬now then afterLoss (fun g => g == h) s.tim else s.tim) with
        cands := (s.tim.arrived h was now).cands } := by
    unfold Timing.arrived
    by_cases hw : was <;> by_cases hn : now <;>
      simp only [hw, hn, decide_true, decide_false, loseNow_eq hinv, Timing.modCand, not_true, not_false_eq_true,
        and_true, and_false, if_true, if_false]
  have hkeeps : (s.tim.arrived h was now).exportSel = s.tim.exportSel ∧
      (s.tim.arrived h was now).refout = s.tim.refout := by
    rw [hselector]
    split
    · exact afterLoss_keeps _ _
    · exact ⟨rfl, rfl⟩
  rw [Timing.hwyArrival_eq, Timing.exportArrival_of_nodup _ hnodup hkeeps.1 hkeeps.2]
  exact congrArg (fun x : Timing => { x with refout := s.tim.carried (.hwy h) (s.tim.arrived h was now).cands }) hselector

theorem Timing.hwyArrival_cands (h : HwyId) (t : Timing) (was now : Prop) [Decidable was] [Decidable now] :
    (t.hwyArrival h was now).1.cands = t.cands.map (Cand.arrived h was now) := by
  rw [Timing.hwyArrival_eq, Timing.exportArrival_eq]
  exact t.arrived_cands h was now

theorem Timing.hwyArrival_counter (h : HwyId) (t : Timing) (was now : Bool) :
    (t.hwyArrival h was now).1.counter = t.counter := by
  rw [Timing.hwyArrival_eq, Timing.exportArrival_eq]
  exact t.arrived_counter h was now

/-! ### The port (R51 to R53, R55 to R57) -/

section Port

variable {online : Bool} {h : HwyId} {f : Frame} {p : Highway}

/-- A frame taken by a port that is not ALIGNED: SEARCHING or LOST (R52). -/
theorem Highway.arrive_unaligned (hen : p.align ≠ .disabled) (ha : p.align ≠ .aligned) :
    (p.arrive online h f).port =
      if f.length = p.slotCount then
        if p.correctRun + 1 < 2 then { p with correctRun := p.correctRun + 1 } else p.toAligned
      else { p with misframes := Config.satAdd Config.max16 p.misframes, correctRun := 0 } := by
  unfold Highway.arrive Config.alignRun
  have hrun : 2 ≤ p.correctRun + 1 ↔ ¬p.correctRun + 1 < 2 := Nat.not_lt.symm
  cases hal : p.align
  case disabled => exact absurd hal hen
  case aligned => exact absurd hal ha
  all_goals
    by_cases hgood : f.length = p.slotCount
    · by_cases hshort : p.correctRun + 1 < 2 <;> simp [hgood, hrun, hshort, hal]
    · simp [hgood]

/-- A frame taken by an ALIGNED port (R53, R56, R57). -/
theorem Highway.arrive_aligned (ha : p.align = .aligned) :
    (p.arrive online h f).port =
      if f.length = p.slotCount then ({ p with silence := 0, misRun := 0 }.queueFrame online h f).port
      else if p.misRun + 1 < 3 then
        { p with misframes := Config.satAdd Config.max16 p.misframes, silence := 0, misRun := p.misRun + 1 }
      else { p with misframes := Config.satAdd Config.max16 p.misframes }.unaligned.toSearching := by
  unfold Highway.arrive Config.misframeLimit
  have hrun : 3 ≤ p.misRun + 1 ↔ ¬p.misRun + 1 < 3 := Nat.not_lt.symm
  by_cases hgood : f.length = p.slotCount
  · simp [hgood, ha]
  · by_cases hfew : p.misRun + 1 < 3 <;> simp [hgood, hrun, hfew, ha]

/-- The slip buffer takes a correct frame (R56, R57, R60). -/
theorem Highway.queueFrame_port : (p.queueFrame online h f).port =
    if p.unread.length < 2 then { p with unread := p.unread ++ [f] }
    else { p with
      unread := p.unread.drop 1 ++ [f]
      deletes := Config.satAdd Config.max16 p.deletes
      latch := p.latch || online } := by
  unfold Highway.queueFrame
  rw [List.drop_one]
  split <;> rfl

/-- The second correct frame in a row ends LOST with HWY_RECOVERED (R52). -/
theorem Highway.arrive_recovers (ha : p.align = .lost) (hgood : f.length = p.slotCount) (hrun : 2 ≤ p.correctRun + 1) :
    .hwyRecovered h ∈ (p.arrive true h f).events := by
  simp [Highway.arrive, ha, hgood, Config.alignRun, hrun]

/-- A delete slip with the latch clear posts HWY_SLIP (R57, R60). -/
theorem Highway.arrive_slips (ha : p.align = .aligned) (hgood : f.length = p.slotCount) (hfull : 2 ≤ p.unread.length)
    (hlatch : p.latch = false) : .hwySlip h ∈ (p.arrive true h f).events := by
  simp [Highway.arrive, ha, hgood, Highway.queueFrame, Nat.not_lt.2 hfull, Highway.slipPosts, hlatch]

end Port

/-! ### The arrival -/

section Taken

variable (s : State) (h : HwyId) (f : Frame)

/-- The port has taken the frame, and its records have been handed on (R51). -/
def State.portTaken : State :=
  (s.setHwy h (s.hwys[h].arrive s.isOnline h f).port).takePosts
    ((s.hwys[h].arrive s.isOnline h f).events.flatMap fun e => eventPost s.isOnline s.now e)

/-- What the arrival is for the timing unit (R51). -/
def State.arrivalTiming : Timing × List TimOcc :=
  s.tim.hwyArrival h (s.aligned h) (decide ((s.hwys[h].arrive s.isOnline h f).port.align = .aligned))

/-- An arrival that is taken: the port and its records, then the timing unit and its records. -/
theorem State.arrival_taken (hen : s.hwys[h].align ≠ .disabled) :
    s.arrival h f true = (s.portTaken h f).withTiming (s.arrivalTiming h f) := by
  have htim : (s.portTaken h f).tim = s.tim := State.takePosts_tim _ _
  have harrival : s.arrival h f true = (s.portTaken h f).withTiming ((s.portTaken h f).tim.hwyArrival h (s.aligned h)
      (decide ((s.hwys[h].arrive s.isOnline h f).port.align = .aligned))) := if_pos ⟨hen, rfl⟩
  rw [harrival, htim]
  rfl

theorem State.portTaken_hwys :
    (s.portTaken h f).hwys = s.hwys.set h (s.hwys[h].arrive s.isOnline h f).port := State.takePosts_hwys _ _

theorem State.portTaken_cfg : (s.portTaken h f).cfg = s.cfg := State.takePosts_cfg _ _

/-- What records leave, a whole arrival leaves. -/
theorem State.arrival_records {β : Type} (g : State → β)
    (hoffer : ∀ (u : State) (n : RingId) (r : Record), u.cfg.busMaster = true → g (u.offer n r) = g u)
    (hport : ∀ p, g (s.setHwy h p) = g s) (htim : ∀ (u : State) (x : Timing), g { u with tim := x } = g u)
    (hb : s.cfg.busMaster = true) (hen : s.hwys[h].align ≠ .disabled) : g (s.arrival h f true) = g s := by
  have hb' : (s.portTaken h f).cfg.busMaster = true := by rw [State.portTaken_cfg]; exact hb
  calc g (s.arrival h f true)
      = g ((s.portTaken h f).withTiming (s.arrivalTiming h f)) := by rw [State.arrival_taken s h f hen]
    _ = g { s.portTaken h f with tim := (s.arrivalTiming h f).1 } :=
        State.takePosts_records g hoffer (timingPosts_isRecord _ _ _) _ hb'
    _ = g (s.portTaken h f) := htim _ _
    _ = g (s.setHwy h (s.hwys[h].arrive s.isOnline h f).port) :=
        State.takePosts_records g hoffer (eventPosts_isRecord _ _ _) _ hb
    _ = g s := hport _

/-- Every event of the port is handed to the event ring in ONLINE (R167, R168). -/
theorem State.handed_arrival (hw : Working s) (hen : s.hwys[h].align ≠ .disabled) {e : Event}
    (he : e ∈ (s.hwys[h].arrive true h f).events) :
    Handed s.comp.eventRing (.event e s.tim.counter) (s.arrival h f true) := by
  have honline : s.isOnline = true := decide_eq_true hw.online
  have hpost : Post.record none (.event e s.tim.counter) ∈
      (s.hwys[h].arrive s.isOnline h f).events.flatMap fun e => eventPost s.isOnline s.now e := by
    rw [honline]
    exact List.mem_flatMap.2 ⟨e, he, List.mem_singleton.2 rfl⟩
  have hport : Handed s.comp.eventRing (.event e s.tim.counter) (s.portTaken h f) :=
    handed_takePosts _ _ _ _ hw.linked hw.online (.inr ⟨rfl, hpost⟩)
  rw [State.arrival_taken s h f hen]
  exact Handed.grows (s := { s.portTaken h f with tim := (s.arrivalTiming h f).1 }) hport
    (grows_takePosts _ _ (by rw [State.portTaken_cfg]; exact hw.linked))

end Taken

/-- Settles O44: the port's own work, the timing unit's, and the records of both. -/
theorem frameArrivalTaken : Obligations.FrameArrivalTaken := by
  unfold Obligations.FrameArrivalTaken
  intro h f s hsettled
  have hnot : ∀ b, ¬(s.hwys[h].enabled ∧ b = true) → exec (.frameArrival h f b) s = .next s := by
    intro b hb
    have hstays : s.arrival h f b = s := if_neg hb
    show done (s.arrival h f b) = _
    rw [hstays, done, hsettled.finish]
  refine ⟨hnot false (by simp), fun hd => hnot true (fun e => e.1 hd), fun hen => ?_⟩
  have harrival := s.arrival_taken h f hen
  have htim : (s.arrival h f true).finish.tim = (s.arrivalTiming h f).1 := by
    rw [State.finish_tim, harrival, State.withTiming_tim]
  have hhwys : (s.arrival h f true).finish.hwys = s.hwys.set h (s.hwys[h].arrive s.isOnline h f).port := by
    rw [State.finish_hwys, harrival, State.withTiming_hwys, State.portTaken_hwys]
  have hport : (s.arrival h f true).finish.hwys[h] = (s.hwys[h].arrive s.isOnline h f).port := by
    rw [hhwys]
    exact Vector.getElem_set_self _
  refine ⟨(s.arrival h f true).finish, rfl, ?_, ?_, ?_, ?_, fun hinv => ?_, fun hw => ?_, fun hw _ => ?_⟩
  · rw [State.finish_map, State.arrival_map]
  · rw [htim]
    exact Timing.hwyArrival_counter _ _ _ _
  · rw [hhwys]
    congr 1
    by_cases ha : s.hwys[h].align = .aligned
    · rw [Highway.arrive_aligned ha, Highway.queueFrame_port]
      simp only [if_pos ha]
      rfl
    · rw [Highway.arrive_unaligned hen ha]
      simp only [if_neg ha]
      rfl
  · rw [htim, hport]
    exact Timing.hwyArrival_cands h s.tim _ _
  · rw [htim, hport]
    exact hwyArrival_of_inv hinv h _ _
  · have hdev := State.arrival_dev h f true s hw.linked
    rw [State.finish_online _ (by rw [hdev]; exact hw.online)]
    exact ⟨State.arrival_chans h f true s hw.linked,
      s.arrival_records h f State.mc (fun u n r hb => u.offer_mc n r hb) (fun _ => rfl) (fun _ _ => rfl) hw.linked hen,
      s.arrival_records h f State.proc (fun u n r hb => u.offer_proc n r hb) (fun _ => rfl) (fun _ _ => rfl) hw.linked hen,
      hdev⟩
  · have hdev := State.arrival_dev h f true s hw.linked
    rw [State.finish_online _ (by rw [hdev]; exact hw.online)]
    exact ⟨fun ha hgood hrun => s.handed_arrival h f hw hen (Highway.arrive_recovers ha hgood hrun),
      fun ha hgood hfull hlatch => s.handed_arrival h f hw hen (Highway.arrive_slips ha hgood hfull hlatch)⟩

end Sys2Proof.Machine
end

section
/-! PROOFS. O34: the highway ports at a device frame event. -/

set_option Elab.async false

namespace Sys2Proof.Machine

/-! ### The commands of an event -/

/-- Whether highway `h` falls silent at the event (R54). -/
theorem Highway.fallsSilent_iff (p : Highway) : p.fallsSilent = true ↔ p.align = .aligned ∧ 4 ≤ p.silence + 1 := by
  simp [Highway.fallsSilent, Config.silenceLimit]

/-- Whether highway `h` gets lost at the event (R54). -/
theorem Highway.getsLost_iff (p : Highway) : p.getsLost = true ↔ p.align = .searching ∧ 64 ≤ p.age + 1 := by
  simp [Highway.getsLost, Config.searchLimit]

/-- Each of the three rows, where its occurrence is due, is the whole event (R54). -/
theorem exec_portEvent {c : Instr} {o : FrameOrder} {s : State}
    (hrow : c = .deviceFrameEvent o ∨
      (∃ h : HwyId, c = .hwySilence h o ∧ s.hwys[h].align = .aligned ∧ 4 ≤ s.hwys[h].silence + 1) ∨
      (∃ h : HwyId, c = .hwyLost h o ∧ s.hwys[h].align = .searching ∧ 64 ≤ s.hwys[h].age + 1)) :
    exec c s = .next (s.frameEvent o).finish := by
  rcases hrow with rfl | ⟨h, rfl, hdue⟩ | ⟨h, rfl, hdue⟩
  · rfl
  · have hevent : s.silenceEvent h o = s.frameEvent o := if_pos ((Highway.fallsSilent_iff _).2 hdue)
    exact congrArg done hevent
  · have hevent : s.lostEvent h o = s.frameEvent o := if_pos ((Highway.getsLost_iff _).2 hdue)
    exact congrArg done hevent

/-! ### One port (R54, R56, R58) -/

section Port

variable (online : Bool) (h : HwyId) (p : Highway)

/-- The read frame of an ALIGNED port takes the oldest unread frame, or repeats the last one: a slip (R56, R58). -/
theorem Highway.readAligned_port : (p.readAligned online h).port =
    match p.unread, p.last with
    | f :: rest, _ => { p with unread := rest, last := some f }
    | [], some _ => { p with repeats := Config.satAdd Config.max16 p.repeats, latch := p.latch || online }
    | [], none => p := by
  unfold Highway.readAligned
  cases p.unread with
  | cons f rest => rfl
  | nil => cases p.last <;> rfl

/-- The port after an event, by its alignment state (R54, R55, R58). -/
theorem Highway.frameTick_port : (p.frameTick online h).port =
    match p.align with
    | .disabled => p
    | .lost => p
    | .searching => if p.age + 1 < 64 then { p with age := p.age + 1 } else { p with align := .lost, age := p.age + 1 }
    | .aligned =>
      if 4 ≤ p.silence + 1 then p.unaligned.toSearching
      else ({ p with silence := p.silence + 1 }.readAligned online h).port := by
  unfold Highway.frameTick
  cases ha : p.align
  case disabled => rfl
  case lost => rfl
  case searching =>
    by_cases hage : p.age + 1 < 64
    · have hdue : p.getsLost = false :=
        Bool.eq_false_iff.2 fun e => Nat.not_le.2 hage ((Highway.getsLost_iff p).1 e).2
      simp [hage, hdue]
    · have hdue : p.getsLost = true := (Highway.getsLost_iff p).2 ⟨ha, Nat.not_lt.1 hage⟩
      simp [hage, hdue]
  case aligned =>
    by_cases hs : 4 ≤ p.silence + 1
    · have hdue : p.fallsSilent = true := (Highway.fallsSilent_iff p).2 ⟨ha, hs⟩
      simp [hs, hdue]
    · have hdue : p.fallsSilent = false := Bool.eq_false_iff.2 fun e => hs ((Highway.fallsSilent_iff p).1 e).2
      simp [hs, hdue]

/-- A port's receive side takes no note of what its transmit side sends. -/
theorem Highway.frameTick_tx (x : Option Frame) :
    ({ p with tx := x }.frameTick online h).port = { (p.frameTick online h).port with tx := x } := by
  obtain ⟨align, _, _, _, _, _, silence, age, unread, last⟩ := p
  simp only [Highway.frameTick_port, Highway.readAligned_port]
  cases align
  case aligned =>
    by_cases hs : 4 ≤ silence + 1
    · simp only [hs, if_true]; rfl
    · simp only [hs, if_false]
      cases unread with
      | cons f rest => rfl
      | nil => cases last <;> rfl
  case searching => by_cases hage : age + 1 < 64 <;> simp only [hage, if_true, if_false]
  all_goals rfl

/-- A search age of 64 posts HWY_LOST (R54). -/
theorem Highway.frameTick_lost (ha : p.align = .searching) (hage : 64 ≤ p.age + 1) :
    .hwyLost h ∈ (p.frameTick true h).events := by
  simp [Highway.frameTick, ha, (Highway.getsLost_iff p).2 ⟨ha, hage⟩]

/-- A repeat slip with the latch clear posts HWY_SLIP (R56, R60). -/
theorem Highway.frameTick_slips (ha : p.align = .aligned) (hs : p.silence + 1 < 4) (hunread : p.unread = [])
    (hlast : p.last ≠ none) (hlatch : p.latch = false) : .hwySlip h ∈ (p.frameTick true h).events := by
  have hdue : p.fallsSilent = false :=
    Bool.eq_false_iff.2 fun e => Nat.not_le.2 hs ((Highway.fallsSilent_iff p).1 e).2
  obtain ⟨f, hf⟩ := Option.ne_none_iff_exists'.1 hlast
  simp [Highway.frameTick, ha, hdue, Highway.readAligned, hunread, hf, Highway.slipPosts, hlatch]

end Port

/-! ### The ports at the event -/

/-- A port at the end of an event, but for what it sends (R54, R58). -/
theorem State.runEvent_port (o : FrameOrder) (s : State) (h : HwyId) : (s.runEvent o).hwys[h] =
    { (s.hwys[h].frameTick s.isOnline h).port with tx := (s.runEvent o).hwys[h].tx } := by
  have hhwys : (s.runEvent o).hwys = (s.switched o).hwys := by
    rw [State.runEvent_eq, State.takePosts_hwys, State.moved, State.moveChans_hwys]
  have hswitched : (s.switched o).hwys[h] =
      { (s.applied o).hwys[h] with tx := (s.applied o).sendFrame s.reads h } := by
    simp [State.switched, State.sendFrames]
  rw [hhwys, hswitched, State.applied_hwy]

/-- The ports do their work at the next device frame event in ONLINE: it is not the STOP clear event (R60, R189). -/
abbrev State.ticksOnline (s : State) : Bool := decide (s.dev.st = .online ∧ NoStopClear s)

/-- At the STOP clear event the device is in STOPPING when the ports do their work; at any other it is as before
(R60, R189). -/
theorem State.beginEvent_isOnline (s : State) : s.beginEvent.isOnline = s.ticksOnline := by
  cases hdue : s.stopClearDue
  · have hno : s.dev.st = .online → NoStopClear s := fun hon => not_not.1 fun hc =>
      Bool.false_ne_true (hdue.symm.trans ((State.stopClearDue_iff hon).2 hc))
    rw [State.beginEvent_plain hdue]
    exact decide_eq_decide.2 ⟨fun hon => ⟨hon, hno hon⟩, fun hon => hon.1⟩
  · obtain ⟨-, hstop⟩ := State.stopClearDue_eq_true.1 hdue
    have hdev : s.advanceCounter.stopClear.dev.st = .stopping := by rw [State.stopClear_eq, actAll_dev]; rfl
    rw [State.beginEvent_clears hdue]
    exact decide_eq_decide.2 ⟨fun hon => DeviceState.noConfusion (hdev.symm.trans hon), fun hon => absurd hstop hon.2⟩

/-- A port at the end of a device frame event: what it receives, by its state before, beside what it sends (R54, R58). -/
theorem State.frameEvent_port (o : FrameOrder) (s : State) (h : HwyId) : (s.frameEvent o).hwys[h] =
    ({ s.hwys[h] with tx := (s.frameEvent o).hwys[h].tx }.frameTick s.ticksOnline h).port := by
  have hport := State.runEvent_port o s.beginEvent h
  rw [State.beginEvent_isOnline, State.beginEvent_hwys] at hport
  exact hport.trans (Highway.frameTick_tx _ _ _ _).symm

/-- A port's event is handed to the event ring (R167, R168). -/
theorem State.handed_portEvent (o : FrameOrder) {s : State} (hw : Working s) (hno : NoStopClear s) {h : HwyId} {e : Event}
    (he : e ∈ (s.hwys[h].frameTick true h).events) :
    Handed s.comp.eventRing (.event e (s.tim.counter + 1)) (s.frameEvent o) := by
  have honline : s.isOnline = true := decide_eq_true hw.online
  have htick : s.hwys[h].frameTick true h ∈ s.advanceCounter.hwyTicks.toList := by
    rw [Vector.mem_toList_iff, ← honline]
    exact Vector.mem_ofFn.2 ⟨h, rfl⟩
  have hgroup := List.mem_map_of_mem (f := fun k : HwyTick =>
    k.events.flatMap fun e => eventPost s.isOnline s.advanceCounter.now e) htick
  refine State.handed_frameEvent o hw hno
    (List.mem_append_left _ (List.mem_append_left _ (List.mem_append_left _ hgroup))) ?_
  rw [honline]
  exact List.mem_flatMap.2 ⟨e, he, List.mem_singleton.2 rfl⟩

/-! ### What an event without an apply leaves -/

section Plain

variable (o : FrameOrder) {s : State}

/-- Without an apply every record of the event is one for a completion ring (R166). -/
theorem State.merged_isRecord (hfl : s.mc.inFlight = false) : ∀ p ∈ merge o.picks (s.eventGroups o), p.IsRecord := by
  refine merge_forall fun g hg => ?_
  have happly : s.applyPosts o = [] := if_neg (Bool.eq_false_iff.1 hfl)
  rw [State.eventGroups, happly] at hg
  rcases List.mem_append.1 hg with hg | hg
  · rcases List.mem_append.1 hg with hg | hg
    · rcases List.mem_append.1 hg with hg | hg
      · obtain ⟨k, -, rfl⟩ := List.mem_map.1 hg
        exact eventPosts_isRecord _ _ _
      · rw [List.mem_singleton.1 hg]
        exact timingPosts_isRecord _ _ _
    · rw [List.mem_singleton.1 hg]
      exact fun p hp => absurd hp List.not_mem_nil
  · rw [State.moved] at hg
    exact State.moveChans_isRecord _ _ _ g hg

/-- What neither records nor the channels' work touch stands through an event without an apply. -/
theorem State.runEvent_records {β : Type} (f : State → β)
    (hoffer : ∀ (u : State) (n : RingId) (r : Record), u.cfg.busMaster = true → f (u.offer n r) = f u)
    (hmoved : f (s.moved o).1 = f (s.switched o)) (hticked : f ((s.ticked o).sendFrames s.reads) = f s)
    (hfl : s.mc.inFlight = false) (hb : s.cfg.busMaster = true) : f (s.runEvent o) = f s := by
  rw [State.runEvent_eq, State.takePosts_records f hoffer (State.merged_isRecord o hfl) _
    (by rw [State.moved_cfg]; exact hb), hmoved, State.switched, State.applied_of_not_inFlight o hfl, hticked]

/-- A device frame event that is no apply and no STOP clear event leaves the map, the staging set, the device, the processor
and the channels that are neither RUNNING nor STARVED (R33, R114). -/
theorem State.frameEvent_plain (hw : Working s) (hno : NoStopClear s) (hfl : s.mc.inFlight = false) :
    (s.frameEvent o).map = s.map ∧ (s.frameEvent o).mc = s.mc ∧ (s.frameEvent o).dev = s.dev ∧
      (s.frameEvent o).cfg = s.cfg ∧ (s.frameEvent o).proc = s.proc ∧
      ∀ k : ChanId, s.chans[k].st ≠ .running → s.chans[k].st ≠ .starved → (s.frameEvent o).chans[k] = s.chans[k] := by
  have hdue : s.stopClearDue = false :=
    Bool.eq_false_iff.2 fun e => (State.stopClearDue_iff hw.online).1 e hno
  refine ⟨State.frameEvent_map_plain o hdue hfl, ?_⟩
  rw [(State.exec_frameEvent o hw hno).1]
  refine ⟨?_, State.runEvent_dev o s.advanceCounter hw.linked, State.runEvent_cfg o _, ?_, fun k hrun hstarved => ?_⟩
  · exact State.runEvent_records o (s := s.advanceCounter) State.mc (fun u n r hb => u.offer_mc n r hb)
      (State.moveChans_mc _ _ _) (State.sendFrames_mc _ _) hfl hw.linked
  · exact State.runEvent_records o (s := s.advanceCounter) State.proc (fun u n r hb => u.offer_proc n r hb)
      (State.moveChans_proc _ _ _) (State.sendFrames_proc _ _) hfl hw.linked
  · have happlied : s.advanceCounter.applied o = s.advanceCounter.ticked o := State.applied_of_not_inFlight o hfl
    have hstill : (s.advanceCounter.applied o).chans[k].moves = false := by
      rw [happlied]
      exact Bool.or_eq_false_iff.2 ⟨decide_eq_false hrun, decide_eq_false hstarved⟩
    rw [(State.runEvent_stands o (s := s.advanceCounter) hw.linked hstill).chan, happlied]
    rfl

end Plain

/-- Settles O34: the rows are the whole event, and each port is its tick. -/
theorem portsAtFrameEvent : Obligations.PortsAtFrameEvent := by
  unfold Obligations.PortsAtFrameEvent
  intro c o s hrow
  refine ⟨(s.frameEvent o).finish, exec_portEvent hrow, ?_, fun h => ?_, fun hw hno hfl => ?_, fun hw hno _ h => ?_⟩
  · rw [State.finish_tim, State.frameEvent_counter]
  · rw [State.finish_hwys]
    refine (s.frameEvent_port o h).trans ?_
    generalize (s.frameEvent o).hwys[h].tx = x
    generalize s.hwys[h] = p
    obtain ⟨align, _, _, _, _, _, _, _, unread, last⟩ := p
    rw [Highway.frameTick_port, Highway.readAligned_port]
    cases align
    case aligned =>
      cases unread with
      | cons f rest => rfl
      | nil => cases last <;> rfl
    all_goals rfl
  · have hplain := State.frameEvent_plain o hw hno hfl
    rw [State.finish_online _ (by rw [hplain.2.2.1]; exact hw.online)]
    exact hplain
  · have hdev : (s.frameEvent o).dev = s.dev := by
      rw [(State.exec_frameEvent o hw hno).1]
      exact State.runEvent_dev o s.advanceCounter hw.linked
    rw [State.finish_online _ (by rw [hdev]; exact hw.online)]
    exact ⟨fun ha hage => State.handed_portEvent o hw hno (Highway.frameTick_lost h _ ha hage),
      fun ha hs hunread hlast hlatch =>
        State.handed_portEvent o hw hno (Highway.frameTick_slips h _ ha hs hunread hlast hlatch)⟩

end Sys2Proof.Machine
end

section
/-! PROOFS. O60: what a channel's steps do to its state and slots, in whatever state the device is. -/

set_option Elab.async false

namespace Sys2Proof.Machine

/-! ### A channel against the device -/

/-- A channel is as the device state leaves it, and holds no slots when it is CLOSED or CLOSING (R68, R83, R90). -/
structure Chan.Fits (d : DeviceState) (ch : Chan) : Prop where
  allowed : ch.st.allowed d = true
  slots : ch.st = .closed ∨ ch.st = .closing → ch.slots = []

/-- The states in which a channel has a binding (R68, R72). -/
abbrev ChanState.Open (st : ChanState) : Prop := st = .priming ∨ st = .running ∨ st = .starved

section Fits

variable {d : DeviceState} {ch : Chan} {env : ChanEnv}

theorem Chan.Fits.of_same {ch' : Chan} (h : ch.Fits d) (hst : ch'.st = ch.st) (hslots : ch'.slots = ch.slots) :
    ch'.Fits d :=
  ⟨by rw [hst]; exact h.allowed, by rw [hst, hslots]; exact h.slots⟩

/-- ONLINE leaves every channel state (R186). -/
theorem Chan.Fits.online (h : ch.Fits d) : ch.Fits .online := ⟨rfl, h.slots⟩

/-- Every device state leaves a channel CLOSED (R186). -/
theorem Chan.fits_closed (d : DeviceState) (hst : ch.st = .closed) (hslots : ch.slots = []) : ch.Fits d :=
  ⟨by rw [hst]; cases d <;> rfl, fun _ => hslots⟩

theorem Chan.fits_online (h1 : ch.st ≠ .closed) (h2 : ch.st ≠ .closing) : ch.Fits .online :=
  ⟨rfl, fun h => h.elim (absurd · h1) (absurd · h2)⟩

/-- Only an ONLINE device has open channels (R88, R90, R91). -/
theorem Chan.Fits.device_of_open (h : ch.Fits d) (hopen : ch.st.Open) : d = .online := by
  have hallowed := h.allowed
  cases d
  case online => rfl
  all_goals rcases hopen with e | e | e <;> rw [e] at hallowed <;> cases hallowed

/-! ### Failures and the issue of operations -/

theorem Chan.fault_fits (ch : Chan) (env : ChanEnv) (k : ChanOpKind) (timeout : Bool) :
    (ch.fault env k timeout).ch.Fits .online :=
  Chan.fits_online (fun e => ChanState.noConfusion e) (fun e => ChanState.noConfusion e)

theorem Chan.Fits.failure (h : ch.Fits d) (k : Option ChanOpKind) (timeout : Bool) :
    (ch.failure env k timeout).ch.Fits d := by
  unfold Chan.failure
  cases hst : ch.st
  case closing => exact h.of_same rfl rfl
  case closed => exact h
  case faulted => exact h
  all_goals
    obtain rfl := h.device_of_open (by simp [ChanState.Open, hst])
    cases k
    · exact h
    · exact ch.fault_fits env _ _

theorem Chan.state_of_canClose (h : ch.canClose env = true) : ch.st = .closing := by
  simp only [Chan.canClose, Bool.and_eq_true, decide_eq_true_eq] at h
  exact h.1.1.1

theorem Chan.Fits.finishClose (h : ch.Fits d) (hst : ch.st = .closing) : (ch.finishClose env).ch.Fits d :=
  Chan.fits_closed d rfl (h.slots (.inr hst))

theorem Chan.Fits.unsent (h : ch.Fits d) (k : OpKind) : (ch.unsent env k).ch.Fits d := by
  have hfailed : (ch.failure env k.cause? false).ch.Fits d := h.failure _ _
  unfold Chan.unsent
  dsimp only
  split
  · next hclose => exact hfailed.finishClose (env := env) (Chan.state_of_canClose hclose)
  · exact hfailed

theorem Chan.Fits.issue (h : ch.Fits d) (r : OpReq) {rest : ChanOut} (hrest : rest.ch.Fits d) :
    (ch.issue env r rest).ch.Fits d := by
  unfold Chan.issue
  split
  · exact hrest
  · exact h.unsent _

theorem Chan.Fits.issue_only (h : ch.Fits d) (r : OpReq) : (ch.issue env r ch.only).ch.Fits d := h.issue r h

theorem Chan.Fits.issue? (h : ch.Fits d) (r : Option OpReq) {rest : ChanOut} (hrest : rest.ch.Fits d) :
    (ch.issue? env r rest).ch.Fits d := by
  cases r
  · exact hrest
  · exact h.issue _ hrest

/-! ### What a channel goes on to by itself -/

theorem Chan.Fits.issueWriteBack (h : ch.Fits d) : (ch.issueWriteBack env).ch.Fits d := by
  unfold Chan.issueWriteBack
  split
  · exact h.issue _ h
  · exact h

theorem Chan.Fits.issuePriming (h : ch.Fits d) : (ch.issuePriming env).ch.Fits d := h.issue _ h

theorem Chan.Fits.beginWalk (h : ch.Fits d) : (ch.beginWalk env).ch.Fits d := by
  have hwalk : ({ ch with walk := .walking 0 } : Chan).Fits d := h.of_same rfl rfl
  exact hwalk.issue _ hwalk

theorem Chan.Fits.pump (h : ch.Fits d) : (ch.pump env).ch.Fits d := by
  unfold Chan.pump
  split_ifs with hwrite hprime hwalk hclose
  · exact h.issueWriteBack
  · exact h.issuePriming
  · exact h.beginWalk
  · exact h.finishClose (Chan.state_of_canClose hclose)
  · exact h

theorem Chan.Fits.issueDeferred (h : ch.Fits d) : (ch.issueDeferred env).ch.Fits d := by
  have hissued : ({ ch with deferred := false } : Chan).Fits d := h.of_same rfl rfl
  unfold Chan.issueDeferred
  split
  · exact hissued.issue _ hissued
  · exact h

/-! ### The device frame event -/

theorem Chan.enterStarved_fits (ch : Chan) (env : ChanEnv) : (ch.enterStarved env).1.Fits .online := by
  unfold Chan.enterStarved
  split <;> exact Chan.fits_online (fun e => ChanState.noConfusion e) (fun e => ChanState.noConfusion e)

theorem Chan.Fits.endDesc (h : ch.Fits .online) (cur : Current) : (ch.endDesc env cur).ch.Fits .online := by
  unfold Chan.endDesc
  dsimp only
  split
  · split
    · split
      · exact h.of_same rfl rfl
      · refine Chan.Fits.issue_only ?_ _
        exact h.of_same rfl rfl
    · exact Chan.enterStarved_fits _ env
  · exact Chan.enterStarved_fits _ env
  · exact Chan.enterStarved_fits _ env

theorem Chan.Fits.afterFrame (h : ch.Fits .online) (cur : Current) : (ch.afterFrame env cur).ch.Fits .online := by
  unfold Chan.afterFrame
  split
  · exact h.endDesc cur
  · dsimp only
    split
    · exact h.of_same rfl rfl
    · refine Chan.Fits.issue_only ?_ _
      exact h.of_same rfl rfl

theorem Chan.Fits.moveFrame (h : ch.Fits .online) (rf : ReadFrame) (cur : Current) :
    (ch.moveFrame env rf cur).ch.Fits .online := by
  unfold Chan.moveFrame
  dsimp only
  split
  · refine Chan.Fits.issue ?_ _ (Chan.Fits.issue? ?_ _ (Chan.Fits.afterFrame ?_ _)) <;> exact h.of_same rfl rfl
  · refine Chan.Fits.issue? ?_ _ (Chan.Fits.afterFrame ?_ _) <;> exact h.of_same rfl rfl

theorem Chan.Fits.frame (h : ch.Fits d) (rf : ReadFrame) : (ch.frame env rf).ch.Fits d := by
  unfold Chan.frame
  cases hst : ch.st
  case running =>
    obtain rfl := h.device_of_open (.inr (.inl hst))
    dsimp only
    split
    · exact h.moveFrame rf _
    · exact h
  case starved =>
    have hcounted : ({ ch with starved := Config.satAdd Config.max32 ch.starved } : Chan).Fits d := h.of_same rfl rfl
    exact hcounted.issue? _ hcounted
  all_goals exact h

/-! ### The apply and the STOP clear event -/

/-- A closing leaves a channel as both ONLINE and STOPPING have it (R83, R90). -/
theorem Chan.toClosing_fits (ch : Chan) (hd : d = .online ∨ d = .stopping) : ch.toClosing.ch.Fits d :=
  ⟨by rcases hd with rfl | rfl <;> rfl, fun _ => rfl⟩

/-- The close of a channel that has one to begin (R83, R87, R90). -/
theorem Chan.close_fits (hclosable : ch.st.closable = true) (hd : d = .online ∨ d = .stopping) :
    (ch.close env).ch.Fits d := by
  unfold Chan.close
  cases hst : ch.st
  case closed => rw [hst] at hclosable; cases hclosable
  case closing => rw [hst] at hclosable; cases hclosable
  case faulted => exact Chan.fits_closed d rfl rfl
  all_goals exact ch.toClosing_fits hd

theorem Chan.Fits.close (h : ch.Fits .online) : (ch.close env).ch.Fits .online := by
  by_cases hclosable : ch.st.closable = true
  · exact Chan.close_fits hclosable (.inl rfl)
  · unfold Chan.close
    cases hst : ch.st
    case closed => exact h
    case closing => exact h
    all_goals exact absurd (by rw [hst]; rfl) hclosable

theorem Chan.toPriming_fits (ch : Chan) (x : HwyId) (l : List Nat) : (ch.toPriming x l).ch.Fits .online :=
  Chan.fits_online (fun e => ChanState.noConfusion e) (fun e => ChanState.noConfusion e)

theorem Chan.Fits.applyEntry (h : ch.Fits .online) (e : ChanEntry) : (ch.applyEntry e env).ch.Fits .online := by
  cases e with
  | openEntry p => exact Chan.fits_online (fun e => ChanState.noConfusion e) (fun e => ChanState.noConfusion e)
  | closeEntry => exact h.close
  | reslotEntry x l =>
    unfold Chan.applyEntry Chan.applyReslot
    cases hst : ch.st
    case closed => exact h
    case closing => exact h
    case faulted =>
      exact Chan.fits_online (fun e => ChanState.noConfusion e) (fun e => ChanState.noConfusion e)
    all_goals exact ch.toPriming_fits x l

/-! ### The ends of operations -/

theorem Chan.takeDesc_fits (ch : Chan) (env : ChanEnv) (x : Desc) : (ch.takeDesc env x).ch.Fits .online := by
  unfold Chan.takeDesc
  dsimp only
  split
  · exact Chan.fits_online (fun e => ChanState.noConfusion e) (fun e => ChanState.noConfusion e)
  · refine Chan.Fits.issue_only ?_ _
    exact Chan.fits_online (fun e => ChanState.noConfusion e) (fun e => ChanState.noConfusion e)

theorem Chan.Fits.queueBad (h : ch.Fits d) (x : Desc) : (ch.queueBad x).ch.Fits d := h.of_same rfl rfl

theorem Chan.Fits.primingEnd (h : ch.Fits .online) (got : Option Desc) : (ch.primingEnd env got).ch.Fits .online := by
  unfold Chan.primingEnd
  split
  · split
    · exact ch.takeDesc_fits env _
    · exact h.queueBad _
  · exact ch.enterStarved_fits env

theorem Chan.Fits.starvedEnd (h : ch.Fits .online) (got : Option Desc) : (ch.starvedEnd env got).ch.Fits .online := by
  unfold Chan.starvedEnd
  split
  · split
    · exact ch.takeDesc_fits env _
    · exact h.queueBad _
  · exact h

theorem Chan.Fits.descEnd (h : ch.Fits d) (i : Nat) (bytes : List Byte) : (ch.descEnd env i bytes).ch.Fits d := by
  unfold Chan.descEnd
  cases hst : ch.st
  case priming =>
    obtain rfl := h.device_of_open (.inl hst)
    exact h.primingEnd _
  case starved =>
    obtain rfl := h.device_of_open (.inr (.inr hst))
    exact h.starvedEnd _
  case running => exact h.of_same rfl rfl
  all_goals exact h

theorem Chan.Fits.dataEnd (h : ch.Fits d) (seq : Nat) (bytes : List Byte) : (ch.dataEnd seq bytes).ch.Fits d := by
  unfold Chan.dataEnd
  split
  · exact h.of_same rfl rfl
  · exact h

theorem Chan.Fits.dataAccepted (h : ch.Fits d) (i : Nat) : (ch.dataAccepted i).ch.Fits d := by
  unfold Chan.dataAccepted
  split
  · split <;> exact h.of_same rfl rfl
  · exact h.of_same rfl rfl

theorem Chan.Fits.wroteBack (h : ch.Fits d) (e : WbEntry) : (ch.wroteBack env e).ch.Fits d := by
  have hwritten : ({ ch with queue := ch.queue.tail } : Chan).advance.Fits d := h.of_same rfl rfl
  unfold Chan.wroteBack
  dsimp only
  split
  · exact hwritten.issueDeferred
  · exact hwritten

theorem Chan.Fits.flushed (h : ch.Fits d) (e : WbEntry) : (ch.flushed env e).ch.Fits d := by
  have hwalk : ∀ w, ({ ch.advance with walk := w } : Chan).Fits d := fun _ => h.of_same rfl rfl
  unfold Chan.flushed
  dsimp only
  split
  · split
    · exact hwalk _
    · exact (hwalk _).issue _ (hwalk _)
  · exact h.of_same rfl rfl
  · exact h.of_same rfl rfl

theorem Chan.Fits.writeBackAccepted (h : ch.Fits d) (e : WbEntry) (flush : Bool) :
    (ch.writeBackAccepted env e flush).ch.Fits d := by
  unfold Chan.writeBackAccepted
  split
  · exact h.flushed e
  · exact h.wroteBack e

theorem Chan.Fits.flushEnd (h : ch.Fits d) (i : Nat) (bytes : List Byte) : (ch.flushEnd env i bytes).ch.Fits d := by
  unfold Chan.flushEnd
  split
  · exact h.issue _ h
  · exact h.of_same rfl rfl

/-- Entry to HALTED leaves a channel CLOSED or FAULTED (R88, R191). -/
theorem Chan.Fits.halt (h : ch.Fits d) : ch.halt.Fits .halted := by
  unfold Chan.halt
  cases hst : ch.st
  case closed => exact Chan.fits_closed _ hst (h.slots (.inl hst))
  all_goals exact ⟨by simp [Chan.toFaulted, ChanState.allowed, hst], by simp [Chan.toFaulted, hst]⟩

end Fits

end Sys2Proof.Machine
end

section
/-! PROOFS. O60: the device and its channels through records, channels' steps and device frame events. -/

set_option Elab.async false

namespace Sys2Proof.Machine

/-- Every channel is as the device state leaves it. -/
def ChansFit (d : DeviceState) (s : State) : Prop := ∀ c : ChanId, s.chans[c].Fits d

theorem DeviceInv.chansFit {s : State} (h : DeviceInv s) : ChansFit s.dev.st s := by
  obtain ⟨-, -, -, hchans⟩ := h
  exact fun c => ⟨(hchans c).1, (hchans c).2⟩

/-- Outside ONLINE the processor is STOPPED (R145, R182). -/
theorem DeviceInv.online {s : State} (h : DeviceInv s) (hst : s.proc.st ≠ .stopped) : s.dev.st = .online := by
  obtain ⟨hoff, -⟩ := h
  exact by_contra fun hne => hst (hoff hne).1

/-- An ONLINE device leaves everything else to the processor and the channels. -/
theorem deviceInv_online {s : State} (honline : s.dev.st = .online) (hexec : s.proc.st ≠ .executing)
    (hhand : s.proc.hand ≠ none → s.proc.st = .waitingFrame ∨ s.proc.st = .waitingMemory)
    (hfit : ChansFit .online s) : DeviceInv s :=
  ⟨fun h => absurd honline h, hexec, hhand, fun c => by rw [honline]; exact ⟨(hfit c).allowed, (hfit c).slots⟩⟩

/-- With the processor STOPPED, no STOP pending and no COMMIT in flight any device state stands. -/
theorem deviceInv_stopped {s : State} (hst : s.proc.st = .stopped) (hhand : s.proc.hand = none)
    (hsp : s.dev.stopPending = false) (hfl : s.mc.inFlight = false) (hfit : ChansFit s.dev.st s) : DeviceInv s :=
  ⟨fun _ => ⟨hst, hsp, hfl⟩, by rw [hst]; decide, fun h => absurd hhand h, fun c => ⟨(hfit c).allowed, (hfit c).slots⟩⟩

/-- A STOPPED processor has nothing in hand (R145). -/
theorem DeviceInv.hand_of_stopped {s : State} (h : DeviceInv s) (hst : s.proc.st = .stopped) : s.proc.hand = none := by
  obtain ⟨-, -, hhand, -⟩ := h
  by_contra hsome
  rcases hhand hsome with e | e <;> rw [hst] at e <;> cases e

/-! ### Channels' steps -/

section Steps

variable {d : DeviceState} {s : State}

theorem ChansFit.set (h : ChansFit d s) {t : State} {c : ChanId} {ch : Chan} (hch : ch.Fits d)
    (ht : t.chans = s.chans.set c ch) : ChansFit d t := by
  intro k
  rw [ht]
  by_cases hk : k = c
  · subst hk
    simpa using hch
  · rw [getElem_set_other hk]
    exact h k

theorem ChansFit.chanStep (h : ChansFit d s) (c : ChanId) {o : ChanOut} (ho : o.ch.Fits d) :
    ChansFit d (s.chanStep c o) :=
  h.set ho (State.chanStep_chans c o s)

theorem ChansFit.chanPump (h : ChansFit d s) (c : ChanId) : ChansFit d (s.chanPump c).1 := h.chanStep c (h c).pump

theorem ChansFit.chanAct (h : ChansFit d s) (c : ChanId) {o : ChanOut} (ho : o.ch.Fits d) :
    ChansFit d (s.chanAct c o).1 :=
  (h.chanStep c ho).chanPump c

theorem ChansFit.actAll {α : Type} {key : α → ChanId} {out : α → Chan → ChanEnv → ChanOut}
    (hout : ∀ a ch env, ch.Fits d → (out a ch env).ch.Fits d) (as : List α) (h : ChansFit d s) :
    ChansFit d (actAll key out as s) := by
  induction as generalizing s with
  | nil => exact h
  | cons a as ih =>
    rw [actAll_cons]
    exact ih (h.chanAct (key a) (hout a _ _ (h (key a))))

end Steps

/-! ### Records -/

/-- From `s` to `t` the device, the request processor, the staging set and the channels stand. -/
structure DeviceStands (s t : State) : Prop where
  dev : t.dev = s.dev
  proc : t.proc = s.proc
  mc : t.mc = s.mc
  chans : t.chans = s.chans

/-- Entry to HALTED, whatever came before (R191). -/
theorem ChansFit.halt {d : DeviceState} {s : State} (h : ChansFit d s) (k : Cause) : DeviceInv (s.halt k) := by
  refine deviceInv_stopped rfl rfl rfl rfl fun c => ?_
  show (s.chans.map Chan.halt)[c].Fits .halted
  simpa using (h c).halt

/-- A record placed leaves the device, or halts it (R178, R195). -/
theorem State.place_device (n : RingId) (r : Record) (s : State) :
    DeviceStands s (s.place n r) ∨ ∀ d, ChansFit d s → DeviceInv (s.place n r) := by
  by_cases hb : s.cfg.busMaster = true
  · exact .inl ⟨State.place_dev n r s hb, State.place_proc n r s hb, State.place_mc n r s hb, State.place_chans n r s hb⟩
  · refine .inr fun d h => ?_
    have hset : ChansFit d { s with comp := { s.comp with rings := s.comp.rings.set n s.comp.rings[n].placed } } := h
    rw [State.place_unsent n r s (Bool.eq_false_iff.2 hb), ← State.halt_eq]
    exact hset.halt _

theorem State.offer_device (n : RingId) (r : Record) (s : State) :
    DeviceStands s (s.offer n r) ∨ ∀ d, ChansFit d s → DeviceInv (s.offer n r) := by
  unfold State.offer
  split_ifs
  · exact .inl ⟨rfl, rfl, rfl, rfl⟩
  · exact s.place_device n r
  · exact .inl ⟨rfl, rfl, rfl, rfl⟩

/-- The device is ONLINE and its channels are as it leaves them, whatever the request processor is at. -/
structure Serving (s : State) : Prop where
  online : s.dev.st = .online
  fits : ChansFit .online s

/-- A request is in hand, or what it did has halted the device (R148, R191). -/
def Completing (s : State) : Prop := Serving s ∨ DeviceInv s

theorem DeviceInv.of_stands {s t : State} (h : DeviceInv s) (ht : DeviceStands s t) : DeviceInv t := by
  unfold DeviceInv at h ⊢
  rw [ht.dev, ht.proc, ht.mc, ht.chans]
  exact h

theorem Serving.of_stands {s t : State} (h : Serving s) (ht : DeviceStands s t) : Serving t :=
  ⟨by rw [ht.dev]; exact h.online, fun c => by rw [ht.chans]; exact h.fits c⟩

theorem DeviceInv.serving {s : State} (h : DeviceInv s) (honline : s.dev.st = .online) : Serving s :=
  ⟨honline, by rw [← honline]; exact h.chansFit⟩

theorem Completing.serving {s : State} (h : Completing s) (honline : s.dev.st = .online) : Serving s :=
  h.elim id fun h => h.serving honline

theorem Completing.of_offline {s : State} (h : Completing s) (hoff : s.dev.st ≠ .online) : DeviceInv s :=
  h.resolve_left fun h => hoff h.online

theorem DeviceInv.place {s : State} (h : DeviceInv s) (n : RingId) (r : Record) : DeviceInv (s.place n r) :=
  (s.place_device n r).elim h.of_stands fun hhalt => hhalt _ h.chansFit

theorem DeviceInv.offer {s : State} (h : DeviceInv s) (n : RingId) (r : Record) : DeviceInv (s.offer n r) :=
  (s.offer_device n r).elim h.of_stands fun hhalt => hhalt _ h.chansFit

theorem Completing.offer {s : State} (h : Completing s) (n : RingId) (r : Record) : Completing (s.offer n r) :=
  h.elim
    (fun h => (s.offer_device n r).imp h.of_stands fun hhalt => hhalt _ h.fits)
    fun h => .inr (h.offer n r)

theorem Completing.place {s : State} (h : Completing s) (n : RingId) (r : Record) : Completing (s.place n r) :=
  h.elim
    (fun h => (s.place_device n r).imp h.of_stands fun hhalt => hhalt _ h.fits)
    fun h => .inr (h.place n r)

theorem isOnline_iff {s : State} : s.isOnline = true ↔ s.dev.st = .online := decide_eq_true_iff

/-! ### The completion of a request -/

section Serving

variable {s : State} (h : Serving s)

include h

/-- Whatever the processor does next in ONLINE, but EXECUTING, while it keeps nothing in hand. -/
theorem Serving.deviceInv {t : State} (hdev : t.dev = s.dev) (hchans : t.chans = s.chans) (hst : t.proc.st ≠ .executing)
    (hhand : t.proc.hand = none) : DeviceInv t :=
  deviceInv_online (by rw [hdev]; exact h.online) hst (fun hsome => absurd hhand hsome) fun c => by
    rw [hchans]; exact h.fits c

theorem Serving.fetch : DeviceInv s.fetch := by
  unfold State.fetch
  split_ifs
  · exact h.deviceInv rfl rfl (fun e => ProcState.noConfusion e) rfl
  · exact h.fits.halt _

theorem Serving.procNext : DeviceInv s.procNext := by
  unfold State.procNext
  split_ifs
  · exact h.deviceInv rfl rfl (fun e => ProcState.noConfusion e) rfl
  · exact h.deviceInv rfl rfl (fun e => ProcState.noConfusion e) rfl
  · exact h.fetch

end Serving

section Completing

variable {s : State} (h : Completing s)

include h

theorem Completing.placeDone (n : RingId) (x : ReqDone) : DeviceInv (s.placeDone n x) := by
  have hplaced := h.place n (.requestDone x)
  unfold State.placeDone
  dsimp only
  split_ifs with honline
  · exact (hplaced.serving (isOnline_iff.1 honline)).procNext
  · exact hplaced.of_offline fun e => honline (isOnline_iff.2 e)

theorem Completing.handDone (n : RingId) (x : ReqDone) : DeviceInv (s.handDone n x) := by
  unfold State.handDone
  by_cases honline : s.dev.st = .online
  · have hserving := h.serving honline
    have hmissed : Serving (s.miss n) := hserving.of_stands ⟨rfl, rfl, rfl, rfl⟩
    rw [if_neg (by simp [isOnline_iff.2 honline])]
    split_ifs
    · exact h.placeDone n x
    · exact hmissed.procNext
    · exact hserving.deviceInv rfl rfl (fun e => ProcState.noConfusion e) rfl
  · rw [if_pos (by simpa using fun e => honline (isOnline_iff.1 e))]
    exact h.of_offline honline

theorem Completing.finishRequest (hand : Hand) (st : Status) (v : Nat) (f : Word32) :
    DeviceInv (s.finishRequest hand st v f) := h.handDone _ _

theorem Completing.failRequest (hand : Hand) (st : Status) : DeviceInv (s.failRequest hand st) :=
  h.finishRequest hand st 0 0

theorem Completing.takePosts (ps : List Post) : Completing (s.takePosts ps) := by
  induction ps generalizing s with
  | nil => exact h
  | cons p ps ih =>
    refine ih ?_
    cases p with
    | record ring r => exact h.offer _ r
    | done hand st v f => exact .inr (h.finishRequest hand st v f)

theorem Completing.withTiming (r : Timing × List TimOcc) : Completing (s.withTiming r) := by
  have htim : Completing { s with tim := r.1 } := h.imp (fun h => ⟨h.online, h.fits⟩) fun h => h
  exact htim.takePosts _

end Completing

section Shared

variable {s : State} (h : DeviceInv s)

include h

theorem DeviceInv.takePosts (ps : List Post) : DeviceInv (s.takePosts ps) := by
  induction ps generalizing s with
  | nil => exact h
  | cons p ps ih =>
    refine ih ?_
    cases p with
    | record ring r => exact h.offer _ r
    | done hand st v f => exact Completing.finishRequest (.inr h) hand st v f

theorem DeviceInv.withTiming (r : Timing × List TimOcc) : DeviceInv (s.withTiming r) := by
  have htim : DeviceInv { s with tim := r.1 } := h
  exact htim.takePosts _

/-- With the device, the processor and the COMMIT in flight as they were only the channels count. -/
theorem DeviceInv.of_chans {t : State} (hdev : t.dev = s.dev) (hproc : t.proc = s.proc)
    (hfl : t.mc.inFlight = s.mc.inFlight) (hfit : ChansFit s.dev.st t) : DeviceInv t := by
  obtain ⟨hoff, hexec, hhand, -⟩ := h
  unfold DeviceInv
  rw [hdev, hproc, hfl]
  exact ⟨hoff, hexec, hhand, fun c => ⟨(hfit c).allowed, (hfit c).slots⟩⟩

/-! ### Channels -/

theorem DeviceInv.chanAct (c : ChanId) {o : ChanOut} (ho : o.ch.Fits s.dev.st) : DeviceInv (s.chanAct c o).1 :=
  h.of_chans (State.chanAct_dev c o s) (State.chanAct_proc c o s) (by rw [State.chanAct_mc])
    (h.chansFit.chanAct c ho)

theorem DeviceInv.chanEvent (c : ChanId) {o : ChanOut} (ho : o.ch.Fits s.dev.st) : DeviceInv (s.chanEvent c o) :=
  (h.chanAct c ho).takePosts _

/-- A channel's step that keeps to the device state, where the channel's state allows it. -/
theorem DeviceInv.chanStepIf (c : ChanId) (can : Chan → ChanEnv → Bool) (step : Chan → ChanEnv → ChanOut)
    (hstep : ∀ {d ch env}, Chan.Fits d ch → can ch env = true → (step ch env).ch.Fits d) :
    DeviceInv (s.chanStepIf c can step) := by
  unfold State.chanStepIf
  split_ifs with hcan
  · exact h.chanEvent c (hstep (h.chansFit c) hcan)
  · exact h

/-! ### The device frame event -/

/-- The STOP clear event enters STOPPING with every channel CLOSED or CLOSING (R90, R189). -/
theorem DeviceInv.stopClear (hdue : s.stopClearDue = true) : DeviceInv s.stopClear := by
  obtain ⟨honline, -, hstopped, hfl⟩ := State.stopClearDue_eq_true.1 hdue
  have hfit : ChansFit .stopping s.stopClear := by
    intro c
    have hc := h.chansFit c
    rw [State.stopClear_eq]
    by_cases hclosable : s.chans[c].st.closable = true
    · obtain ⟨u, hu, hact⟩ := actAll_at close_outOwn s.closers_nodup (State.mem_closers.2 hclosable) s.stopCleared
      have hclose : (u.chans[c].close (u.chanEnv c)).ch.Fits .stopping :=
        Chan.close_fits (by rw [show u.chans[c] = s.chans[c] from hu.chan]; exact hclosable) (.inr rfl)
      have hpump := Chan.Fits.pump (env := (u.chanStep c (u.chans[c].close (u.chanEnv c))).chanEnv c) hclose
      have hchan := hact.chan
      dsimp only [id_eq] at hchan
      rw [hchan]
      simpa [State.chanAct, State.chanPump] using hpump
    · have hnot : ∀ k ∈ s.closers, id k ≠ c := fun k hk e => hclosable (State.mem_closers.1 (e ▸ hk))
      rw [(actAll_stands close_outOwn hnot s.stopCleared).chan]
      refine ⟨?_, hc.slots⟩
      show s.chans[c].st.allowed .stopping = true
      rcases not_not.1 (mt (ChanState.closable_iff _).2 hclosable) with hst | hst <;> rw [hst] <;> rfl
  have hdev : s.stopClear.dev = { s.dev with st := .stopping, stopPending := false } := by
    rw [State.stopClear_eq, actAll_dev]; rfl
  have hproc : s.stopClear.proc = s.proc := by rw [State.stopClear_eq, actAll_proc]; rfl
  refine deviceInv_stopped (by rw [hproc]; exact hstopped) (by rw [hproc]; exact h.hand_of_stopped hstopped)
    (by rw [hdev]) (by rw [State.stopClear_mc]; exact hfl) (by rw [hdev]; exact hfit)

theorem DeviceInv.beginEvent : DeviceInv s.beginEvent := by
  have hcounted : DeviceInv s.advanceCounter := h
  cases hdue : s.stopClearDue
  · rw [State.beginEvent_plain hdue]
    exact hcounted
  · rw [State.beginEvent_clears hdue]
    exact hcounted.stopClear hdue

/-- At an apply the device is ONLINE, and every entry leaves its channel as ONLINE has it (R32, R34 to R37). -/
theorem DeviceInv.applied (o : FrameOrder) : DeviceInv (s.applied o) := by
  have hticked : DeviceInv (s.ticked o) := h
  by_cases hfl : s.mc.inFlight = true
  · obtain ⟨hoff, hexec, hhand, -⟩ := h
    have honline : s.dev.st = .online := by
      by_contra hne
      have hnone := (hoff hne).2.2
      rw [hfl] at hnone
      cases hnone
    have hfit : ChansFit .online { s.ticked o with map := (s.ticked o).prospectiveMap } := by
      have := hticked.chansFit
      rwa [show (s.ticked o).dev.st = .online from honline] at this
    have happlied := hfit.actAll (key := Prod.fst) (out := fun e ch env => ch.applyEntry e.2 env)
      (fun e ch env hch => hch.applyEntry e.2) (s.ticked o).mc.entries
    rw [State.applied_of_inFlight o hfl]
    refine deviceInv_online (by rw [State.applySet_dev]; exact honline) (by rw [State.applySet_proc]; exact hexec)
      (by rw [State.applySet_proc]; exact hhand) fun c => ?_
    rw [((s.ticked o).applySet_stands o c).chan]
    exact happlied c
  · rw [State.applied_of_not_inFlight o (Bool.eq_false_iff.2 hfl)]
    exact hticked

theorem DeviceInv.moved (o : FrameOrder) : DeviceInv (s.moved o).1 := by
  have hswitched : DeviceInv (s.switched o) := h.applied o
  refine hswitched.of_chans (State.moveChans_dev _ _ _) (State.moveChans_proc _ _ _)
    (congrArg MapControl.inFlight (State.moveChans_mc _ _ _)) ?_
  unfold State.moved
  rw [State.moveChans_eq]
  exact hswitched.chansFit.actAll (fun c ch env hch => hch.frame _) _

theorem DeviceInv.frameEvent (o : FrameOrder) : DeviceInv (s.frameEvent o) := by
  rw [State.frameEvent, State.runEvent_eq]
  exact (h.beginEvent.moved o).takePosts _

theorem DeviceInv.eventIf (due : Bool) (o : FrameOrder) : DeviceInv (s.eventIf due o) := by
  unfold State.eventIf
  split_ifs
  · exact h.frameEvent o
  · exact h

end Shared

end Sys2Proof.Machine
end

section
/-! PROOFS. O60: registers, the ends of host memory operations, the requests, and every step. -/

set_option Elab.async false

namespace Sys2Proof.Machine

section Shared

variable {s : State} (h : DeviceInv s)

include h

/-! ### The device and its registers -/

theorem DeviceInv.arrival (x : HwyId) (f : Frame) (since : Bool) : DeviceInv (s.arrival x f since) := by
  have hport : ∀ p, DeviceInv (s.setHwy x p) := fun _ => h
  unfold State.arrival
  split_ifs
  · exact ((hport _).takePosts _).withTiming _
  · exact h

/-- Outside ONLINE and the states of a closing or a halt every channel is CLOSED (R186, R193). -/
theorem DeviceInv.closed (hst : s.dev.st = .offline ∨ s.dev.st = .starting ∨ s.dev.st = .resetting) (c : ChanId) :
    s.chans[c].st = .closed := by
  have hallowed := (h.chansFit c).allowed
  rcases hst with e | e | e <;> rw [e] at hallowed <;> exact beq_iff_eq.1 hallowed

theorem DeviceInv.closed_fits (hst : s.dev.st = .offline ∨ s.dev.st = .starting ∨ s.dev.st = .resetting)
    (d : DeviceState) : ChansFit d s := fun c =>
  Chan.fits_closed d (h.closed hst c) ((h.chansFit c).slots (.inl (h.closed hst c)))

/-- A device that is not ONLINE moves to another state with its channels as that one leaves them. -/
theorem DeviceInv.withDev {x : Device} (hoff : s.dev.st ≠ .online) (hsp : x.stopPending = s.dev.stopPending)
    (hfit : ChansFit x.st s) : DeviceInv { s with dev := x } := by
  obtain ⟨hout, hexec, hhand, -⟩ := h
  obtain ⟨hst, hpend, hfl⟩ := hout hoff
  exact ⟨fun _ => ⟨hst, hsp.trans hpend, hfl⟩, hexec, hhand, fun c => ⟨(hfit c).allowed, (hfit c).slots⟩⟩

theorem DeviceInv.startFails (k : Cause) : DeviceInv (s.startFails k) := by
  unfold State.startFails
  split_ifs with hst
  · exact h.withDev (by rw [hst]; decide) rfl (h.closed_fits (.inr (.inl hst)) _)
  · exact h

theorem DeviceInv.startRule : DeviceInv s.startRule := by
  unfold State.startRule
  dsimp only
  split_ifs with hst
  · exact h
  · have hoff : s.dev.st = .offline := not_not.1 hst
    exact h.withDev (by rw [hoff]; decide) rfl (h.closed_fits (.inl hoff) _)
  · have hoff : s.dev.st = .offline := not_not.1 hst
    have hstarted : DeviceInv { s with dev := { s.dev with st := .starting, cause := .none, lastError := .none } } :=
      h.withDev (by rw [hoff]; decide) rfl (h.closed_fits (.inl hoff) _)
    exact hstarted.startFails _
  · exact h

theorem DeviceInv.setupData (bytes : List Byte) : DeviceInv (s.setupData bytes) := by
  unfold State.setupData
  split_ifs with hvalid
  · exact deviceInv_online rfl (fun e => ProcState.noConfusion e) (fun hsome => absurd rfl hsome)
      (h.closed_fits (.inr (.inl hvalid.1)) _)
  · exact h.startFails _

theorem DeviceInv.stopOnline (honline : s.dev.st = .online) : DeviceInv s.stopOnline := by
  obtain ⟨-, hexec, hhand, -⟩ := id h
  have hserving := h.serving honline
  rw [State.stopOnline_eq]
  split_ifs
  · exact deviceInv_online honline (fun e => ProcState.noConfusion e) (fun hsome => absurd rfl hsome) hserving.fits
  · exact deviceInv_online honline (fun e => ProcState.noConfusion e) (fun hsome => absurd rfl hsome) hserving.fits
  · exact deviceInv_online honline hexec hhand hserving.fits

/-- A STOP in HALTED leaves every channel CLOSED (R90, R192). -/
theorem DeviceInv.stopHalted (hhalted : s.dev.st = .halted) : DeviceInv s.stopHalted := by
  obtain ⟨hoff, -⟩ := id h
  obtain ⟨hst, hsp, hfl⟩ := hoff (by rw [hhalted]; decide)
  exact deviceInv_stopped hst (h.hand_of_stopped hst) hsp hfl fun c =>
    Chan.fits_closed _ (s.stopHalted_closed c) (by simp [State.stopHalted, Chan.stopHalted])

theorem DeviceInv.stopRule : DeviceInv s.stopRule := by
  unfold State.stopRule
  split
  · next honline =>
    split_ifs
    · exact h
    · exact h.stopOnline honline
  · next hhalted => exact h.stopHalted hhalted
  all_goals exact h

omit h in
theorem deviceInv_deviceReset (s : State) : DeviceInv s.deviceReset :=
  deviceInv_stopped rfl rfl rfl rfl fun c =>
    Chan.fits_closed _ (by simp [State.deviceReset, Chan.reset]) (by simp [State.deviceReset, Chan.reset])

omit h in
theorem deviceInv_powerOn (s : State) : DeviceInv s.powerOn := deviceInv_reset

theorem DeviceInv.setupRule (high : Bool) (v : Word32) : DeviceInv (s.setupRule high v) := by
  unfold State.setupRule
  split_ifs <;> exact h

theorem DeviceInv.regWrite (legal v : Word32) {rule : State → State} (hrule : DeviceInv (rule s)) :
    DeviceInv (s.regWrite legal v rule) := by
  unfold State.regWrite
  split_ifs
  · exact h
  · exact h
  · exact hrule

theorem DeviceInv.setupWrite (high : Bool) (v : Word32) : DeviceInv (s.setupWrite high v) :=
  h.regWrite _ _ (h.setupRule high v)

theorem DeviceInv.fetchStep : DeviceInv s.fetchStep := by
  unfold State.fetchStep State.canFetch
  split_ifs with hcan
  · simp only [Bool.and_eq_true] at hcan
    exact (h.serving (isOnline_iff.1 hcan.1.1.1)).fetch
  · exact h

theorem DeviceInv.tailRule (v : Word32) : DeviceInv (s.tailRule v) := by
  have htail : ∀ x, DeviceInv { s with proc := { s.proc with tail := x } } := fun _ => h
  unfold State.tailRule
  split_ifs
  · exact h
  · exact h
  · exact (htail _).fetchStep

theorem DeviceInv.tailWrite (v : Word32) : DeviceInv (s.tailWrite v) := h.regWrite _ _ (h.tailRule v)

theorem DeviceInv.placeOverflow (n : RingId) : DeviceInv (s.placeOverflow n) := by
  have hring : ∀ r, DeviceInv (s.setRing n r) := fun _ => h
  unfold State.placeOverflow
  split_ifs
  · exact (hring _).place n _
  · exact h

theorem DeviceInv.placeHeld (n : RingId) : DeviceInv (s.placeHeld n) := by
  have hring : ∀ r, DeviceInv (s.setRing n r) := fun _ => h
  unfold State.placeHeld
  split
  · split_ifs
    · exact h
    · exact Completing.placeDone (.inr (hring _)) n _
  · exact h

theorem DeviceInv.judgeArm (n : RingId) : DeviceInv (s.judgeArm n) :=
  h.of_stands ⟨State.judgeArm_dev n s, State.judgeArm_proc n s, State.judgeArm_mc n s, State.judgeArm_chans n s⟩

theorem DeviceInv.takeHead (n : RingId) (v : Word32) : DeviceInv (s.takeHead n v) := by
  have hring : DeviceInv (s.setRing n { s.ring n with head := headCount v }) := h
  unfold State.takeHead
  dsimp only
  by_cases hmoved : (s.ring n).advance v = 0
  · rw [if_pos hmoved]
    split_ifs
    · exact hring.judgeArm n
    · exact hring
  · have hfilled : DeviceInv ((s.setRing n { s.ring n with head := headCount v }).fillSpace n) :=
      (hring.placeOverflow n).placeHeld n
    rw [if_neg hmoved]
    split_ifs
    · exact hfilled.judgeArm n
    · exact hfilled

theorem DeviceInv.ringHeadWrite (n : RingId) (v : Word32) : DeviceInv (s.ringHeadWrite n v) := by
  refine h.regWrite _ _ ?_
  unfold State.headRule
  split_ifs
  · exact h
  · exact h
  · exact h.takeHead n v

theorem DeviceInv.controlWrite (v : Word32) : DeviceInv (s.controlWrite v) := by
  unfold State.controlWrite
  split_ifs
  · exact h.startRule
  · exact h.stopRule
  · exact deviceInv_deviceReset s
  · exact h

theorem DeviceInv.windowWrite (offset len : Nat) (v : Word32) : DeviceInv (s.windowWrite offset len v) := by
  unfold State.windowWrite
  split_ifs
  · exact h
  · exact h
  · exact h
  · exact h
  · exact h.controlWrite v
  · exact h.setupWrite false v
  · exact h.setupWrite true v
  · exact h.tailWrite v
  · exact h.ringHeadWrite _ v

theorem DeviceInv.overflowStep (n : RingId) : DeviceInv (s.overflowStep n) := by
  unfold State.overflowStep
  split_ifs
  · exact h.placeOverflow n
  · exact h

theorem DeviceInv.heldStep (n : RingId) : DeviceInv (s.heldStep n) := by
  unfold State.heldStep
  split_ifs
  · exact h.placeHeld n
  · exact h

/-- STOPPING ends with every channel CLOSED (R190). -/
theorem DeviceInv.stoppingEnd : DeviceInv s.stoppingEnd := by
  unfold State.stoppingEnd
  split_ifs with hend
  · obtain ⟨hst, hclosed, -⟩ := hend
    rw [State.allClosed_iff] at hclosed
    exact h.withDev (by rw [hst]; decide) rfl fun c =>
      Chan.fits_closed _ (hclosed c) ((h.chansFit c).slots (.inl (hclosed c)))
  · exact h

theorem DeviceInv.resettingEnd : DeviceInv s.resettingEnd := by
  unfold State.resettingEnd
  split_ifs with hend
  · exact h.withDev (by rw [hend.1]; decide) rfl (h.closed_fits (.inr (.inr hend.1)) _)
  · exact h

theorem DeviceInv.finish : DeviceInv s.finish := h.stoppingEnd.resettingEnd

/-! ### The ends of host memory operations -/

theorem DeviceInv.endOp (id : Nat) : DeviceInv (s.endOp id) := h

theorem DeviceInv.resultEnd (accepted : Bool) : DeviceInv (s.resultEnd accepted) := by
  have hcompleting : Completing s := .inr h
  unfold State.resultEnd
  split
  · split_ifs
    · exact hcompleting.finishRequest _ _ _ _
    · exact hcompleting.failRequest _ _
  · exact h

theorem DeviceInv.chanFails (c : ChanId) (k : Option ChanOpKind) (timeout : Bool) :
    DeviceInv (s.chanFails c k timeout) :=
  h.chanEvent c ((h.chansFit c).failure k timeout)

theorem DeviceInv.fails (k : OpKind) (timeout : Bool) : DeviceInv (s.fails k timeout) := by
  cases k with
  | setupRead => exact h.startFails _
  | requestFetch => exact h.chansFit.halt _
  | resultWrite => exact h.resultEnd false
  | recordWrite n => exact h.chansFit.halt _
  | descRead c i => exact h.chanFails c _ timeout
  | dataRead c i => exact h.chanFails c _ timeout
  | dataWrite c i => exact h.chanFails c _ timeout
  | writeBack c e f => exact h.chanFails c _ timeout
  | flushRead c i => exact h.chanFails c _ timeout

theorem DeviceInv.chanPump (c : ChanId) : DeviceInv (s.chanPump c).1 :=
  h.of_chans (State.chanPump_dev c s) (State.chanPump_proc c s) (congrArg MapControl.inFlight (State.chanPump_mc c s))
    (h.chansFit.chanPump c)

theorem DeviceInv.discarded (o : Op) : DeviceInv (s.discarded o) := by
  unfold State.discarded
  split
  · exact (h.chanPump _).takePosts _
  all_goals exact h

theorem DeviceInv.failOp (id : Nat) (timeout : Bool) : DeviceInv (s.failOp id timeout) := by
  unfold State.failOp
  split
  · split
    · exact (h.endOp id).fails _ timeout
    · exact (h.endOp id).discarded _
    · exact (h.endOp id).discarded _
  · exact h

theorem DeviceInv.staleEnd (id : Nat) : DeviceInv (s.staleEnd id) := by
  unfold State.staleEnd
  split
  · split
    · exact h
    · exact (h.endOp id).discarded _
    · exact (h.endOp id).discarded _
  · exact h

theorem DeviceInv.setupReadEnd (e : ReadEnd) : DeviceInv (s.setupReadEnd e) := by
  unfold State.setupReadEnd
  split
  · cases e with
    | data bytes => exact (h.endOp _).setupData bytes
    | error => exact h.failOp _ _
    | timeout => exact h.failOp _ _
  · exact h

theorem DeviceInv.fetchFails (timeout : Bool) : DeviceInv (s.fetchFails timeout) := by
  unfold State.fetchFails
  split
  · exact h.failOp _ _
  · exact h

theorem DeviceInv.resultWriteEnd (e : WriteEnd) : DeviceInv (s.resultWriteEnd e) := by
  unfold State.resultWriteEnd
  split
  · cases e with
    | accepted => exact (h.endOp _).resultEnd true
    | error => exact h.failOp _ _
    | timeout => exact h.failOp _ _
  · exact h

theorem DeviceInv.chanReadEnd (id : Nat) (c : ChanId) (e : ReadEnd) {take : Chan → ChanEnv → List Byte → ChanOut}
    (htake : ∀ {d ch} env bytes, Chan.Fits d ch → (take ch env bytes).ch.Fits d) :
    DeviceInv (s.chanReadEnd id c e take) := by
  cases e with
  | data bytes => exact (h.endOp id).chanEvent c (htake _ _ ((h.endOp id).chansFit c))
  | error => exact h.failOp _ _
  | timeout => exact h.failOp _ _

theorem DeviceInv.chanWriteEnd (id : Nat) (c : ChanId) (e : WriteEnd) {take : Chan → ChanEnv → ChanOut}
    (htake : ∀ {d ch} env, Chan.Fits d ch → (take ch env).ch.Fits d) :
    DeviceInv (s.chanWriteEnd id c e take) := by
  cases e with
  | accepted => exact (h.endOp id).chanEvent c (htake _ ((h.endOp id).chansFit c))
  | error => exact h.failOp _ _
  | timeout => exact h.failOp _ _

theorem DeviceInv.descriptorReadEnd (id : Nat) (e : ReadEnd) : DeviceInv (s.descriptorReadEnd id e) := by
  unfold State.descriptorReadEnd
  split
  · exact h.chanReadEnd id _ e fun _ _ hch => hch.descEnd _ _
  · exact h

theorem DeviceInv.dataReadEnd (id : Nat) (e : ReadEnd) : DeviceInv (s.dataReadEnd id e) := by
  unfold State.dataReadEnd
  split
  · exact h.chanReadEnd id _ e fun _ _ hch => hch.dataEnd _ _
  · exact h

theorem DeviceInv.dataWriteEnd (id : Nat) (e : WriteEnd) : DeviceInv (s.dataWriteEnd id e) := by
  unfold State.dataWriteEnd
  split
  · exact h.chanWriteEnd id _ e fun _ hch => hch.dataAccepted _
  · exact h

theorem DeviceInv.writeBackEnd (id : Nat) (e : WriteEnd) : DeviceInv (s.writeBackEnd id e) := by
  unfold State.writeBackEnd
  split
  · exact h.chanWriteEnd id _ e fun _ hch => hch.writeBackAccepted _ _
  · exact h

theorem DeviceInv.flushReadEnd (id : Nat) (e : ReadEnd) : DeviceInv (s.flushReadEnd id e) := by
  unfold State.flushReadEnd
  split
  · exact h.chanReadEnd id _ e fun _ _ hch => hch.flushEnd _ _
  · exact h

theorem DeviceInv.completionWriteEnd (id : Nat) (e : WriteEnd) : DeviceInv (s.completionWriteEnd id e) := by
  unfold State.completionWriteEnd
  split
  · cases e with
    | accepted => exact h
    | error => exact h.failOp _ _
    | timeout => exact h.failOp _ _
  · exact h

end Shared

/-! ### The meanings of the requests -/

section Bodies

variable {s : State} (h : Serving s) (r : ReqRecord) (hand : Hand)

include h

/-- The request in hand may change anything but the device and the channels before it completes. -/
theorem Serving.of_same {t : State} (hdev : t.dev = s.dev) (hchans : t.chans = s.chans) : Serving t :=
  ⟨by rw [hdev]; exact h.online, fun c => by rw [hchans]; exact h.fits c⟩

theorem Serving.finishRequest (st : Status) (v : Nat) (f : Word32) : DeviceInv (s.finishRequest hand st v f) :=
  Completing.finishRequest (.inl h) hand st v f

theorem Serving.failRequest (st : Status) : DeviceInv (s.failRequest hand st) := h.finishRequest hand st 0 0

/-- A COMMIT taken keeps the request in hand (R31, R38). -/
theorem Serving.waits : DeviceInv { s with
    mc := { s.mc with inFlight := true }, proc := { s.proc with st := .waitingFrame, hand := some hand } } :=
  deviceInv_online h.online (fun e => ProcState.noConfusion e) (fun _ => .inl rfl) h.fits

theorem Serving.stagingDone (immediate : Bool) (st : Status) : DeviceInv (s.stagingDone hand immediate st) := by
  unfold State.stagingDone
  split_ifs
  · exact h.waits hand
  · exact h.finishRequest hand st _ _

theorem Serving.nopBody : DeviceInv (nopBody r hand s) := by
  unfold Machine.nopBody
  split_ifs
  · exact h.finishRequest hand _ _ _
  · exact h.failRequest hand _

/-- The loss of a highway's candidate may post a record that halts the device (R118, R195). -/
theorem Serving.changeHwy (x : HwyId) (k : HwyChange) : Completing (s.changeHwy x r k) := by
  have hchanged : Completing { s with
      hwys := s.hwys.set x (s.hwys[x].change r k), map := s.map.set x (changeDrivers (reqByte r 0x0A) s.map[x] k) } :=
    .inl (h.of_same rfl rfl)
  unfold State.changeHwy
  dsimp only
  split_ifs
  · exact hchanged.withTiming _
  · exact hchanged

theorem Serving.sethwyBody : DeviceInv (sethwyBody r hand s) := by
  unfold Machine.sethwyBody
  dsimp only
  split_ifs
  · split
    · exact h.failRequest hand _
    · exact (h.changeHwy r _ _).finishRequest hand _ _ _
  · exact h.failRequest hand _

theorem Serving.stageTarget (x : HwyId) (n : Nat) (t : Target) : Serving (s.stageTarget x n t) := h.of_same rfl rfl

theorem Serving.stageSlots (c : ChanId) (e : ChanEntry) (d : Dir) (x : HwyId) (l : List Nat) :
    Serving (s.stageSlots c e d x l) := h.of_same rfl rfl

theorem Serving.connectBody : DeviceInv (connectBody r hand s) := by
  unfold Machine.connectBody
  split_ifs
  · split
    · exact h.failRequest hand _
    · exact (h.stageTarget _ _ _).stagingDone hand _ _
  · exact h.failRequest hand _

theorem Serving.disconnectBody : DeviceInv (disconnectBody r hand s) := by
  unfold Machine.disconnectBody
  split_ifs
  · split
    · exact h.failRequest hand _
    · exact (h.stageTarget _ _ _).stagingDone hand _ _
  · exact h.failRequest hand _

theorem Serving.openBody : DeviceInv (openBody r hand s) := by
  unfold Machine.openBody
  dsimp only
  split_ifs
  · split
    · exact h.failRequest hand _
    · exact (h.stageSlots _ _ _ _ _).stagingDone hand _ _
  · exact h.failRequest hand _

theorem Serving.closeChan (c : ChanId) (immediate : Bool) : DeviceInv (s.closeChan c hand immediate) := by
  have hstaged : ∀ e, Serving (s.stageChan c e) := fun _ => h.of_same rfl rfl
  unfold State.closeChan
  split
  · exact (h.of_same rfl rfl : Serving { s with mc := { s.mc with entries := eraseKey c s.mc.entries } }).stagingDone hand _ _
  · exact (hstaged _).stagingDone hand _ _
  · exact h.failRequest hand _
  · split_ifs
    · split
      · exact h.failRequest hand _
      · exact (hstaged _).stagingDone hand _ _
    · exact h.failRequest hand _

theorem Serving.closeBody : DeviceInv (closeBody r hand s) := by
  unfold Machine.closeBody
  split_ifs
  · exact h.closeChan hand _ _
  · exact h.failRequest hand _

theorem Serving.reslotOpen (c : ChanId) (x : HwyId) (l : List Nat) (immediate : Bool) :
    DeviceInv (s.reslotOpen c x l hand immediate) := by
  unfold State.reslotOpen
  split
  · exact h.failRequest hand _
  · exact (h.stageSlots _ _ _ _ _).stagingDone hand _ _

theorem Serving.reslotChan (c : ChanId) (x : HwyId) (l : List Nat) (immediate : Bool) :
    DeviceInv (s.reslotChan c x l hand immediate) := by
  unfold State.reslotChan
  split
  · split
    · exact h.failRequest hand _
    · exact (h.stageSlots _ _ _ _ _).stagingDone hand _ _
  · split
    · exact h.failRequest hand _
    · exact (h.stageSlots _ _ _ _ _).stagingDone hand _ _
  · exact h.failRequest hand _
  · split
    · exact h.failRequest hand _
    · exact h.failRequest hand _
    · exact h.failRequest hand _
    all_goals exact h.reslotOpen hand c x l immediate

theorem Serving.reslotBody : DeviceInv (reslotBody r hand s) := by
  unfold Machine.reslotBody
  split_ifs
  · exact h.reslotChan hand _ _ _ _
  · exact h.failRequest hand _

theorem Serving.commitBody : DeviceInv (commitBody r hand s) := by
  unfold Machine.commitBody
  split_ifs
  · exact h.finishRequest hand _ _ _
  · exact h.waits hand
  · exact h.failRequest hand _

theorem Serving.discardBody : DeviceInv (discardBody r hand s) := by
  unfold Machine.discardBody
  split_ifs
  · exact (h.of_same rfl rfl : Serving { s with mc := s.mc.emptied }).finishRequest hand _ _ _
  · exact h.failRequest hand _

theorem Serving.setrefBody : DeviceInv (setrefBody r hand s) := by
  have hcompleting : Completing s := .inl h
  unfold Machine.setrefBody
  split_ifs
  · exact (hcompleting.withTiming _).finishRequest hand _ _ _
  · exact h.failRequest hand _

theorem Serving.writeResult (bytes : List Byte) : DeviceInv (s.writeResult r hand bytes) := by
  unfold State.writeResult
  split_ifs
  · exact deviceInv_online h.online (fun e => ProcState.noConfusion e) (fun _ => .inr rfl) h.fits
  · exact h.failRequest hand _

theorem Serving.qhwyBody : DeviceInv (qhwyBody r hand s) := by
  have hclear : ∀ p, Serving (s.setHwy (reqHwy r 0x08) p) := fun _ => h.of_same rfl rfl
  unfold Machine.qhwyBody
  dsimp only
  split_ifs
  · exact (hclear _).writeResult r hand _
  · exact h.writeResult r hand _
  · exact h.failRequest hand _

theorem Serving.qchanBody : DeviceInv (qchanBody r hand s) := by
  have hclear : Serving (s.setChan (reqChan r) s.chans[reqChan r].clear) :=
    ⟨h.online, h.fits.set (ch := s.chans[reqChan r].clear) ((h.fits (reqChan r)).of_same rfl rfl) rfl⟩
  unfold Machine.qchanBody
  dsimp only
  split_ifs
  · exact hclear.writeResult r hand _
  · exact h.writeResult r hand _
  · exact h.failRequest hand _

theorem Serving.qslotBody : DeviceInv (qslotBody r hand s) := by
  unfold Machine.qslotBody
  split_ifs
  · split
    · exact h.failRequest hand _
    · exact h.writeResult r hand _
  · exact h.failRequest hand _

theorem Serving.qtimeBody : DeviceInv (qtimeBody r hand s) := by
  unfold Machine.qtimeBody
  split_ifs
  · exact h.writeResult r hand _
  · exact h.writeResult r hand _
  · exact h.failRequest hand _

end Bodies

/-! ### The end of a fetch, and every step -/

/-- A fetch ends in ONLINE only: the processor is FETCHING (R145, R182). -/
theorem DeviceInv.fetched {s t : State} (h : DeviceInv s) (ht : s.fetched = some t) : Serving t := by
  unfold State.fetched at ht
  split at ht
  · split_ifs at ht with hfetching
    rw [← Option.some.inj ht]
    exact (h.serving (h.online (by rw [hfetching]; decide))).of_same rfl rfl
  · cases ht

/-- A fetched request keeps the invariant when its kind's own meaning does. -/
theorem DeviceInv.request {s : State} (h : DeviceInv s) (r : ReqRecord) {body : ReqRecord → Hand → State → State}
    (hbody : ∀ {u : State}, Serving u → ∀ r hand, DeviceInv (body r hand u)) : DeviceInv (s.request r body) := by
  unfold State.request
  split
  · exact h
  · next hfetched =>
    have hserving := h.fetched hfetched
    split_ifs
    · exact hbody hserving _ _
    · exact hserving.failRequest _ _

theorem DeviceInv.unknownKind {s : State} (h : DeviceInv s) (k : Byte) (r : ReqRecord) :
    DeviceInv (s.unknownKind k r) := by
  unfold State.unknownKind
  split_ifs
  · exact h
  · split
    · exact h
    · next hfetched => exact (h.fetched hfetched).failRequest _ _

/-- Every command keeps the invariant. -/
theorem DeviceInv.exec {s : State} (h : DeviceInv s) (i : Instr) : ∃ t, exec i s = .next t ∧ DeviceInv t := by
  have hdone : ∀ {u : State}, DeviceInv u → ∃ t, done u = .next t ∧ DeviceInv t :=
    fun {u} hu => ⟨u.finish, rfl, hu.finish⟩
  cases i with
  | powerOnReset => exact hdone (deviceInv_powerOn s)
  | configurationSpaceWrite busMaster messages vectors => exact hdone (h : DeviceInv (s.configWrite _ _ _))
  | start => exact hdone h.startRule
  | stop => exact hdone h.stopRule
  | reset => exact hdone (deviceInv_deviceReset s)
  | setupAddressWrite high value => exact hdone (h.setupWrite high value)
  | requestTail value => exact hdone (h.tailWrite value)
  | ringHead ring value => exact hdone (h.ringHeadWrite ring value)
  | registerWrite offset len value => exact hdone (h.windowWrite offset len value)
  | setupReadEnd e => exact hdone (h.setupReadEnd e)
  | requestFetch => exact hdone h.fetchStep
  | requestFetchError timeout => exact hdone (h.fetchFails timeout)
  | badKind kind r => exact hdone (h.unknownKind kind r)
  | nop r => exact hdone (h.request r Serving.nopBody)
  | sethwy r => exact hdone (h.request r Serving.sethwyBody)
  | connect r => exact hdone (h.request r Serving.connectBody)
  | disconnect r => exact hdone (h.request r Serving.disconnectBody)
  | openChannel r => exact hdone (h.request r Serving.openBody)
  | closeChannel r => exact hdone (h.request r Serving.closeBody)
  | reslot r => exact hdone (h.request r Serving.reslotBody)
  | commit r => exact hdone (h.request r Serving.commitBody)
  | discard r => exact hdone (h.request r Serving.discardBody)
  | setref r => exact hdone (h.request r Serving.setrefBody)
  | qhwy r => exact hdone (h.request r Serving.qhwyBody)
  | qchan r => exact hdone (h.request r Serving.qchanBody)
  | qslot r => exact hdone (h.request r Serving.qslotBody)
  | qtime r => exact hdone (h.request r Serving.qtimeBody)
  | resultWriteEnd e => exact hdone (h.resultWriteEnd e)
  | deviceFrameEvent o => exact hdone (h.frameEvent o)
  | apply o => exact hdone (h.eventIf _ o)
  | stopClearEvent o => exact hdone (h.eventIf _ o)
  | frameArrival x bytes since => exact hdone (h.arrival x bytes since)
  | hwySilence x o => exact hdone (h.eventIf _ o)
  | hwyLost x o => exact hdone (h.eventIf _ o)
  | referencePulse r => exact hdone (h : DeviceInv (s.pulse r))
  | referenceLoss r o => exact hdone (h.eventIf _ o)
  | driftWindowEnd src o => exact hdone (h.eventIf _ o)
  | candidateQualified src o => exact hdone (h.eventIf _ o)
  | selectLocked o => exact hdone (h.eventIf _ o)
  | holdoverValid o => exact hdone (h.eventIf _ o)
  | holdoverLimit o => exact hdone (h.eventIf _ o)
  | waitToRestore o => exact hdone (h.eventIf _ o)
  | operationTimeout id => exact hdone (h.failOp id true)
  | lateAnswer id e => exact ⟨s, rfl, h⟩
  | descriptorReadEnd id e => exact hdone (h.descriptorReadEnd id e)
  | dataReadEnd id e => exact hdone (h.dataReadEnd id e)
  | dataWriteEnd id e => exact hdone (h.dataWriteEnd id e)
  | writeBackEnd id e => exact hdone (h.writeBackEnd id e)
  | flushReadEnd id e => exact hdone (h.flushReadEnd id e)
  | staleOperationEnd id e => exact hdone (h.staleEnd id)
  | completionWriteEnd id e => exact hdone (h.completionWriteEnd id e)
  | writeBackIssue c => exact hdone (h.chanStepIf c _ _ fun hch _ => hch.issueWriteBack)
  | deferredLookaheadRead c => exact hdone (h.chanStepIf c _ _ fun hch _ => hch.issueDeferred)
  | primingRead c => exact hdone (h.chanStepIf c _ _ fun hch _ => hch.issuePriming)
  | flushWalk c => exact hdone (h.chanStepIf c _ _ fun hch _ => hch.beginWalk)
  | chanClosed c => exact hdone (h.chanStepIf c _ _ fun hch hcan => hch.finishClose (Chan.state_of_canClose hcan))
  | overflow ring => exact hdone (h.overflowStep ring)
  | heldRecordPlaced ring => exact hdone (h.heldStep ring)
  | stoppingEnd => exact hdone h.stoppingEnd
  | resettingEnd => exact hdone h.resettingEnd

theorem DeviceInv.step {s t : State} (h : DeviceInv s) (hstep : step s = .next t) : DeviceInv t := by
  unfold Machine.step at hstep
  split at hstep
  · cases hstep
    exact h
  · next c rest _ =>
    have hrest : DeviceInv { s with pending := rest } := h
    obtain ⟨u, hexec, hu⟩ := hrest.exec c
    rw [hexec] at hstep
    cases hstep
    exact hu

/-- Settles O60, command by command: channels keep to the device's state, and a request in hand ends in ONLINE or with a
halt. -/
theorem deviceKept : Obligations.DeviceKept := by
  unfold Obligations.DeviceKept
  exact fun s t h hstep => h.step hstep

end Sys2Proof.Machine
end

section
/-! PROOFS. The ends of host memory operations: the operation an end names, what a channel's end comes to while operations
are sent, O16 and O47. -/

set_option Elab.async false

namespace Sys2Proof.Machine

/-! ### The operation an end names (R195) -/

theorem State.liveOp_mem {s : State} {id : Nat} {f : Op} (h : s.liveOp id = some f) :
    f ∈ s.link.ops ∧ f.mark = .live := by
  have hp := List.find?_some h
  simp only [Bool.and_eq_true, beq_iff_eq] at hp
  exact ⟨List.mem_of_find?_eq_some h, hp.2⟩

theorem State.liveOpOf_mem {s : State} {k : OpKind} {f : Op} (h : s.liveOpOf k = some f) :
    f ∈ s.link.ops ∧ f.kind = k ∧ f.mark = .live := by
  have hp := List.find?_some h
  simp only [Bool.and_eq_true, beq_iff_eq] at hp
  exact ⟨List.mem_of_find?_eq_some h, hp.1, hp.2⟩

theorem State.findOp_mem {s : State} {id : Nat} {f : Op} (h : s.findOp id = some f) : f ∈ s.link.ops :=
  List.mem_of_find?_eq_some h

/-- Operations in flight with the same identifier are the same. -/
theorem LinkInv.eq_of_id {s : State} (h : LinkInv s) {f g : Op} (hf : f ∈ s.link.ops) (hg : g ∈ s.link.ops)
    (hid : f.id = g.id) : f = g :=
  List.inj_on_of_nodup_map h.1 hf hg hid

/-- An operation in flight is found by its identifier. -/
theorem LinkInv.findOp {s : State} (h : LinkInv s) {f : Op} (hf : f ∈ s.link.ops) : s.findOp f.id = some f := by
  cases hfind : s.findOp f.id with
  | none => exact absurd (List.find?_eq_none.1 hfind f hf) (by simp)
  | some g =>
    have hid : g.id = f.id := beq_iff_eq.1 (List.find?_some (p := fun o : Op => o.id == f.id) hfind)
    rw [h.eq_of_id (State.findOp_mem hfind) hf hid]

/-- The failure of a live operation in flight goes to its issuer. -/
theorem LinkInv.failOp {s : State} (h : LinkInv s) {f : Op} (hf : f ∈ s.link.ops) (hlive : f.mark = .live)
    (timeout : Bool) : s.failOp f.id timeout = (without f s).fails f.kind timeout := by
  simp only [State.failOp, h.findOp hf, hlive]
  rfl

/-! ### HALTED -/

/-- Entry to HALTED is all that its command does (R191). -/
theorem done_halt (k : Cause) (s : State) : done (s.halt k) = .next (afterHalt k s) := by
  rw [State.halt_eq, done, State.finish_eq_self _ (fun h => DeviceState.noConfusion h.1) fun h => DeviceState.noConfusion h.1]

/-- Settles O16: the end goes to the operation it names, and a halt leaves nothing to come about. -/
theorem entryToHalted : Obligations.EntryToHalted := by
  unfold Obligations.EntryToHalted
  intro f s hinv
  refine ⟨fun timeout hfetch => ?_, fun n e hrec hkind he => ?_, fun n hrec hkind => ?_⟩
  · obtain ⟨hmem, hkind, hlive⟩ := State.liveOpOf_mem hfetch
    have hfails : ∀ t, done (s.failOp f.id t) = .next (afterHalt .requestFetch (without f s)) := fun t => by
      rw [hinv.failOp hmem hlive, hkind]
      exact done_halt _ _
    refine ⟨?_, hfails true⟩
    show done (s.fetchFails timeout) = _
    simp only [State.fetchFails, hfetch]
    exact hfails timeout
  · obtain ⟨hmem, hlive⟩ := State.liveOp_mem hrec
    have hfails : ∀ t, done (s.failOp f.id t) = .next (afterHalt .completionWrite (without f s)) := fun t => by
      rw [hinv.failOp hmem hlive, hkind]
      exact done_halt _ _
    refine ⟨?_, hfails true⟩
    show done (s.completionWriteEnd f.id e) = _
    simp only [State.completionWriteEnd, hrec, Option.map_some, hkind]
    cases e with
    | accepted => exact absurd rfl he
    | error => exact hfails false
    | timeout => exact hfails true
  · show done (s.completionWriteEnd f.id .accepted) = _
    simp only [State.completionWriteEnd, hrec, Option.map_some, hkind]
    rw [done, State.finish_eq]
    rfl

/-! ### Moments of a channel -/

section Moments

variable {c : ChanId} {s : State}

theorem withChan_self (c : ChanId) (s : State) : withChan c s.chans[c] s = s := s.setChan_self c

/-- A channel that goes on to nothing leaves the records of its step alone. -/
theorem moment_of_idle (records : State → State) (hwent : wentOn c s = s) (hclose : ¬Closes c s) :
    moment c records s = ended (records s) := by
  rw [moment, if_neg hclose, hwent]

theorem not_closes_of_state (h : s.chans[c].st ≠ .closing) : ¬Closes c s := fun hc => h hc.1

theorem moment_of_still (records : State → State) (h : s.chans[c].st = .closed ∨ s.chans[c].st = .faulted) :
    moment c records s = ended (records s) :=
  moment_of_idle records (wentOn_of_still h) (not_closes_of_state (by rcases h with h | h <;> rw [h] <;> decide))

/-- Only what the records come to where the channel has gone on counts. -/
theorem moment_congr {records records' : State → State} (h : records (wentOn c s) = records' (wentOn c s)) :
    moment c records s = moment c records' s := by
  rw [moment, moment, h]

/-- A channel's own event as it is handed on in its moment (R89). -/
theorem moment_event (e : Event) (hb : s.cfg.busMaster = true) :
    moment c (fun t => t.takePosts (eventPost s.isOnline s.now e)) s = moment c (afterEvent e) s := by
  refine moment_congr ?_
  have := State.takePosts_event (wentOn c s) e (by rw [wentOn_cfg]; exact hb)
  rwa [show (wentOn c s).isOnline = s.isOnline from by rw [State.isOnline, wentOn_dev, State.isOnline],
    show (wentOn c s).now = s.now from by rw [State.now, wentOn_tim, State.now]] at this

/-- A step of a channel that changes its record alone (R195). -/
theorem done_chanEvent_only (ch : Chan) (hb : s.cfg.busMaster = true) :
    done (s.chanEvent c ch.only) = .next (moment c (fun u => u) (withChan c ch s)) :=
  s.chanEvent_eq c ch.only hb

/-- A step of a channel that changes its record and issues one operation. -/
theorem done_chanEvent_issue (ch : Chan) {env : ChanEnv} (r : OpReq) (hb : s.cfg.busMaster = true) (hsent : env.sent = true) :
    done (s.chanEvent c (ch.issue env r ch.only)) = .next (moment c (fun u => u) ((withChan c ch s).issueReq r)) := by
  rw [s.chanEvent_eq c _ hb, State.chanStep_issue _ _ _ _ _ hsent, Chan.issue_posts _ _ _ hsent]
  rfl

end Moments

/-! ### Stale ends -/

/-- Live operations of a channel stand when one that is not live ends (R69). -/
theorem LinkInv.liveOf_without {s : State} (hinv : LinkInv s) {f : Op} (hf : f ∈ s.link.ops) (hstale : f.mark ≠ .live)
    {c : ChanId} {p : OpKind → Prop} (h : LiveOf c p s) : LiveOf c p (without f s) := by
  obtain ⟨o, ho, hlive, hc, hp⟩ := h
  refine ⟨o, List.mem_filter.2 ⟨ho, bne_iff_ne.2 fun hid => hstale ?_⟩, hlive, hc, hp⟩
  rw [← hinv.eq_of_id ho hf hid]
  exact hlive

/-- A channel with nothing queued, nothing to read and no walk to begin or to end goes on to nothing. -/
theorem moment_of_waiting {c : ChanId} {s : State} (records : State → State) (hq : s.chans[c].queue = [])
    (hp : ¬Primes c s) (hw : s.chans[c].st = .closing → ∃ n, s.chans[c].walk = .walking n) :
    moment c records s = ended (records s) := by
  have hwalks : ¬Walks c s := by
    rintro ⟨hst, -, hwalk, -⟩
    obtain ⟨n, hn⟩ := hw hst
    rw [hwalk] at hn
    cases hn
  have hcloses : ¬Closes c s := by
    rintro ⟨hst, -, hwalk, -⟩
    obtain ⟨n, hn⟩ := hw hst
    rw [hwalk] at hn
    cases hn
  refine moment_of_idle records ?_ hcloses
  rw [wentOn, if_neg (not_writesBack_of_nil hq), if_neg hp, if_neg hwalks, if_neg hcloses]

/-- The discarded end of a channel's stale operation is a moment of the channel (R69, R85). -/
theorem State.done_discarded {s : State} {c : ChanId} {f : Op} (hstale : f.mark = .stale) (hc : f.kind.chan? = some c)
    (hb : s.cfg.busMaster = true) : done (s.discarded f) = .next (moment c (fun u => u) s) := by
  have hevent : s.discarded f = s.chanEvent c s.chans[c].only := by
    rw [State.chanEvent, State.chanAct, State.chanStep_only]
    simp only [State.discarded, hstale, hc]
    rfl
  rw [hevent, done_chanEvent_only _ hb, withChan_self]

/-- Settles O47: a stale end is the channel's moment, which comes to nothing while the channel waits for something else. -/
theorem lateAndStaleEnds : Obligations.LateAndStaleEnds := by
  unfold Obligations.LateAndStaleEnds
  refine ⟨fun id e s => rfl, fun f e s hb hinv hfind => ?_⟩
  have hmem := State.findOp_mem hfind
  have hexec : f.mark ≠ .live → exec (.staleOperationEnd f.id e) s = done ((without f s).discarded f) := by
    intro hmark
    show done (s.staleEnd f.id) = _
    simp only [State.staleEnd, hfind]
    cases h : f.mark with
    | live => exact absurd h hmark
    | stale => rfl
    | dropped => rfl
  refine ⟨fun hgone => ?_, fun c hstale hc => ?_⟩
  · have hkept : (without f s).discarded f = without f s := by
      rcases hgone with hdropped | ⟨hstale, hnone⟩
      · simp only [State.discarded, hdropped]
      · simp only [State.discarded, hstale, hnone]
    rw [hexec (by rcases hgone with h | ⟨h, -⟩ <;> rw [h] <;> decide), hkept, done, State.finish_eq]
  · have hnot : f.mark ≠ .live := by rw [hstale]; decide
    have hmoment : exec (.staleOperationEnd f.id e) s = .next (moment c (fun u => u) (without f s)) :=
      (hexec hnot).trans (State.done_discarded hstale hc hb)
    refine ⟨hmoment, fun hwaits => hmoment.trans (congrArg _ ?_)⟩
    rcases hwaits with hst | hst | ⟨hst, hq⟩ | ⟨hst, hq, hlive⟩ | ⟨hst, hwalk, hq⟩
    · exact moment_of_still _ (.inl hst)
    · exact moment_of_still _ (.inr hst)
    · have hne : s.chans[c].st ≠ .priming ∧ s.chans[c].st ≠ .closing := by
        rcases hst with h | h <;> rw [h] <;> decide
      exact moment_of_waiting _ hq (fun hp => hne.1 hp.1) fun hcl => absurd hcl hne.2
    · refine moment_of_waiting _ hq (fun hp => hp.2.2.2 (hinv.liveOf_without hmem hnot hlive)) fun hcl => ?_
      rw [show (without f s).chans[c].st = .priming from hst] at hcl
      cases hcl
    · refine moment_of_waiting _ hq (fun hp => ?_) fun _ => hwalk
      rw [Primes, show (without f s).chans[c].st = .closing from hst] at hp
      cases hp.1

end Sys2Proof.Machine
end

section
/-! PROOFS. O46: the failure of a channel's live operation. -/

set_option Elab.async false

namespace Sys2Proof.Machine

section Failure

variable {c : ChanId} {s : State}

/-- A live operation of a FAULTED channel there is none: all have become stale (R69, R86). -/
theorem State.chanStep_fault (ch : Chan) (env : ChanEnv) (k : ChanOpKind) (timeout : Bool) :
    s.chanStep c (ch.fault env k timeout) = staleOf c (withChan c (faultedChan (.operation k timeout) ch) s) := by
  have hmark : (s.link.staleChan c .all).ops =
      (staleOf c (withChan c (faultedChan (.operation k timeout) ch) s)).link.ops :=
    List.map_congr_left fun o _ => by simp
  show ({ s with chans := _, link := s.link.staleChan c .all } : State) = _
  rw [show s.link.staleChan c .all = { s.link with ops := (s.link.staleChan c .all).ops } from rfl, hmark]
  rfl

theorem staleOf_chan (ch : Chan) : (staleOf c (withChan c ch s)).chans[c] = ch := withChan_chan c ch s

/-- An open channel is FAULTED by the failure of an operation that has a fault cause (R86). -/
theorem Chan.failure_of_open {ch : Chan} (h : ch.st.Open) (env : ChanEnv) (k : ChanOpKind) (timeout : Bool) :
    ch.failure env (some k) timeout = ch.fault env k timeout := by
  unfold Chan.failure
  rcases h with h | h | h <;> rw [h]

theorem Chan.failure_of_closing {ch : Chan} (h : ch.st = .closing) (env : ChanEnv) (k : Option ChanOpKind)
    (timeout : Bool) : ch.failure env k timeout = ch.failClosing.only := by
  unfold Chan.failure
  rw [h]

/-- The failure of an open channel's operation, while operations are sent (R86). -/
theorem State.done_chanFails_open (h : s.chans[c].st.Open) (hb : s.cfg.busMaster = true) (k : ChanOpKind) (timeout : Bool) :
    done (s.chanFails c (some k) timeout) = .next (ended (afterEvent (.chanFault c (.operation k timeout))
      (staleOf c (withChan c (faultedChan (.operation k timeout) s.chans[c]) s)))) := by
  rw [State.chanFails, Chan.failure_of_open h, s.chanEvent_eq c _ hb, State.chanStep_fault,
    moment_of_still _ (.inr (by rw [staleOf_chan]; rfl))]
  refine congrArg (fun t => Host.Outcome.next (ended t)) ?_
  exact State.takePosts_event (staleOf c (withChan c (faultedChan (.operation k timeout) s.chans[c]) s)) _ hb

/-- The failure of a CLOSING channel's operation, while operations are sent (R85). -/
theorem State.done_chanFails_closing (h : s.chans[c].st = .closing) (hb : s.cfg.busMaster = true) (k : Option ChanOpKind)
    (timeout : Bool) :
    done (s.chanFails c k timeout) = .next (moment c (fun u => u)
      (withChan c { s.chans[c] with closeFailed := true, queue := [], walk := .ended } s)) := by
  rw [State.chanFails, Chan.failure_of_closing h, done_chanEvent_only _ hb]
  rfl

/-- A channel takes the failure of each of its operations itself. -/
theorem State.fails_of_chan {k : OpKind} (h : k.chan? = some c) (timeout : Bool) :
    s.fails k timeout = s.chanFails c k.cause? timeout := by
  cases k <;> cases h <;> rfl

end Failure

/-- Settles O46: whichever row brings the failure, the channel takes it by its state. -/
theorem channelOperationFails : Obligations.ChannelOperationFails := by
  unfold Obligations.ChannelOperationFails
  intro f c timeout cmd s hb hinv hlive hcmd hc
  obtain ⟨hmem, hmark⟩ := State.liveOp_mem hlive
  have hexec : exec cmd s = done ((without f s).chanFails c f.kind.cause? timeout) := by
    rw [← State.fails_of_chan hc, ← hinv.failOp hmem hmark]
    rcases hcmd with ⟨rfl, rfl⟩ | hrow
    · rfl
    · cases hk : f.kind <;> simp only [hk] at hrow
      all_goals subst hrow
      all_goals cases timeout
      all_goals simp only [exec, execDescriptorReadEnd, execDataReadEnd, execDataWriteEnd, execWriteBackEnd,
        execFlushReadEnd, State.descriptorReadEnd, State.dataReadEnd, State.dataWriteEnd, State.writeBackEnd,
        State.flushReadEnd, hlive, Option.map_some, hk]
      all_goals rfl
  refine ⟨fun k hk hopen => ?_, fun hclosing => ?_⟩
  · have hcause : f.kind.cause? = some k := by
      cases hkind : f.kind <;> simp only [hkind] at hk
      all_goals subst hk; rfl
    rw [hexec, hcause]
    exact State.done_chanFails_open (s := without f s) hopen hb k timeout
  · rw [hexec]
    exact State.done_chanFails_closing (s := without f s) hclosing hb _ timeout

end Sys2Proof.Machine
end

section
/-! PROOFS. O48 and O49: descriptor reads, data reads and data writes end. -/

set_option Elab.async false

namespace Sys2Proof.Machine

section Ends

variable {c : ChanId} {s : State}

/-! ### The rows of a channel's live operations -/

theorem exec_descriptorReadEnd {f : Op} {i : Nat} (bytes : List Byte) (hlive : s.liveOp f.id = some f)
    (hkind : f.kind = .descRead c i) :
    exec (.descriptorReadEnd f.id (.data bytes)) s =
      done ((without f s).chanEvent c (s.chans[c].descEnd ((without f s).chanEnv c) i bytes)) := by
  show done (s.descriptorReadEnd f.id _) = _
  simp only [State.descriptorReadEnd, hlive, Option.map_some, hkind]
  rfl

theorem exec_dataReadEnd {f : Op} {seq : Nat} (bytes : List Byte) (hlive : s.liveOp f.id = some f)
    (hkind : f.kind = .dataRead c seq) :
    exec (.dataReadEnd f.id (.data bytes)) s = done ((without f s).chanEvent c (s.chans[c].dataEnd seq bytes)) := by
  show done (s.dataReadEnd f.id _) = _
  simp only [State.dataReadEnd, hlive, Option.map_some, hkind]
  rfl

theorem exec_dataWriteEnd {f : Op} {i : Nat} (hlive : s.liveOp f.id = some f) (hkind : f.kind = .dataWrite c i) :
    exec (.dataWriteEnd f.id .accepted) s = done ((without f s).chanEvent c (s.chans[c].dataAccepted i)) := by
  show done (s.dataWriteEnd f.id _) = _
  simp only [State.dataWriteEnd, hlive, Option.map_some, hkind]
  rfl

theorem exec_writeBackEnd {f : Op} {e : WbEntry} {flush : Bool} (hlive : s.liveOp f.id = some f)
    (hkind : f.kind = .writeBack c e flush) :
    exec (.writeBackEnd f.id .accepted) s =
      done ((without f s).chanEvent c (s.chans[c].writeBackAccepted ((without f s).chanEnv c) e flush)) := by
  show done (s.writeBackEnd f.id _) = _
  simp only [State.writeBackEnd, hlive, Option.map_some, hkind]
  rfl

theorem exec_flushReadEnd {f : Op} {i : Nat} (bytes : List Byte) (hlive : s.liveOp f.id = some f)
    (hkind : f.kind = .flushRead c i) :
    exec (.flushReadEnd f.id (.data bytes)) s =
      done ((without f s).chanEvent c (s.chans[c].flushEnd ((without f s).chanEnv c) i bytes)) := by
  show done (s.flushReadEnd f.id _) = _
  simp only [State.flushReadEnd, hlive, Option.map_some, hkind]
  rfl

/-! ### Descriptor reads -/

section Read

variable {ch : Chan} {env : ChanEnv} {i : Nat} {bytes : List Byte}

theorem readDesc_of_owned (h : descOwned bytes = true) : readDesc i bytes = some (parseDesc i bytes) := if_pos h

theorem readDesc_of_not_owned (h : descOwned bytes = false) : readDesc i bytes = none :=
  if_neg (by rw [h]; exact Bool.false_ne_true)

theorem Chan.descEnd_of_valid (hst : ch.st = .priming ∨ ch.st = .starved) (hown : descOwned bytes = true)
    (hvalid : (parseDesc i bytes).valid = true) : ch.descEnd env i bytes = ch.takeDesc env (parseDesc i bytes) := by
  rcases hst with hst | hst
  · rw [Chan.descEnd, hst, readDesc_of_owned hown]
    exact if_pos hvalid
  · rw [Chan.descEnd, hst, readDesc_of_owned hown]
    exact if_pos hvalid

theorem Chan.descEnd_of_invalid (hst : ch.st = .priming ∨ ch.st = .starved) (hown : descOwned bytes = true)
    (hvalid : ¬(parseDesc i bytes).valid = true) : ch.descEnd env i bytes = ch.queueBad (parseDesc i bytes) := by
  rcases hst with hst | hst
  · rw [Chan.descEnd, hst, readDesc_of_owned hown]
    exact if_neg hvalid
  · rw [Chan.descEnd, hst, readDesc_of_owned hown]
    exact if_neg hvalid

theorem Chan.descEnd_of_hostOwned_starved (hst : ch.st = .starved) (hown : descOwned bytes = false) :
    ch.descEnd env i bytes = ch.only := by
  rw [Chan.descEnd, hst, readDesc_of_not_owned hown]
  rfl

theorem Chan.descEnd_of_hostOwned_priming (hst : ch.st = .priming) (hown : descOwned bytes = false) :
    ch.descEnd env i bytes =
      { ch := (ch.enterStarved env).1, stales := .none, ops := [], posts := (ch.enterStarved env).2 } := by
  rw [Chan.descEnd, hst, readDesc_of_not_owned hown]
  rfl

theorem Chan.descEnd_of_running (hst : ch.st = .running) :
    ch.descEnd env i bytes = ch.lookaheadEnd i (readDesc i bytes) := by
  rw [Chan.descEnd, hst]

theorem Chan.descEnd_of_still (hopen : ¬(ch.st = .priming ∨ ch.st = .starved)) (hrunning : ch.st ≠ .running) :
    ch.descEnd env i bytes = ch.only := by
  rw [Chan.descEnd]
  cases hst : ch.st with
  | priming => exact absurd (.inl hst) hopen
  | starved => exact absurd (.inr hst) hopen
  | running => exact absurd hst hrunning
  | closed => rfl
  | closing => rfl
  | faulted => rfl

/-- The data write is counted against the current descriptor or against a queued one (R74, R79). -/
theorem Chan.dataAccepted_eq : ch.dataAccepted i =
    (match ch.current with
      | some cur =>
        if cur.desc.index = i then { ch with current := some { cur with unaccepted := cur.unaccepted - 1 } }
        else { ch with queue := ch.queue.map (WbEntry.accept i) }
      | none => { ch with queue := ch.queue.map (WbEntry.accept i) } : Chan).only := by
  cases hcur : ch.current with
  | none => simp only [Chan.dataAccepted, hcur]
  | some cur =>
    simp only [Chan.dataAccepted, hcur]
    exact (apply_ite Chan.only _ _ _).symm

end Read

variable (hb : s.cfg.busMaster = true)

include hb

/-- A device-owned, valid descriptor taken (R73, R75). -/
theorem State.done_takeDesc (ch : Chan) (d : Desc) :
    done (s.chanEvent c (ch.takeDesc (s.chanEnv c) d)) = .next (
      if ch.dir = .rx then
        moment c (fun u => u) (withChan c
          { ch with st := .running, current := some (freshCopy d), lookahead := none, deferred := false } s)
      else moment c (fun u => u) (issued (.dataRead c ch.readSeq) d.buffer ch.slots.length []
        (withChan c { ch with
          st := .running, current := some (freshCopy d), lookahead := none, deferred := false
          readSeq := ch.readSeq + 1, due := some ch.readSeq, ready := none } s))) := by
  unfold Chan.takeDesc
  cases hdir : ch.dir with
  | rx =>
    rw [if_pos rfl]
    exact done_chanEvent_only _ hb
  | tx =>
    have haddr : ch.frameAddr d 1 = d.buffer := by simp [Chan.frameAddr]
    rw [if_neg (fun e => Dir.noConfusion e)]
    dsimp only
    rw [done_chanEvent_issue _ _ hb hb, State.issueReq_eq, Chan.dataRead, haddr]
    rfl

theorem State.done_queueBad (ch : Chan) (d : Desc) :
    done (s.chanEvent c (ch.queueBad d)) =
      .next (moment c (fun u => u) (withChan c { ch with queue := ch.queue ++ [unmoved d .bad] } s)) :=
  done_chanEvent_only _ hb

/-- Entry to STARVED, with CHAN_STARVED when the latch is clear and the device ONLINE (R81). -/
theorem State.done_enterStarved (ch : Chan) :
    done (s.chanEvent c { ch := (ch.enterStarved (s.chanEnv c)).1, stales := .none, ops := []
                          posts := (ch.enterStarved (s.chanEnv c)).2 }) = .next (
      if ch.latch = true ∨ s.dev.st ≠ .online then moment c (fun u => u) (withChan c { ch with st := .starved } s)
      else moment c (afterEvent (.chanStarved c)) (withChan c { ch with st := .starved, latch := true } s)) := by
  rw [s.chanEvent_eq c _ hb]
  by_cases hsilent : ch.latch = true ∨ s.dev.st ≠ .online
  · have hno : ((s.chanEnv c).online && !ch.latch) = false := by
      rw [Bool.and_eq_false_iff]
      exact hsilent.symm.imp (fun h => decide_eq_false h) fun h => by rw [h]; rfl
    rw [if_pos hsilent, Chan.enterStarved, hno]
    rfl
  · obtain ⟨hlatch, honline⟩ := not_or.1 hsilent
    have hyes : ((s.chanEnv c).online && !ch.latch) = true := by
      rw [Bool.and_eq_true, Bool.not_eq_true', Bool.eq_false_iff]
      exact ⟨decide_eq_true (not_not.1 honline), hlatch⟩
    rw [if_neg hsilent, Chan.enterStarved, hyes]
    refine congrArg _ ?_
    exact moment_event (s := withChan c { ch with st := .starved, latch := true } s) (.chanStarved c) hb

/-- A step that changes nothing of the channel (R89). -/
theorem State.done_nothing : done (s.chanEvent c s.chans[c].only) = .next (moment c (fun u => u) s) := by
  rw [done_chanEvent_only _ hb, withChan_self]

end Ends

/-- Settles O48: by the channel's state, the descriptor's owner and its validity. -/
theorem descriptorReadEnd : Obligations.DescriptorReadEnd := by
  unfold Obligations.DescriptorReadEnd
  intro f c i bytes s hb _ hlive hkind
  dsimp only
  have hb' : (without f s).cfg.busMaster = true := hb
  rw [exec_descriptorReadEnd bytes hlive hkind]
  by_cases hopen : s.chans[c].st = .priming ∨ s.chans[c].st = .starved
  · rw [if_pos hopen]
    by_cases hown : descOwned bytes = false
    · rw [if_pos hown]
      by_cases hstarved : s.chans[c].st = .starved
      · rw [if_pos hstarved, Chan.descEnd_of_hostOwned_starved hstarved hown]
        exact State.done_nothing hb'
      · rw [if_neg hstarved, Chan.descEnd_of_hostOwned_priming (hopen.resolve_right hstarved) hown]
        exact State.done_enterStarved hb' _
    · have howned : descOwned bytes = true := Bool.of_not_eq_false hown
      rw [if_neg hown]
      by_cases hvalid : (parseDesc i bytes).valid = true
      · rw [if_pos ((Desc.valid_iff _).1 hvalid), Chan.descEnd_of_valid hopen howned hvalid]
        exact State.done_takeDesc hb' _ _
      · rw [if_neg (mt (Desc.valid_iff _).2 hvalid), Chan.descEnd_of_invalid hopen howned hvalid]
        exact State.done_queueBad hb' _ _
  · rw [if_neg hopen]
    by_cases hrunning : s.chans[c].st = .running
    · rw [if_pos hrunning, Chan.descEnd_of_running hrunning]
      exact done_chanEvent_only _ hb'
    · rw [if_neg hrunning, Chan.descEnd_of_still hopen hrunning]
      exact State.done_nothing hb'

/-- Settles O49: a data read by the frame that is due, an accepted write by the descriptor it belongs to. -/
theorem dataEnds : Obligations.DataEnds := by
  unfold Obligations.DataEnds
  intro f c s hb _ hlive
  have hb' : (without f s).cfg.busMaster = true := hb
  refine ⟨fun seq bytes hkind => ?_, fun i hkind => ?_⟩
  · rw [exec_dataReadEnd bytes hlive hkind, Chan.dataEnd]
    by_cases hdue : s.chans[c].due = some seq
    · rw [if_pos hdue, if_pos hdue]
      exact done_chanEvent_only _ hb'
    · rw [if_neg hdue, if_neg hdue]
      exact State.done_nothing hb'
  · rw [exec_dataWriteEnd hlive hkind, Chan.dataAccepted_eq]
    exact done_chanEvent_only _ hb'

end Sys2Proof.Machine
end

section
/-! PROOFS. O52: the channel's own steps. -/

set_option Elab.async false

namespace Sys2Proof.Machine

section Issued

variable {c : ChanId} {s : State}

theorem ended_eq_self_of_ops (h : s.link.ops ≠ []) : ended s = s :=
  if_neg fun e => h (e.elim (fun e => e.2.2) fun e => e.2)

theorem issued_ops_ne_nil (k : OpKind) (a : Addr) (n : Nat) (d : List Byte) (s : State) :
    (issued k a n d s).link.ops ≠ [] := List.append_ne_nil_of_right_ne_nil _ (List.cons_ne_nil _ _)

/-- An operation just issued is live (R195). -/
theorem liveOf_issued {k : OpKind} (p : OpKind → Prop) (hk : k.chan? = some c) (hp : p k) (a : Addr) (n : Nat)
    (d : List Byte) (s : State) : LiveOf c p (issued k a n d s) :=
  ⟨_, List.mem_append_right _ (List.mem_singleton_self _), rfl, hk, hp⟩

/-- A channel that has issued its write-back waits for it (R79). -/
theorem moment_writeBackIssued (records : State → State) (e : WbEntry) (hq : s.chans[c].queue ≠ []) :
    moment c records (writeBackIssued c e false s) = ended (records (writeBackIssued c e false s)) :=
  moment_of_idle records
    (wentOn_of_waits (fun h => h.2.1 (liveOf_issued (fun k => k.isWriteBack = true) rfl rfl _ _ _ s)) hq)
    fun h => hq h.2.1

/-- A PRIMING channel that has issued its descriptor read waits for it (R72). -/
theorem moment_descReadIssued (records : State → State) (i : Nat) (hst : s.chans[c].st = .priming)
    (hq : s.chans[c].queue = []) :
    moment c records (descReadIssued c i s) = ended (records (descReadIssued c i s)) :=
  moment_of_waiting records hq (fun h => h.2.2.2 (liveOf_issued (fun k => k.isDescRead = true) rfl rfl _ _ _ s))
    fun h => ChanState.noConfusion (hst.symm.trans h)

/-- A channel on its flush walk goes on to nothing (R84). -/
theorem moment_of_walking (records : State → State) {n : Nat} (hst : s.chans[c].st = .closing)
    (hq : s.chans[c].queue = []) (hwalk : s.chans[c].walk = .walking n) : moment c records s = ended (records s) :=
  moment_of_waiting records hq (fun h => ChanState.noConfusion (hst.symm.trans h.1)) fun _ => ⟨n, hwalk⟩

/-- A step of a channel that issues a write-back, while operations are sent (R79, R84). -/
theorem State.done_writeBack (e : WbEntry) (flush : Bool) (hb : s.cfg.busMaster = true) :
    done (s.chanEvent c (s.chans[c].issue (s.chanEnv c) (s.chans[c].writeBack (s.chanEnv c) e flush) s.chans[c].only)) =
      .next (moment c (fun u => u) (writeBackIssued c e flush s)) := by
  rw [done_chanEvent_issue _ _ hb hb, withChan_self, State.issueReq_eq]
  rfl

/-- A step of a channel that issues a descriptor read, while operations are sent (R72, R77). -/
theorem State.done_descRead (ch : Chan) (i : Nat) (hb : s.cfg.busMaster = true) :
    done (s.chanEvent c (ch.issue (s.chanEnv c) (ch.descRead (s.chanEnv c) i) ch.only)) =
      .next (moment c (fun u => u) (descReadIssued c i (withChan c ch s))) := by
  rw [done_chanEvent_issue _ _ hb hb, State.issueReq_eq, descReadIssued, withChan_chan]
  rfl

/-- A step of a channel that issues a flush read, while operations are sent (R84). -/
theorem State.done_flushRead (ch : Chan) (hb : s.cfg.busMaster = true) :
    done (s.chanEvent c (ch.issue (s.chanEnv c) (ch.flushRead (s.chanEnv c)) ch.only)) =
      .next (moment c (fun u => u) (flushReadIssued c (withChan c ch s))) := by
  rw [done_chanEvent_issue _ _ hb hb, State.issueReq_eq, flushReadIssued, withChan_chan]
  rfl

end Issued

/-! ### The rows -/

section Rows

variable {c : ChanId} {s : State}

theorem State.chanStepIf_of {can : Chan → ChanEnv → Bool} (step : Chan → ChanEnv → ChanOut)
    (h : can s.chans[c] (s.chanEnv c) = true) :
    s.chanStepIf c can step = s.chanEvent c (step s.chans[c] (s.chanEnv c)) := if_pos h

theorem Chan.inQueue_eq_false (ch : Chan) (i : Nat) : ch.inQueue i = false ↔ ∀ e ∈ ch.queue, e.desc.index ≠ i := by
  simp [Chan.inQueue]

/-- The deferred lookahead read is allowed when the next index has left the queue (R77). -/
theorem Chan.canLookahead_of {ch : Chan} {cur : Current} (env : ChanEnv) (hst : ch.st = .running)
    (hdef : ch.deferred = true) (hcur : ch.current = some cur)
    (hq : ∀ e ∈ ch.queue, e.desc.index ≠ (cur.desc.index + 1) % ch.ringSize) : ch.canLookahead env = true := by
  have hleft : ch.inQueue (ch.nextIndex cur.desc.index) = false := (ch.inQueue_eq_false _).2 hq
  simp only [Chan.canLookahead, hst, hdef, hcur, hleft]
  rfl

theorem Chan.issueDeferred_eq {ch : Chan} {cur : Current} (env : ChanEnv) (hcur : ch.current = some cur) :
    ch.issueDeferred env =
      ({ ch with deferred := false } : Chan).issue env
        (({ ch with deferred := false } : Chan).descRead env ((cur.desc.index + 1) % ch.ringSize))
        ({ ch with deferred := false } : Chan).only := by
  simp only [Chan.issueDeferred, hcur]
  rfl

end Rows

/-- Settles O52: each step is allowed by its row's conditions, and what it issues, or the closing, leaves the channel nothing
to go on to. -/
theorem channelOwnSteps : Obligations.ChannelOwnSteps := by
  unfold Obligations.ChannelOwnSteps
  intro c s hb
  refine ⟨fun e rest hq hready hnone hst => ?_, fun cur hst hdef hcur hq => ?_, fun hst hq hcur hnone => ?_,
    fun hst hq hwalk hok => ?_, fun hst hq hwalk hnone => ?_⟩
  · have hwrites : WritesBack c s := ⟨⟨e, by rw [hq]; rfl, hready⟩, hnone, hst⟩
    have hissue : s.chans[c].issueWriteBack (s.chanEnv c) =
        s.chans[c].issue (s.chanEnv c) (s.chans[c].writeBack (s.chanEnv c) e false) s.chans[c].only := by
      simp only [Chan.issueWriteBack, hq]
    show done (s.chanStepIf c _ _) = _
    rw [State.chanStepIf_of _ ((s.canWriteBack_iff c).2 hwrites), hissue, State.done_writeBack e false hb,
      moment_writeBackIssued _ e (by rw [hq]; exact List.cons_ne_nil _ _)]
    exact congrArg _ (ended_eq_self_of_ops (issued_ops_ne_nil _ _ _ _ _))
  · show done (s.chanStepIf c _ _) = _
    rw [State.chanStepIf_of _ (Chan.canLookahead_of _ hst hdef hcur hq), Chan.issueDeferred_eq _ hcur]
    exact State.done_descRead _ _ hb
  · show done (s.chanStepIf c _ _) = _
    rw [State.chanStepIf_of _ ((s.canPrime_iff c).2 ⟨hst, hq, hcur, hnone⟩), Chan.issuePriming,
      State.done_descRead _ _ hb, withChan_self, moment_descReadIssued _ _ hst hq]
    exact congrArg _ (ended_eq_self_of_ops (issued_ops_ne_nil _ _ _ _ _))
  · have hbegin : s.chans[c].beginWalk (s.chanEnv c) =
        ({ s.chans[c] with walk := .walking 0 } : Chan).issue (s.chanEnv c)
          (({ s.chans[c] with walk := .walking 0 } : Chan).flushRead (s.chanEnv c))
          ({ s.chans[c] with walk := .walking 0 } : Chan).only := rfl
    have hch : (flushReadIssued c (withChan c { s.chans[c] with walk := .walking 0 } s)).chans[c] =
        { s.chans[c] with walk := .walking 0 } := withChan_chan c _ s
    show done (s.chanStepIf c _ _) = _
    rw [State.chanStepIf_of _ ((s.canWalk_iff c).2 ⟨hst, hq, hwalk, hok⟩), hbegin, State.done_flushRead _ hb,
      moment_of_walking (n := 0) _ (by rw [hch]; exact hst) (by rw [hch]; exact hq) (by rw [hch])]
    exact congrArg _ (ended_eq_self_of_ops (issued_ops_ne_nil _ _ _ _ _))
  · have hstep : s.chanStep c (s.chans[c].finishClose (s.chanEnv c)) = withChan c { s.chans[c] with st := .closed } s := rfl
    show done (s.chanStepIf c _ _) = _
    rw [State.chanStepIf_of _ ((s.canClose_iff c).2 ⟨hst, hq, hwalk, hnone⟩), s.chanEvent_eq c _ hb, hstep,
      moment_of_still _ (.inl (congrArg Chan.st (withChan_chan c { s.chans[c] with st := .closed } s)))]
    refine congrArg (fun t => Host.Outcome.next (ended t)) ?_
    exact State.takePosts_event (withChan c { s.chans[c] with st := .closed } s) _ hb

end Sys2Proof.Machine
end

section
/-! PROOFS. O50 and O51: accepted write-backs and the flush walk. -/

set_option Elab.async false

namespace Sys2Proof.Machine

section Written

variable {c : ChanId} {s : State}

/-- A record offered while the device is ONLINE and operations are sent (R168, R169). -/
theorem State.offer_eq (n : RingId) (r : Record) (honline : s.dev.st = .online) (hb : s.cfg.busMaster = true) :
    s.offer n r = afterOffer n r s := by
  rw [State.offer, if_pos (isOnline_iff.2 honline), afterOffer]
  by_cases hfull : (s.ring n).full = true
  · have hno : ¬s.comp.rings[n].unconsumed < s.comp.rings[n].size :=
      fun h => Bool.false_ne_true (((Ring.full_iff _).2 h).symm.trans hfull)
    rw [if_pos hfull, if_neg hno]
    rfl
  · have hspace : s.comp.rings[n].unconsumed < s.comp.rings[n].size :=
      (Ring.full_iff _).1 (Bool.eq_false_iff.2 hfull)
    rw [if_neg hfull, if_pos hspace, State.place_eq _ _ _ hb]

/-- What a channel goes on to leaves its completion ring (R79, R85). -/
theorem wentOn_complRing : (wentOn c s).chans[c].complRing = s.chans[c].complRing := by
  unfold wentOn
  split_ifs
  · split <;> rfl
  · rfl
  · show (withChan c _ s).chans[c].complRing = _
    rw [withChan_chan]
  · rw [withChan_chan]
  · rfl

/-- The BUFFER_DONE of an accepted write-back as it is handed on in its moment (R89, R110). -/
theorem moment_bufferDone {t : State} (ch : Chan) (e : WbEntry) (hb : t.cfg.busMaster = true) (hdev : t.dev = s.dev)
    (hring : t.chans[c].complRing = ch.complRing) :
    moment c (fun u => u.takePosts (ch.bufferDone (s.chanEnv c) e)) t = moment c (afterBufferDone c e) t := by
  refine moment_congr ?_
  have hwent : (wentOn c t).dev = s.dev := (wentOn_dev c t).trans hdev
  have hring' : (wentOn c t).chans[c].complRing = ch.complRing := wentOn_complRing.trans hring
  have hb' : (wentOn c t).cfg.busMaster = true := by rw [wentOn_cfg]; exact hb
  rw [afterBufferDone, hwent, hring']
  by_cases hposts : s.dev.st = .online ∧ e.desc.notify = true
  · have hyes : ((s.chanEnv c).online && e.desc.notify) = true := by
      rw [hposts.2, Bool.and_true]
      exact decide_eq_true hposts.1
    rw [if_pos hposts, Chan.bufferDone, if_pos hyes]
    exact State.offer_eq _ _ (by rw [hwent]; exact hposts.1) hb'
  · have hno : ¬((s.chanEnv c).online && e.desc.notify) = true := fun h =>
      hposts ⟨of_decide_eq_true (Bool.and_eq_true_iff.1 h).1, (Bool.and_eq_true_iff.1 h).2⟩
    rw [if_neg hposts, Chan.bufferDone, if_neg hno]
    rfl

variable (hb : s.cfg.busMaster = true)

include hb

/-- A step of a channel that changes its record and hands on a BUFFER_DONE. -/
theorem State.done_bufferDone {ch : Chan} (e : WbEntry) (hring : ch.complRing = s.chans[c].complRing) :
    done (s.chanEvent c { ch := ch, stales := .none, ops := [], posts := s.chans[c].bufferDone (s.chanEnv c) e }) =
      .next (moment c (afterBufferDone c e) (withChan c ch s)) := by
  rw [s.chanEvent_eq c _ hb]
  exact congrArg _ (moment_bufferDone _ e hb rfl ((congrArg Chan.complRing (withChan_chan c ch s)).trans hring))

/-- A step of a channel that changes its record, issues an operation and hands on a BUFFER_DONE. -/
theorem State.done_bufferDone_issue {ch : Chan} (r : OpReq) (e : WbEntry) (hring : ch.complRing = s.chans[c].complRing) :
    done (s.chanEvent c { ch.issue (s.chanEnv c) r ch.only with
        posts := s.chans[c].bufferDone (s.chanEnv c) e ++ (ch.issue (s.chanEnv c) r ch.only).posts }) =
      .next (moment c (afterBufferDone c e) ((withChan c ch s).issueReq r)) := by
  have hstep : s.chanStep c { ch.issue (s.chanEnv c) r ch.only with
        posts := s.chans[c].bufferDone (s.chanEnv c) e ++ (ch.issue (s.chanEnv c) r ch.only).posts } =
      (withChan c ch s).issueReq r := State.chanStep_issue s c ch (s.chanEnv c) r hb
  rw [s.chanEvent_eq c _ hb, hstep, Chan.issue_posts _ _ _ hb, List.append_nil]
  refine congrArg _ (moment_bufferDone _ e ?_ ?_ ?_)
  · rw [State.issueReq_cfg]
    exact hb
  · rw [State.issueReq_dev]
    rfl
  · rw [show ((withChan c ch s).issueReq r).chans = (withChan c ch s).chans from State.issueReq_chans r _, withChan_chan,
      hring]

end Written

/-! ### Acceptances and flush reads -/

section Steps

variable {ch : Chan} {env : ChanEnv} {e : WbEntry}

/-- A deferred lookahead read waits for the write-back of the index it reads (R77). -/
theorem Chan.lookaheadWaits_iff (ch : Chan) (i : Nat) : ch.lookaheadWaits i = true ↔
    ch.st = .running ∧ ch.deferred = true ∧ ∃ cur, ch.current = some cur ∧ (cur.desc.index + 1) % ch.ringSize = i := by
  rw [Chan.lookaheadWaits, Bool.and_eq_true, Bool.and_eq_true, decide_eq_true_iff]
  cases ch.current with
  | none => simp
  | some cur => simp [Chan.nextIndex]; tauto

/-- The record of a channel whose oldest write-back has been accepted (R79, R97). -/
def Chan.dequeued (ch : Chan) : Chan := { ch with queue := ch.queue.drop 1, pos := (ch.pos + 1) % ch.ringSize }

theorem Chan.dequeued_eq (ch : Chan) : ({ ch with queue := ch.queue.tail } : Chan).advance = ch.dequeued := by
  rw [Chan.dequeued, List.drop_one]
  rfl

theorem Chan.wroteBack_of_not_waits (h : ¬ch.dequeued.lookaheadWaits e.desc.index = true) :
    ch.writeBackAccepted env e false =
      { ch := ch.dequeued, stales := .none, ops := [], posts := ch.bufferDone env e } := by
  show ch.wroteBack env e = _
  rw [Chan.wroteBack, Chan.dequeued_eq]
  rw [if_neg h]
  simp [Chan.only]

theorem Chan.wroteBack_of_waits {cur : Current} (h : ch.dequeued.lookaheadWaits e.desc.index = true)
    (hcur : ch.current = some cur) :
    ch.writeBackAccepted env e false =
      (let ch1 : Chan := { ch.dequeued with deferred := false }
       let o := ch1.issue env (ch1.descRead env ((cur.desc.index + 1) % ch.ringSize)) ch1.only
       { o with posts := ch.bufferDone env e ++ o.posts }) := by
  show ch.wroteBack env e = _
  rw [Chan.wroteBack, Chan.dequeued_eq]
  rw [if_pos h, Chan.issueDeferred_eq env (show ch.dequeued.current = some cur from hcur)]
  rfl

/-- An accepted FLUSHED write-back with descriptors left to visit (R84). -/
theorem Chan.flushed_of_left {n : Nat} (hwalk : ch.walk = .walking n) (h : n + 1 < ch.ringSize) :
    ch.writeBackAccepted env e true =
      (let ch1 : Chan := { ch with pos := (ch.pos + 1) % ch.ringSize, walk := .walking (n + 1) }
       let o := ch1.issue env (ch1.flushRead env) ch1.only
       { o with posts := ch.bufferDone env e ++ o.posts }) := by
  show ch.flushed env e = _
  simp only [Chan.flushed, hwalk]
  rw [if_neg (Nat.not_le.2 h)]
  rfl

/-- An accepted FLUSHED write-back of the last descriptor of the ring (R84). -/
theorem Chan.flushed_of_whole {n : Nat} (hwalk : ch.walk = .walking n) (h : ¬n + 1 < ch.ringSize) :
    ch.writeBackAccepted env e true =
      { ch := { ch with pos := (ch.pos + 1) % ch.ringSize, walk := .ended }
        stales := .none, ops := [], posts := ch.bufferDone env e } := by
  show ch.flushed env e = _
  simp only [Chan.flushed, hwalk]
  rw [if_pos (Nat.not_lt.1 h)]
  rfl

theorem Chan.flushEnd_of_owned {i : Nat} {bytes : List Byte} (h : descOwned bytes = true) :
    ch.flushEnd env i bytes = ch.issue env (ch.writeBack env (unmoved (parseDesc i bytes) .flushed) true) ch.only := by
  rw [Chan.flushEnd, readDesc_of_owned h]
  rfl

theorem Chan.flushEnd_of_hostOwned {i : Nat} {bytes : List Byte} (h : descOwned bytes = false) :
    ch.flushEnd env i bytes = ({ ch with walk := .ended } : Chan).only := by
  rw [Chan.flushEnd, readDesc_of_not_owned h]

end Steps

/-- Settles O50: the step takes the entry out of the queue, and the deferred read waits for it or does not. -/
theorem writeBackEnd : Obligations.WriteBackEnd := by
  unfold Obligations.WriteBackEnd
  intro f c e s hb _ hlive hkind
  have hb' : (without f s).cfg.busMaster = true := hb
  have hwaits := s.chans[c].dequeued.lookaheadWaits_iff e.desc.index
  refine ⟨fun hno => ?_, fun cur hst hdef hcur hnext => ?_⟩
  · rw [exec_writeBackEnd hlive hkind, Chan.wroteBack_of_not_waits (mt hwaits.1 hno)]
    exact State.done_bufferDone (s := without f s) hb' e rfl
  · have hsame : ∀ ch ch' : Chan, withChan c ch' (withChan c ch (without f s)) = withChan c ch' (without f s) :=
      fun ch ch' => by simp [withChan]
    rw [exec_writeBackEnd hlive hkind, Chan.wroteBack_of_waits (hwaits.2 ⟨hst, hdef, cur, hcur, hnext⟩) hcur, hnext, hsame,
      descReadIssued, withChan_chan]
    have hdone := State.done_bufferDone_issue (s := without f s) (c := c)
      (ch := { s.chans[c].dequeued with deferred := false }) hb'
      (.read (.descRead c e.desc.index) (s.chans[c].descAddr e.desc.index) 32) e rfl
    rw [State.issueReq_eq] at hdone
    exact hdone

/-- Settles O51: each end is one step of the walk. -/
theorem flushWalkGoesOn : Obligations.FlushWalkGoesOn := by
  unfold Obligations.FlushWalkGoesOn
  intro f c n s hb _ hlive hst hq hwalk
  have hb' : (without f s).cfg.busMaster = true := hb
  refine ⟨fun i bytes hkind => ?_, fun e hkind => ?_⟩
  · rw [exec_flushReadEnd bytes hlive hkind]
    cases hown : descOwned bytes with
    | true =>
      rw [Chan.flushEnd_of_owned hown, if_pos rfl]
      refine (State.done_writeBack (s := without f s) _ true hb').trans (congrArg _ ?_)
      rw [moment_of_walking _ (show (writeBackIssued c _ true (without f s)).chans[c].st = _ from hst) hq hwalk]
      exact ended_eq_self_of_ops (issued_ops_ne_nil _ _ _ _ _)
    | false =>
      rw [Chan.flushEnd_of_hostOwned hown, if_neg Bool.false_ne_true]
      exact done_chanEvent_only _ hb'
  · rw [exec_writeBackEnd hlive hkind]
    dsimp only
    by_cases hleft : n + 1 < s.chans[c].ringSize
    · rw [if_pos hleft, Chan.flushed_of_left hwalk hleft, flushReadIssued, withChan_chan]
      have hdone := State.done_bufferDone_issue (s := without f s) (c := c)
        (ch := { s.chans[c] with pos := (s.chans[c].pos + 1) % s.chans[c].ringSize, walk := .walking (n + 1) }) hb'
        (.read (.flushRead c ((s.chans[c].pos + 1) % s.chans[c].ringSize))
          (s.chans[c].descAddr ((s.chans[c].pos + 1) % s.chans[c].ringSize)) 32) e rfl
      rw [State.issueReq_eq] at hdone
      exact hdone
    · rw [if_neg hleft, Chan.flushed_of_whole hwalk hleft]
      exact State.done_bufferDone (s := without f s) hb' e rfl

end Sys2Proof.Machine
end

section
/-! PROOFS. O17: what is issued with bus mastering disabled. -/

set_option Elab.async false

namespace Sys2Proof.Machine

/-! ### Records -/

section Unsent

variable {s : State} (hb : s.cfg.busMaster = false) (honline : s.dev.st = .online)

theorem done_of_halted {t : State} (h : t.dev.st = .halted) : done t = .next t := by
  rw [done, State.finish_eq_self _ (fun e => DeviceState.noConfusion (h.symm.trans e.1)) fun e =>
    DeviceState.noConfusion (h.symm.trans e.1)]

theorem unsentRecord_of_space {n : RingId} (h : s.comp.rings[n].unconsumed < s.comp.rings[n].size) :
    unsentRecord n s = afterHalt .completionWrite
      { s with comp := { s.comp with rings := s.comp.rings.set n s.comp.rings[n].placed } } := if_pos h

theorem unsentRecord_of_full {n : RingId} (h : ¬s.comp.rings[n].unconsumed < s.comp.rings[n].size) :
    unsentRecord n s = { s with comp := { s.comp with rings := s.comp.rings.set n s.comp.rings[n].dropped } } := if_neg h

theorem State.full_of_not_space {n : RingId} (h : ¬s.comp.rings[n].unconsumed < s.comp.rings[n].size) :
    (s.ring n).full = true := Bool.of_not_eq_false (mt (Ring.full_iff _).1 h)

theorem State.not_full_of_space {n : RingId} (h : s.comp.rings[n].unconsumed < s.comp.rings[n].size) :
    (s.ring n).full = false := (Ring.full_iff _).2 h

include honline in
/-- An unsent record leaves nothing to come about. -/
theorem done_unsentRecord (n : RingId) : done (unsentRecord n s) = .next (unsentRecord n s) := by
  by_cases hspace : s.comp.rings[n].unconsumed < s.comp.rings[n].size
  · rw [unsentRecord_of_space hspace]
    exact done_of_halted rfl
  · rw [unsentRecord_of_full hspace]
    exact done_online _ honline

include hb

/-- A record placed in a ring with space halts the device (R178, R195). -/
theorem State.place_eq_unsent {n : RingId} (rec : Record) (h : s.comp.rings[n].unconsumed < s.comp.rings[n].size) :
    s.place n rec = unsentRecord n s := by
  rw [State.place_unsent _ _ _ hb, unsentRecord_of_space h]

include honline

/-- A record offered with bus mastering disabled (R169, R178). -/
theorem State.offer_unsent (n : RingId) (rec : Record) : s.offer n rec = unsentRecord n s := by
  rw [State.offer, if_pos (isOnline_iff.2 honline)]
  by_cases hspace : s.comp.rings[n].unconsumed < s.comp.rings[n].size
  · rw [if_neg (Bool.eq_false_iff.1 (State.not_full_of_space hspace)), State.place_eq_unsent hb rec hspace]
  · rw [if_pos (State.full_of_not_space hspace), unsentRecord_of_full hspace]
    rfl

/-- A REQUEST_DONE handed on with bus mastering disabled: placed it halts the device; in a full ring it is dropped after a
STOP and held otherwise (R170, R177, R178). -/
theorem State.handDone_unsent (n : RingId) (d : ReqDone) :
    s.handDone n d =
      if s.comp.rings[n].unconsumed < s.comp.rings[n].size then unsentRecord n s
      else if s.dev.stopPending then
        { unsentRecord n s with
          proc := { s.proc with st := .stopped, hand := none }
          mc := { s.mc with targets := [], entries := [] } }
      else afterDone n d s := by
  have hon : ¬(!s.isOnline) = true := by rw [isOnline_iff.2 honline]; decide
  rw [State.handDone, if_neg hon]
  by_cases hspace : s.comp.rings[n].unconsumed < s.comp.rings[n].size
  · have hfull : (!(s.ring n).full) = true := by rw [State.not_full_of_space hspace]; rfl
    have hhalted : ¬(unsentRecord n s).isOnline = true := by
      rw [unsentRecord_of_space hspace, isOnline_iff]
      exact fun h => DeviceState.noConfusion h
    rw [if_pos hspace, if_pos hfull, State.placeDone, State.place_eq_unsent hb _ hspace, if_neg hhalted]
  · have hfull : ¬(!(s.ring n).full) = true := by rw [State.full_of_not_space hspace]; decide
    rw [if_neg hspace, if_neg hfull]
    by_cases hstop : s.dev.stopPending = true
    · rw [if_pos hstop, if_pos hstop, unsentRecord_of_full hspace]
      exact if_pos hstop
    · rw [if_neg hstop, if_neg hstop, afterDone, if_neg hspace, if_neg hstop]
      rfl

end Unsent

/-! ### Requests -/

section Requests

variable {f : Op} {r : ReqRecord} {s : State}

/-- A fetched request whose header passes goes to its kind's meaning (R149). -/
theorem State.request_of_passes (hst : s.proc.st = .fetching) (hlive : s.liveOpOf .requestFetch = some f)
    (hr : HeaderPasses r s) (body : ReqRecord → Hand → State → State) :
    s.request r body = body r { ring := ringOf r, tag := r.tag, frame := 0 } (executing f s) := by
  have hfetched : s.fetched = some (executing f s) := by
    rw [State.fetched, hlive]
    exact if_pos hst
  have hring : (executing f s).ringOk r = true := decide_eq_true hr.1
  have hheader : headerOk r = true := by simp [headerOk, hr.2.1, hr.2.2]
  rw [State.request, hfetched]
  simp [hring, hheader, State.replyHand, ringOf]

/-- The completion of a request with bus mastering disabled (R178, R195). -/
theorem done_finishRequest_unsent (hb : s.cfg.busMaster = false) (honline : s.dev.st = .online) (st : Status) :
    done (State.finishRequest { ring := ringOf r, tag := r.tag, frame := 0 } st 0 0 (executing f s)) = .next
      (if s.comp.rings[ringOf r].unconsumed < s.comp.rings[ringOf r].size then unsentRecord (ringOf r) (inHand f s)
       else if s.dev.stopPending then
        { unsentRecord (ringOf r) (inHand f s) with
          proc := { (inHand f s).proc with st := .stopped, hand := none }
          mc := { s.mc with targets := [], entries := [] } }
       else answer r st 0 (inHand f s)) := by
  show done (State.handDone (ringOf r) _ (executing f s)) = _
  rw [State.handDone_unsent (s := executing f s) hb honline]
  by_cases hspace : s.comp.rings[ringOf r].unconsumed < s.comp.rings[ringOf r].size
  · have hspace' : (executing f s).comp.rings[ringOf r].unconsumed < (executing f s).comp.rings[ringOf r].size := hspace
    rw [if_pos hspace, if_pos hspace', unsentRecord_of_space hspace', unsentRecord_of_space (s := inHand f s) hspace]
    exact done_of_halted rfl
  · have hfull : ¬(executing f s).comp.rings[ringOf r].unconsumed < (executing f s).comp.rings[ringOf r].size := hspace
    have hfull' : ¬(inHand f s).comp.rings[ringOf r].unconsumed < (inHand f s).comp.rings[ringOf r].size := hspace
    rw [if_neg hspace, if_neg hfull]
    by_cases hstop : s.dev.stopPending = true
    · rw [if_pos hstop, if_pos (show (executing f s).dev.stopPending = true from hstop),
        unsentRecord_of_full hfull, unsentRecord_of_full hfull']
      exact done_online _ honline
    · rw [if_neg hstop, if_neg (show ¬(executing f s).dev.stopPending = true from hstop)]
      refine (congrArg done (afterDone_st _ _ .executing (inHand f s))).trans (done_online _ ?_)
      rw [afterDone, if_neg hfull', if_neg (show ¬(inHand f s).dev.stopPending = true from hstop)]
      exact honline

theorem nopBody_of_zero (hzero : ∀ i < 56, byteAt r.body i = 0) (h : Hand) :
    nopBody r h s = s.finishRequest h .ok 0 0 := if_pos (reservedOk_of_zero hzero)

/-- A query whose result write is not sent completes with MEMORY_ERROR (R152, R195). -/
theorem qtimeBody_unsent (hb : s.cfg.busMaster = false) (haddr : reqField r 0x10 8 % 64 = 0)
    (hreserved : reservedOk r [(0x08, 1), (0x10, 8)] = true) (hitem : reqByte r 0x08 = 1 ∨ reqByte r 0x08 = 2)
    (h : Hand) : qtimeBody r h s = s.finishRequest h .memoryError 0 0 := by
  have hok : (queryOk r 1 && (reqByte r 0x08 == 1 || reqByte r 0x08 == 2)) = true := by
    simp [queryOk, resultAddr, hreserved, haddr, hitem]
  rw [qtimeBody, if_pos hok, State.writeResult, hb, if_neg Bool.false_ne_true]
  rfl

/-- A tail write that starts a fetch (R143, R146, R195). -/
theorem State.tailWrite_unsent {v : Word32} (hb : s.cfg.busMaster = false) (honline : s.dev.st = .online)
    (hv : v &&& 0xFFFF0000 = 0) (hsize : (v.setWidth 16 - s.proc.consumed).toNat ≤ s.proc.ringSize)
    (htail : (s.proc.tail - s.proc.consumed).toNat ≤ (v.setWidth 16 - s.proc.consumed).toNat)
    (hidle : s.proc.st = .idle) (hstop : s.dev.stopPending = false) (hne : v.setWidth 16 ≠ s.proc.consumed) :
    s.tailWrite v = ({ s with proc := { s.proc with tail := v.setWidth 16 } } : State).halt .requestFetch := by
  have hresetting : s.dev.st ≠ .resetting := by rw [honline]; decide
  have hreserved : ¬v &&& ~~~(0x0000FFFF : Word32) ≠ 0 := not_not.2 hv
  have htaken : ¬s.proc.tailRefused (v.setWidth 16) = true := by
    simp only [Processor.tailRefused, Bool.or_eq_true, decide_eq_true_eq, not_or, Nat.not_lt]
    exact ⟨hsize, htail⟩
  have hfetch : ({ s with proc := { s.proc with tail := v.setWidth 16 } } : State).canFetch = true := by
    simp [State.canFetch, State.isOnline, honline, hidle, hstop, hne]
  rw [State.tailWrite, State.regWrite, if_neg hresetting, if_neg hreserved, State.tailRule,
    if_neg (not_not.2 honline), if_neg htaken, State.takeTail, State.fetchStep, if_pos hfetch, State.fetch, hb,
    if_neg Bool.false_ne_true]

end Requests

/-! ### Channels -/

section Channels

variable {c : ChanId} {s : State}

/-- An open channel takes the failure of the operation it does not send (R86, R195). -/
theorem Chan.unsent_of_open {ch : Chan} (h : ch.st.Open) (env : ChanEnv) {k : OpKind} {cause : ChanOpKind}
    (hk : k.cause? = some cause) : ch.unsent env k = ch.fault env cause false := by
  have hstays : ¬(ch.fault env cause false).ch.canClose env = true := fun hc => by
    rw [Chan.canClose, Bool.and_eq_true, Bool.and_eq_true, Bool.and_eq_true] at hc
    exact ChanState.noConfusion (of_decide_eq_true hc.1.1.1)
  rw [Chan.unsent, hk, Chan.failure_of_open h]
  exact if_neg hstays

theorem Chan.pump_of_faulted {ch : Chan} (h : ch.st = .faulted) (env : ChanEnv) : ch.pump env = ch.only := by
  simp [Chan.pump, Chan.canWriteBack, Chan.canPrime, Chan.canWalk, Chan.canClose, h]

/-- A channel that faults goes on to nothing (R86). -/
theorem State.chanAct_fault (ch : Chan) (env : ChanEnv) (k : ChanOpKind) (timeout : Bool) :
    s.chanAct c (ch.fault env k timeout) =
      (staleOf c (withChan c (faultedChan (.operation k timeout) ch) s),
        env.post (.chanFault env.id (.operation k timeout))) := by
  have hpump := State.chanPump_only (staleOf c (withChan c (faultedChan (.operation k timeout) ch) s)) c
    (Chan.pump_of_faulted (by rw [staleOf_chan]; rfl) _)
  rw [State.chanAct, State.chanStep_fault, hpump]
  exact congrArg (Prod.mk _) (List.append_nil _)

/-- A PRIMING read that is not sent (R72, R86, R195). -/
theorem State.primingRead_unsent (hb : s.cfg.busMaster = false) (honline : s.dev.st = .online) (h : Primes c s) :
    s.primingRead c = unsentRecord s.comp.eventRing
      (staleOf c (withChan c (faultedChan (.operation .descriptorRead false) s.chans[c]) s)) := by
  have hsent : ¬(s.chanEnv c).sent = true := by rw [show (s.chanEnv c).sent = false from hb]; decide
  have hissue : s.chans[c].issuePriming (s.chanEnv c) = s.chans[c].fault (s.chanEnv c) .descriptorRead false :=
    (if_neg hsent).trans (Chan.unsent_of_open (.inl h.1) _ rfl)
  have hpost : (s.chanEnv c).post (.chanFault c (.operation .descriptorRead false)) =
      [.record none (.event (.chanFault c (.operation .descriptorRead false)) s.now)] :=
    if_pos (isOnline_iff.2 honline)
  rw [State.primingRead, State.chanStepIf_of _ ((s.canPrime_iff c).2 h), hissue, State.chanEvent, State.chanAct_fault]
  show State.takePosts ((s.chanEnv c).post (.chanFault c (.operation .descriptorRead false))) _ = _
  rw [hpost]
  exact State.offer_unsent
    (s := staleOf c (withChan c (faultedChan (.operation .descriptorRead false) s.chans[c]) s)) hb honline _ _

/-- A receive channel's data write that is not sent, whichever frame it moves (R74, R86, R195). -/
theorem Chan.frame_unsent {ch : Chan} {env : ChanEnv} {cur : Current} (rf : ReadFrame) (hsent : env.sent = false)
    (hst : ch.st = .running) (hdir : ch.dir = .rx) (hcur : ch.current = some cur) :
    ch.frame env rf = ch.fault env .dataWrite false := by
  rw [Chan.frame_running rf hst hcur, Chan.moveFrame, hdir]
  dsimp only
  rw [Chan.issue, hsent, if_neg Bool.false_ne_true, ← hdir]
  have hfault : ∀ d, ({ ch with deferred := d } : Chan).unsent env (.dataWrite env.id cur.desc.index) =
      ch.fault env .dataWrite false :=
    fun d => Chan.unsent_of_open (ch := { ch with deferred := d }) (.inr (.inl hst)) env rfl
  exact hfault _

end Channels

/-! ### The records of a device frame event -/

/-- Operations are not sent, the device is ONLINE, and the event ring has space. -/
structure EventSpace (s : State) : Prop where
  unsent : s.cfg.busMaster = false
  online : s.dev.st = .online
  space : s.comp.rings[s.comp.eventRing].unconsumed < s.comp.rings[s.comp.eventRing].size

/-- The device is HALTED by a record that was not sent (R178). -/
def RecordHalted (s : State) : Prop := s.dev.st = .halted ∧ s.dev.cause = .completionWrite

section Records

variable {s : State}

theorem recordHalted_of_space {n : RingId} (h : s.comp.rings[n].unconsumed < s.comp.rings[n].size) :
    RecordHalted (unsentRecord n s) := by
  rw [unsentRecord_of_space h]
  exact ⟨rfl, rfl⟩

/-- A ring replaced by one with the same counts leaves the event ring its space. -/
theorem EventSpace.setRing (h : EventSpace s) (n : RingId) (r : Ring) (p : Processor) (m : MapControl)
    (hcount : r.unconsumed = s.comp.rings[n].unconsumed) (hsize : r.size = s.comp.rings[n].size) :
    EventSpace { s with comp := { s.comp with rings := s.comp.rings.set n r }, proc := p, mc := m } := by
  refine ⟨h.unsent, h.online, ?_⟩
  show ((s.comp.rings.set n r)[s.comp.eventRing]).unconsumed < ((s.comp.rings.set n r)[s.comp.eventRing]).size
  rw [getElem_set_ring]
  split_ifs with hn
  · rw [hcount, hsize, ← hn]
    exact h.space
  · exact h.space

/-- A record taken halts the device, or leaves the event ring its space. -/
theorem EventSpace.takePost (h : EventSpace s) (p : Post) : RecordHalted (s.takePost p) ∨ EventSpace (s.takePost p) := by
  cases p with
  | record ring rec =>
    show RecordHalted (s.offer _ rec) ∨ EventSpace (s.offer _ rec)
    rw [State.offer_unsent h.unsent h.online]
    by_cases hspace : s.comp.rings[ring.getD s.comp.eventRing].unconsumed < s.comp.rings[ring.getD s.comp.eventRing].size
    · exact .inl (recordHalted_of_space hspace)
    · rw [unsentRecord_of_full hspace]
      exact .inr (h.setRing _ _ _ _ rfl rfl)
  | done hand st v f =>
    show RecordHalted (s.handDone _ _) ∨ EventSpace (s.handDone _ _)
    rw [State.handDone_unsent h.unsent h.online]
    by_cases hspace : s.comp.rings[hand.ring].unconsumed < s.comp.rings[hand.ring].size
    · rw [if_pos hspace]
      exact .inl (recordHalted_of_space hspace)
    · rw [if_neg hspace]
      by_cases hstop : s.dev.stopPending = true
      · rw [if_pos hstop, unsentRecord_of_full hspace]
        exact .inr (h.setRing _ _ _ _ rfl rfl)
      · rw [if_neg hstop, afterDone, if_neg hspace, if_neg hstop]
        exact .inr (h.setRing _ _ _ _ rfl rfl)

/-- One record for the event ring among those taken halts the device (R178, R195). -/
theorem EventSpace.takePosts {rec : Record} {ps : List Post} (h : EventSpace s) (hrec : .record none rec ∈ ps) :
    RecordHalted (s.takePosts ps) := by
  have hstays : ∀ {t : State} (qs : List Post), RecordHalted t → RecordHalted (t.takePosts qs) := fun {t} qs ht => by
    rwa [State.takePosts_offline qs t (fun h => DeviceState.noConfusion (ht.1.symm.trans h))]
  induction ps generalizing s with
  | nil => cases hrec
  | cons p ps ih =>
    rw [State.takePosts_cons]
    rcases List.mem_cons.1 hrec with rfl | hrec
    · refine hstays ps ?_
      show RecordHalted (s.offer s.comp.eventRing rec)
      rw [State.offer_unsent h.unsent h.online]
      exact recordHalted_of_space h.space
    · rcases h.takePost p with hhalted | hkept
      · exact hstays ps hhalted
      · exact ih hkept hrec

end Records

/-! ### The device frame event -/

section Event

variable {c : ChanId} {s : State} (o : FrameOrder)

/-- A channel with work that no apply touches has its turn on what stood before the event (R33); what it leaves stands until
the records are taken. -/
theorem State.moved_turn (hun : Untouched c s) (hmoves : s.chans[c].moves = true) :
    ∃ u, ChanStands c s u ∧ u.dev = s.dev ∧
      ChanStands c (u.chanAct c (s.eventOut c (u.chanEnv c))).1 (s.advanceCounter.moved o).1 ∧
      (u.chanAct c (s.eventOut c (u.chanEnv c))).2 ∈ s.advanceCounter.eventGroups o := by
  have hplain : s.mc.inFlight = false ∨ lookupKey c s.mc.entries = none := by
    by_cases hfl : s.mc.inFlight = true
    · exact .inr (hun hfl)
    · exact .inl (Bool.eq_false_iff.2 hfl)
  have hswitched : ChanStands c s (s.advanceCounter.switched o) :=
    (s.advanceCounter_stands c).trans <| (s.advanceCounter.applied_stands o hplain).trans <|
      State.sendFrames_stands c _ _
  have hmover : c ∈ (s.advanceCounter.switched o).movers := State.mem_movers.2 (by rw [hswitched.chan]; exact hmoves)
  obtain ⟨u, hu, hdev, -, hact, hposts⟩ := State.moveChans_at s.advanceCounter.reads
    ((List.nodup_finRange 128).filter _) hmover (s.advanceCounter.switched o)
  have hframe : u.chans[c].frame (u.chanEnv c) s.advanceCounter.reads[u.chans[c].hwy] = s.eventOut c (u.chanEnv c) :=
    congrArg (fun ch : Chan => ch.frame (u.chanEnv c) s.advanceCounter.reads[ch.hwy]) (hswitched.trans hu).chan
  rw [hframe] at hact hposts
  refine ⟨u, hswitched.trans hu, ?_, hact, List.mem_append_right _ hposts⟩
  rw [hdev, State.switched, State.sendFrames_dev, State.applied_dev]
  rfl

/-- A receive channel's turn at an event, its data write not sent (R74, R86, R195). -/
theorem State.eventOut_unsent {env : ChanEnv} {cur : Current} (hsent : env.sent = false)
    (hst : s.chans[c].st = .running) (hdir : s.chans[c].dir = .rx) (hcur : s.chans[c].current = some cur) :
    s.eventOut c env = s.chans[c].fault env .dataWrite false := Chan.frame_unsent _ hsent hst hdir hcur

/-- The records of an event leave a FAULTED channel as it is, a halt with them (R86, R191). -/
theorem State.takePosts_faulted (ps : List Post) (h : s.chans[c].st = .faulted) :
    (s.takePosts ps).chans[c] = s.chans[c] := by
  rcases s.takePosts_halts ps with hsame | hhalt
  · rw [hsame]
  · have hkept : s.chans[c].halt = s.chans[c] := by rw [Chan.halt, h]
    rw [hhalt]
    exact (Vector.getElem_map ..).trans hkept

/-- A receive channel at an event with bus mastering disabled: FAULTED, and the device HALTED where the event ring has space
(R86, R178, R195). -/
theorem State.frameEvent_unsent {cur : Current} (hb : s.cfg.busMaster = false) (honline : s.dev.st = .online)
    (hno : NoStopClear s) (hun : Untouched c s) (hst : s.chans[c].st = .running) (hdir : s.chans[c].dir = .rx)
    (hcur : s.chans[c].current = some cur) :
    (s.frameEvent o).chans[c] = faultedChan (.operation .dataWrite false) s.chans[c] ∧
      (s.comp.rings[s.comp.eventRing].unconsumed < s.comp.rings[s.comp.eventRing].size →
        RecordHalted (s.frameEvent o)) := by
  have hdue : s.stopClearDue = false :=
    Bool.eq_false_iff.2 fun h => (State.stopClearDue_iff honline).1 h hno
  have hrun : s.frameEvent o =
      (s.advanceCounter.moved o).1.takePosts (merge o.picks (s.advanceCounter.eventGroups o)) := by
    rw [State.frameEvent, State.beginEvent_plain hdue, State.runEvent_eq]
  obtain ⟨u, hu, hdev, hact, hposts⟩ := State.moved_turn o hun (Chan.moves_of_running hst)
  have hunsent : (u.chanEnv c).sent = false := by
    rw [← hb, ← hu.cfg]
    rfl
  rw [State.eventOut_unsent hunsent hst hdir hcur, State.chanAct_fault] at hact hposts
  have hfaulted := hact.chan.trans (staleOf_chan _)
  have hpost : (u.chanEnv c).post (.chanFault c (.operation .dataWrite false)) =
      [.record none (.event (.chanFault c (.operation .dataWrite false)) u.now)] :=
    if_pos (isOnline_iff.2 (by rw [hdev]; exact honline))
  refine ⟨?_, fun hspace => ?_⟩
  · rw [hrun, State.takePosts_faulted _ (by rw [hfaulted]; rfl), hfaulted]
  · have hready : EventSpace (s.advanceCounter.moved o).1 :=
      ⟨by rw [State.moved_cfg]; exact hb, by rw [State.moved_dev_eq]; exact honline,
        by simp only [State.moved_comp]; exact hspace⟩
    rw [hrun]
    refine hready.takePosts (rec := .event (.chanFault c (.operation .dataWrite false)) u.now) ?_
    refine (merge_perm _ _).mem_iff.2 (List.mem_flatten.2 ⟨_, hposts, ?_⟩)
    exact hpost ▸ List.mem_singleton_self _

end Event

/-- Settles O17: each issuer takes its error at the moment of the issue. -/
theorem notSent : Obligations.NotSent := by
  unfold Obligations.NotSent
  refine ⟨fun v s hb honline hv hsize htail hidle hstop hne => ?_,
    fun i st r f s hb honline hfetching hlive hr hkind => ?_, fun c s hb honline hprimes => ?_,
    fun o c cur s hb honline hno hun hst hdir hcur => ?_⟩
  · show done (s.tailWrite v) = _
    rw [State.tailWrite_unsent hb honline hv hsize htail hidle hstop hne]
    exact done_halt _ _
  · rcases hkind with ⟨rfl, rfl, hzero⟩ | ⟨rfl, rfl, haddr, hreserved, hitem⟩
    · show done (s.request r nopBody) = _
      rw [State.request_of_passes hfetching hlive hr, nopBody_of_zero hzero]
      exact done_finishRequest_unsent hb honline .ok
    · show done (s.request r qtimeBody) = _
      rw [State.request_of_passes hfetching hlive hr, qtimeBody_unsent (s := executing f s) hb haddr hreserved hitem]
      exact done_finishRequest_unsent hb honline .memoryError
  · show done (s.primingRead c) = _
    rw [State.primingRead_unsent hb honline hprimes]
    exact done_unsentRecord
      (s := staleOf c (withChan c (faultedChan (.operation .descriptorRead false) s.chans[c]) s)) honline _
  · obtain ⟨hchan, hhalts⟩ := State.frameEvent_unsent o hb honline hno hun hst hdir hcur
    refine ⟨(s.frameEvent o).finish, rfl, by rw [State.finish_chans]; exact hchan, fun hspace => ?_⟩
    obtain ⟨hhalted, hcause⟩ := hhalts hspace
    rw [State.finish_eq_self _ (fun h => DeviceState.noConfusion (hhalted.symm.trans h.1)) fun h =>
      DeviceState.noConfusion (hhalted.symm.trans h.1)]
    exact ⟨hhalted, hcause⟩

end Sys2Proof.Machine
end

section
/-! PROOFS. The timing unit's selector: what each of its moves leaves, where it stands, and what it tells. -/

set_option Elab.async false

namespace Sys2Proof.Machine

/-! ### Where a selector stands (R124, R128) -/

/-- The selected candidate is listed and QUALIFIED, and HOLDOVER is held only with holdover-valid set (R124, R128). -/
def Timing.SelectorOk (t : Timing) : Prop :=
  (∀ src, t.selected? = some src → ∃ c ∈ t.cands, c.src = src ∧ c.st = .qualified) ∧ (t.sel = .holdover → t.valid = true)

/-- At most four candidates, of distinct sources (R116). -/
def SourcesOk (cs : List Cand) : Prop := cs.length ≤ 4 ∧ (cs.map Cand.src).Nodup

theorem timingInv_iff {s : State} : TimingInv s ↔ SourcesOk s.tim.cands ∧ s.tim.SelectorOk :=
  and_assoc.symm

theorem map_src {f : Cand → Cand} (hf : ∀ c, (f c).src = c.src) (cs : List Cand) :
    (cs.map f).map Cand.src = cs.map Cand.src := by
  rw [List.map_map]
  exact List.map_congr_left fun c _ => hf c

/-- A change of the records that keeps their sources keeps the list (R116). -/
theorem SourcesOk.map {cs : List Cand} (h : SourcesOk cs) {f : Cand → Cand} (hf : ∀ c, (f c).src = c.src) :
    SourcesOk (cs.map f) := by
  rw [SourcesOk, map_src hf, List.length_map]
  exact h

/-- A change of the records that keeps sources and states moves no selector. -/
theorem Timing.SelectorOk.map {t : Timing} (h : t.SelectorOk) {f : Cand → Cand}
    (hsrc : ∀ c, (f c).src = c.src) (hst : ∀ c, (f c).st = c.st) : ({ t with cands := t.cands.map f } : Timing).SelectorOk := by
  refine ⟨fun src hsel => ?_, h.2⟩
  obtain ⟨c, hc, rfl, hq⟩ := h.1 src hsel
  exact ⟨f c, List.mem_map_of_mem hc, hsrc c, (hst c).trans hq⟩

theorem bestQualified_mem {cs : List Cand} {c : Cand} (h : bestQualified cs = some c) : c ∈ cs ∧ c.st = .qualified :=
  ⟨List.mem_of_find?_eq_some h, by simpa using List.find?_some h⟩

theorem Timing.mem_of_selectedQualified {t : Timing} {src : Source} (h : t.selectedQualified src = true) :
    ∃ c ∈ t.cands, c.src = src ∧ c.st = .qualified := by
  unfold Timing.selectedQualified Timing.cand? at h
  split at h
  · next c hc => exact ⟨c, List.mem_of_find?_eq_some hc, by simpa using List.find?_some hc, by simpa using h⟩
  · cases h

/-- Whether the one candidate of a listed source is QUALIFIED (R124). -/
theorem Timing.selectedQualified_of_mem {t : Timing} (hnodup : (t.cands.map Cand.src).Nodup) {c : Cand}
    (hc : c ∈ t.cands) : t.selectedQualified c.src = (c.st == .qualified) := by
  unfold Timing.selectedQualified Timing.cand?
  rw [find?_src hnodup hc]

/-! ### A move of the selector -/

/-- A selector that has come from the state `x` to another state `y` has told its entry there among `occs` (R138). -/
def Announced (x y : Selector) (occs : List TimOcc) : Prop := y ≠ x → ∃ o ∈ occs, o.event? = some (selectEvent y)

/-- What a move of the selector of `t` comes to: nothing else of `t` changes, the selector stands as R124 and R128 ask, and
a state it enters is told (R138). -/
structure SelectorMove (t : Timing) (r : Timing × List TimOcc) : Prop where
  leaves : r.1 = { t with
    sel := r.1.sel, acquire := r.1.acquire, lockedRun := r.1.lockedRun, valid := r.1.valid, elapsed := r.1.elapsed }
  stands : (t.sel = .holdover → t.valid = true) → r.1.SelectorOk
  told : Announced t.sel r.1.sel r.2

section Moves

variable {t : Timing} {occs : List TimOcc}

theorem SelectorMove.cands {r : Timing × List TimOcc} (h : SelectorMove t r) : r.1.cands = t.cands := by
  rw [h.leaves]

theorem SelectorMove.toAcquiring {c : Cand} (hc : c ∈ t.cands) (hst : c.st = .qualified) (ho : .acquiring c.src ∈ occs) :
    SelectorMove t (t.toAcquiring c.src, occs) := by
  have hleaves : t.toAcquiring c.src = { t with
      sel := .acquiring c.src, acquire := 0, lockedRun := (t.toAcquiring c.src).lockedRun } := by
    rw [Timing.toAcquiring, Timing.leave_eq]
  refine ⟨?_, fun _ => ⟨fun src hsel => ?_, fun h => nomatch h⟩, fun _ => ⟨_, ho, rfl⟩⟩
  · rw [hleaves]
  · cases hsel
    exact ⟨c, by rw [hleaves]; exact hc, rfl, hst⟩

theorem SelectorMove.toFreerun (ho : .freerun ∈ occs) : SelectorMove t (t.toFreerun, occs) := by
  refine ⟨?_, fun _ => ⟨fun _ hsel => (nomatch hsel), fun h => (nomatch h)⟩, fun _ => ⟨_, ho, rfl⟩⟩
  rw [Timing.toFreerun, Timing.leave_eq]

theorem SelectorMove.toHoldover (hvalid : t.valid = true) (ho : .holdover ∈ occs) : SelectorMove t (t.toHoldover, occs) := by
  have hleaves : t.toHoldover = { t with sel := .holdover, elapsed := 0, lockedRun := t.toHoldover.lockedRun } := by
    rw [Timing.toHoldover, Timing.leave_eq]
  refine ⟨?_, fun _ => ⟨fun _ hsel => (nomatch hsel), fun _ => ?_⟩, fun _ => ⟨_, ho, rfl⟩⟩
  · rw [hleaves]
  · rw [hleaves]; exact hvalid

/-- A selector whose candidate is QUALIFIED may count, and enter LOCKED on it (R126, R127). -/
theorem SelectorMove.counts {u : Timing} {src : Source} (hq : t.selectedQualified src = true)
    (hleaves : u = { t with sel := u.sel, acquire := u.acquire, lockedRun := u.lockedRun, valid := u.valid })
    (hsel : u.sel = .acquiring src ∨ u.sel = .locked src) (htold : Announced t.sel u.sel occs) : SelectorMove t (u, occs) := by
  refine ⟨by rw [hleaves], fun _ => ⟨fun src' h => ?_, fun h => ?_⟩, htold⟩
  · have hsrc : u.selected? = some src := by rcases hsel with e | e <;> simp [Timing.selected?, e]
    obtain rfl : src = src' := Option.some.inj (hsrc.symm.trans h)
    rw [show u.cands = t.cands by rw [hleaves]]
    exact Timing.mem_of_selectedQualified hq
  · rcases hsel with e | e <;> exact nomatch e.symm.trans h

/-- The elapsed count is one of the selector's own. -/
theorem SelectorMove.of_elapsed {n : Nat} {r : Timing × List TimOcc} (h : SelectorMove { t with elapsed := n } r) :
    SelectorMove t r := ⟨h.leaves, h.stands, h.told⟩

theorem Announced.stays {x y : Selector} (h : y = x) : Announced x y occs := fun hne => absurd h hne

end Moves

/-- A fall is a move (R128). -/
theorem Timing.fallback_move (limit : Nat) (t : Timing) : SelectorMove t (t.fallback limit) := by
  unfold Timing.fallback
  split
  · next c hbest => exact .toAcquiring (bestQualified_mem hbest).1 (bestQualified_mem hbest).2 (List.mem_singleton.2 rfl)
  · split
    · next h => exact .toHoldover h.1 (List.mem_singleton.2 rfl)
    · exact .toFreerun (List.mem_singleton.2 rfl)

theorem Timing.checkSelected_move (t : Timing) : SelectorMove t t.checkSelected := by
  unfold Timing.checkSelected
  split
  · next src hsel =>
    split
    · next hq =>
      refine ⟨rfl, fun h => ⟨fun src' h' => ?_, h⟩, .stays rfl⟩
      obtain rfl : src = src' := Option.some.inj (hsel.symm.trans h')
      exact Timing.mem_of_selectedQualified hq
    · exact t.fallback_move _
  · next hsel => exact ⟨rfl, fun h => ⟨fun src' h' => (nomatch hsel.symm.trans h'), h⟩, .stays rfl⟩

/-- The candidate taken back is listed and QUALIFIED (R130). -/
theorem Timing.restoring_mem {t : Timing} {src : Source} {c : Cand} (h : t.restoring src = some c) :
    c ∈ t.cands ∧ c.st = .qualified := by
  unfold Timing.restoring at h
  split at h
  · have hst := List.find?_some h
    simp only [Bool.and_eq_true, beq_iff_eq] at hst
    exact ⟨(List.takeWhile_prefix _).subset (List.mem_of_find?_eq_some h), hst.1⟩
  · cases h

/-- The selector's work at a device frame event is a move (R125 to R131). -/
theorem Timing.selectorTick_move (t : Timing) : SelectorMove t t.selectorTick := by
  have hrestore : ∀ {src c}, t.restoring src = some c →
      SelectorMove t (t.toAcquiring c.src, [.restore c.src, .acquiring c.src]) := fun h =>
    .toAcquiring (Timing.restoring_mem h).1 (Timing.restoring_mem h).2 (by simp)
  have hunselected : t.selected? = none → (t.sel = .holdover → t.valid = true) → t.SelectorOk := fun hnone h =>
    ⟨fun _ h' => (nomatch hnone.symm.trans h'), h⟩
  unfold Timing.selectorTick
  split
  · next hsel =>
    split
    · next c hbest => exact .toAcquiring (bestQualified_mem hbest).1 (bestQualified_mem hbest).2 (by simp)
    · exact ⟨rfl, hunselected (by rw [Timing.selected?, hsel]), .stays rfl⟩
  · next hsel =>
    dsimp only
    split
    · next c hbest =>
      exact .of_elapsed (.toAcquiring (bestQualified_mem hbest).1 (bestQualified_mem hbest).2 (by simp))
    · split
      · exact .of_elapsed (.toFreerun (by simp))
      · exact .of_elapsed ⟨rfl, hunselected (by rw [Timing.selected?, hsel]), .stays rfl⟩
  · next src hsel =>
    split
    · next hq =>
      split
      · next hr => exact hrestore hr
      · split
        · exact .counts hq rfl (.inr rfl) fun _ => ⟨_, List.mem_singleton.2 rfl, rfl⟩
        · exact .counts hq rfl (.inl hsel) (.stays rfl)
    · exact t.fallback_move _
  · next src hsel =>
    split
    · next hq =>
      split
      · next hr => exact hrestore hr
      · split
        · exact .counts hq rfl (.inr hsel) (.stays rfl)
        · exact .counts hq rfl (.inr hsel) (.stays rfl)
    · exact t.fallback_move _

/-! ### Losses one after the other (R118, R123) -/

theorem Announced.trans {x y z : Selector} {os qs : List TimOcc} (hy : Announced x y os) (hz : Announced y z qs) :
    Announced x z (os ++ qs) := by
  intro hne
  by_cases h : z = y
  · obtain ⟨o, ho, he⟩ := hy (h ▸ hne)
    exact ⟨o, List.mem_append_left _ ho, h ▸ he⟩
  · obtain ⟨o, ho, he⟩ := hz h
    exact ⟨o, List.mem_append_right _ ho, he⟩

theorem Announced.mono {x y : Selector} {os qs : List TimOcc} (h : Announced x y os) (hsub : os ⊆ qs) : Announced x y qs :=
  fun hne => (h hne).imp fun _ ho => ⟨hsub ho.1, ho.2⟩

theorem foldl_occs (f : Timing → HwyId → Timing × List TimOcc) (hs : List HwyId) (t : Timing) (xs : List TimOcc) :
    hs.foldl (fun a h => let r := f a.1 h; (r.1, a.2 ++ r.2)) (t, xs) =
      ((hs.foldl (fun a h => let r := f a.1 h; (r.1, a.2 ++ r.2)) (t, [])).1,
        xs ++ (hs.foldl (fun a h => let r := f a.1 h; (r.1, a.2 ++ r.2)) (t, [])).2) := by
  induction hs generalizing t xs with
  | nil => simp
  | cons h hs ih =>
    rw [List.foldl_cons, List.foldl_cons, ih, ih (f t h).1 ([] ++ (f t h).2)]
    simp

section Losses

variable (h : HwyId) (hs : List HwyId) (t : Timing)

@[simp] theorem Timing.loseAll_nil : t.loseAll [] = (t, []) := rfl

theorem Timing.loseAll_cons : t.loseAll (h :: hs) =
    (((t.loseNow (.hwy h)).1.loseAll hs).1, (t.loseNow (.hwy h)).2 ++ ((t.loseNow (.hwy h)).1.loseAll hs).2) :=
  foldl_occs (fun t h => t.loseNow (.hwy h)) hs (t.loseNow (.hwy h)).1 (t.loseNow (.hwy h)).2

@[simp] theorem Timing.loseBefore_nil : t.loseBefore [] = (t, []) := rfl

theorem Timing.loseBefore_cons : t.loseBefore (h :: hs) =
    (((t.lose (.hwy h)).1.loseBefore hs).1, (t.lose (.hwy h)).2 ++ ((t.lose (.hwy h)).1.loseBefore hs).2) :=
  foldl_occs (fun t h => t.lose (.hwy h)) hs (t.lose (.hwy h)).1 (t.lose (.hwy h)).2

end Losses

/-- A loss taken at once: the candidate fails, then the selector is checked (R123, R128). -/
theorem Timing.loseNow_move (h : HwyId) (t : Timing) : SelectorMove (t.withLost fun g => g == h)
    ((t.loseNow (.hwy h)).1, (t.withLost fun g => g == h).checkSelected.2) := by
  rw [← Timing.lose_eq]
  exact Timing.checkSelected_move _

theorem Timing.loseNow_occs (h : HwyId) (t : Timing) :
    (t.loseNow (.hwy h)).2 = (t.lose (.hwy h)).2 ++ (t.withLost fun g => g == h).checkSelected.2 := by
  rw [← Timing.lose_eq]
  rfl

theorem Timing.loseNow_told (h : HwyId) (t : Timing) :
    Announced t.sel (t.loseNow (.hwy h)).1.sel (t.loseNow (.hwy h)).2 := by
  rw [Timing.loseNow_occs]
  exact (t.loseNow_move h).told.mono (List.subset_append_right _ _)

theorem Cand.lose_lose (c : Cand) : c.lose.lose = c.lose := rfl

theorem Cand.isAmong_or (a b : HwyId → Bool) (c : Cand) :
    c.isAmong (fun h => a h || b h) = (c.isAmong a || c.isAmong b) := by
  unfold Cand.isAmong
  cases c.src <;> rfl

theorem Timing.withLost_withLost (a b : HwyId → Bool) (t : Timing) :
    (t.withLost a).withLost b = t.withLost fun h => a h || b h := by
  unfold Timing.withLost
  simp only [List.map_map]
  congr 1
  refine List.map_congr_left fun c _ => ?_
  have hamong : ∀ d : Cand, d.src = c.src → d.isAmong b = c.isAmong b := fun d hd => by rw [Cand.isAmong, hd]; rfl
  rw [Function.comp_apply, Cand.isAmong_or]
  cases ha : c.isAmong a
  · simp
  · simp [hamong c.lose rfl, Cand.lose_lose]

/-- Losses of no highway are none. -/
theorem Timing.withLost_none {lost : HwyId → Bool} (h : ∀ g, lost g = false) (t : Timing) : t.withLost lost = t := by
  have hnone : ∀ c : Cand, c.isAmong lost = false := fun c => by
    unfold Cand.isAmong
    cases c.src with
    | hwy g => exact h g
    | ref r => rfl
  simp [Timing.withLost, hnone]

theorem Timing.loseBefore_eq (hs : List HwyId) (t : Timing) : (t.loseBefore hs).1 = t.withLost hs.contains := by
  induction hs generalizing t with
  | nil => exact (Timing.withLost_none (fun _ => rfl) t).symm
  | cons h hs ih =>
    rw [Timing.loseBefore_cons]
    show ((t.lose (.hwy h)).1.loseBefore hs).1 = _
    rw [ih, Timing.lose_eq, Timing.withLost_withLost]
    rfl

/-- What losses of highways leave: beyond the candidates the selector alone has moved, and it stands where the losses left a
selector that stood (R123, R128). -/
structure LossMove (lost : HwyId → Bool) (t u : Timing) : Prop where
  leaves : u = { t.withLost lost with
    sel := u.sel, acquire := u.acquire, lockedRun := u.lockedRun, valid := u.valid, elapsed := u.elapsed }
  stands : t.SelectorOk → u.SelectorOk

theorem Timing.loseNow_lossMove (h : HwyId) (t : Timing) : LossMove (fun g => g == h) t (t.loseNow (.hwy h)).1 :=
  ⟨(t.loseNow_move h).leaves, fun hok => (t.loseNow_move h).stands hok.2⟩

theorem LossMove.trans {a b : HwyId → Bool} {t u v : Timing} (h : LossMove a t u) (k : LossMove b u v) :
    LossMove (fun g => a g || b g) t v := by
  refine ⟨?_, fun hok => k.stands (h.stands hok)⟩
  have hcands : (u.withLost b).cands = (t.withLost fun g => a g || b g).cands := by
    rw [← Timing.withLost_withLost]
    show u.cands.map _ = (t.withLost a).cands.map _
    rw [show u.cands = (t.withLost a).cands by rw [h.leaves]]
  rw [k.leaves]
  calc ({ u.withLost b with
          sel := v.sel, acquire := v.acquire, lockedRun := v.lockedRun, valid := v.valid, elapsed := v.elapsed } : Timing)
      = { u with
          cands := (u.withLost b).cands
          sel := v.sel, acquire := v.acquire, lockedRun := v.lockedRun, valid := v.valid, elapsed := v.elapsed } := rfl
    _ = { u with
          cands := (t.withLost fun g => a g || b g).cands
          sel := v.sel, acquire := v.acquire, lockedRun := v.lockedRun, valid := v.valid, elapsed := v.elapsed } := by
        rw [hcands]
    _ = _ := by rw [h.leaves]; rfl

theorem Timing.loseAll_lossMove (hs : List HwyId) (t : Timing) : LossMove hs.contains t (t.loseAll hs).1 := by
  induction hs generalizing t with
  | nil => exact ⟨(Timing.withLost_none (fun _ => rfl) t).symm, id⟩
  | cons h hs ih =>
    rw [Timing.loseAll_cons]
    exact (t.loseNow_lossMove h).trans (ih _)

theorem Timing.loseAll_told (hs : List HwyId) (t : Timing) : Announced t.sel (t.loseAll hs).1.sel (t.loseAll hs).2 := by
  induction hs generalizing t with
  | nil => exact .stays rfl
  | cons h hs ih =>
    rw [Timing.loseAll_cons]
    exact (t.loseNow_told h).trans (ih _)

end Sys2Proof.Machine
end

section
/-! PROOFS. A device frame event in the timing unit: the candidates first, then the selector, then the losses taken last. -/

set_option Elab.async false

namespace Sys2Proof.Machine

/-! ### One candidate at the event (R131) -/

section Sources

variable (aligned : HwyId → Bool) (driftLimit qualifyTime : Nat) (c : Cand)

@[simp] theorem Cand.gapTick_src : c.gapTick.src = c.src := by
  unfold Cand.gapTick
  split <;> rfl

@[simp] theorem Cand.windowTick_src : (c.windowTick aligned driftLimit).src = c.src := by
  unfold Cand.windowTick
  split
  · rfl
  · split
    · split <;> rfl
    · rfl

@[simp] theorem Cand.failTick_src : (c.failTick aligned).src = c.src := by
  unfold Cand.failTick
  split <;> rfl

@[simp] theorem Cand.stateTick_src : (c.stateTick aligned qualifyTime).src = c.src := by
  unfold Cand.stateTick
  split
  · split <;> rfl
  · split <;> rfl
  · rfl

@[simp] theorem Cand.frameTick_src : (c.frameTick aligned driftLimit qualifyTime).src = c.src := by
  simp [Cand.frameTick]

end Sources

/-- A candidate after losses of highways (R118, R123). -/
def Cand.afterLosses (lost : HwyId → Bool) (c : Cand) : Cand := if c.isAmong lost then c.lose else c

@[simp] theorem Cand.afterLosses_src (lost : HwyId → Bool) (c : Cand) : (c.afterLosses lost).src = c.src := by
  unfold Cand.afterLosses
  split <;> rfl

/-- A candidate that no loss is of stands. -/
theorem Cand.afterLosses_of_not_among {lost : HwyId → Bool} {c : Cand} (h : c.isAmong lost = false) :
    c.afterLosses lost = c := by simp [Cand.afterLosses, h]

theorem Cand.isAmong_congr {c d : Cand} (h : c.src = d.src) (lost : HwyId → Bool) : c.isAmong lost = d.isAmong lost := by
  unfold Cand.isAmong
  rw [h]

/-- A candidate after the losses taken before the timing unit's work, and that work (R123, R131). -/
def Cand.workTick (aligned before : HwyId → Bool) (driftLimit qualifyTime : Nat) (c : Cand) : Cand :=
  (c.afterLosses before).frameTick (fun h => aligned h && !before h) driftLimit qualifyTime

@[simp] theorem Cand.workTick_src (aligned before : HwyId → Bool) (driftLimit qualifyTime : Nat) (c : Cand) :
    (c.workTick aligned before driftLimit qualifyTime).src = c.src := by
  simp [Cand.workTick]

/-! ### The event -/

section Event

variable (aligned : HwyId → Bool) (before after : List HwyId) (t : Timing)

/-- The timing unit whose candidates have done their work, the selector's still to come: the limit written is in force
(R123, R131, R134). -/
def Timing.candsTicked : Timing := { t with
  limitInForce := t.holdLimit
  cands := t.cands.map (Cand.workTick aligned before.contains t.driftLimit t.qualifyTime) }

/-- The timing unit after its own work (R131). -/
def Timing.worked : Timing := (t.candsTicked aligned before).selectorTick.1.exportFrame

theorem Timing.candsTicked_eq : ({ (t.enforce.loseBefore before).1 with
    cands := (t.enforce.loseBefore before).1.cands.map (Cand.frameTick (fun h => aligned h && !before.contains h)
      (t.enforce.loseBefore before).1.driftLimit (t.enforce.loseBefore before).1.qualifyTime) } : Timing) =
    t.candsTicked aligned before := by
  rw [Timing.loseBefore_eq]
  unfold Timing.withLost Timing.candsTicked
  simp only [List.map_map]
  rfl

theorem Timing.frameEvent_eq : (t.frameEvent aligned before after).1 =
    ((t.worked aligned before).loseAll after).1 := by
  rw [Timing.worked, ← Timing.candsTicked_eq]
  rfl

/-- What comes about at the event, in order: the losses taken first, the candidates' work, the selector's, the losses taken
last (R123, R131). -/
theorem Timing.frameEvent_occs : (t.frameEvent aligned before after).2 =
    (t.enforce.loseBefore before).2 ++
      (candOccs (fun h => aligned h && !before.contains h) t.driftLimit t.qualifyTime (t.withLost before.contains).cands ++
        (t.candsTicked aligned before).selectorTick.2) ++
      ((t.worked aligned before).loseAll after).2 := by
  have hwork : (t.enforce.loseBefore before).1.frameWork (fun h => aligned h && !before.contains h) =
      (t.worked aligned before, candOccs (fun h => aligned h && !before.contains h) t.driftLimit t.qualifyTime
        (t.withLost before.contains).cands ++ (t.candsTicked aligned before).selectorTick.2) := by
    rw [Timing.worked, ← Timing.candsTicked_eq]
    generalize hlost : (t.enforce.loseBefore before).1 = u
    obtain rfl : t.enforce.withLost before.contains = u := (Timing.loseBefore_eq before _).symm.trans hlost
    rfl
  show (t.enforce.loseBefore before).2 ++ ((t.enforce.loseBefore before).1.frameWork _).2 ++
    (((t.enforce.loseBefore before).1.frameWork _).1.loseAll after).2 = _
  rw [hwork]

theorem Timing.exportFrame_eq : t.exportFrame =
    { t with refout := if t.exportSel = .device then t.refout + 1 else t.refout } := by
  unfold Timing.exportFrame
  split <;> rfl

/-- The timing unit's work beyond the candidates: a move of the selector, and REFOUT (R131, R137). -/
theorem Timing.worked_leaves : t.worked aligned before = { t.candsTicked aligned before with
    sel := (t.worked aligned before).sel
    acquire := (t.worked aligned before).acquire
    lockedRun := (t.worked aligned before).lockedRun
    valid := (t.worked aligned before).valid
    elapsed := (t.worked aligned before).elapsed
    refout := if t.exportSel = .device then t.refout + 1 else t.refout } := by
  have hmove := (t.candsTicked aligned before).selectorTick_move.leaves
  unfold Timing.worked
  rw [Timing.exportFrame_eq]
  generalize (t.candsTicked aligned before).selectorTick.1 = u at hmove
  rw [hmove]
  rfl

theorem Timing.worked_cands : (t.worked aligned before).cands = (t.candsTicked aligned before).cands := by
  rw [Timing.worked_leaves]

/-- The candidates after an event (R118 to R123, R131). -/
theorem Timing.frameEvent_cands : (t.frameEvent aligned before after).1.cands = t.cands.map fun c =>
    (c.workTick aligned before.contains t.driftLimit t.qualifyTime).afterLosses after.contains := by
  rw [Timing.frameEvent_eq, (Timing.loseAll_lossMove after _).leaves]
  show (t.worked aligned before).cands.map (Cand.afterLosses after.contains) = _
  rw [Timing.worked_cands]
  exact List.map_map

/-- Beyond candidates, selector and REFOUT an event brings the limit written into force, and no more (R134, R137). -/
theorem Timing.frameEvent_leaves : (t.frameEvent aligned before after).1 = { t with
    limitInForce := t.holdLimit
    cands := (t.frameEvent aligned before after).1.cands
    sel := (t.frameEvent aligned before after).1.sel
    acquire := (t.frameEvent aligned before after).1.acquire
    lockedRun := (t.frameEvent aligned before after).1.lockedRun
    valid := (t.frameEvent aligned before after).1.valid
    elapsed := (t.frameEvent aligned before after).1.elapsed
    refout := if t.exportSel = .device then t.refout + 1 else t.refout } := by
  have hlosses := (Timing.loseAll_lossMove after (t.worked aligned before)).leaves
  rw [← Timing.frameEvent_eq] at hlosses
  rw [hlosses, Timing.worked_leaves]
  rfl

/-- After an event the selector stands on a QUALIFIED candidate, or is in HOLDOVER with the flag set, or in FREERUN
(R124, R128). -/
theorem Timing.frameEvent_selectorOk (h : t.sel = .holdover → t.valid = true) :
    (t.frameEvent aligned before after).1.SelectorOk := by
  rw [Timing.frameEvent_eq]
  refine (Timing.loseAll_lossMove after _).stands ?_
  have hworked : (t.candsTicked aligned before).selectorTick.1.SelectorOk :=
    (t.candsTicked aligned before).selectorTick_move.stands h
  rw [Timing.worked, Timing.exportFrame_eq]
  exact hworked

/-- A selector that the event leaves in another state has told its entry there (R138). -/
theorem Timing.frameEvent_told : Announced t.sel (t.frameEvent aligned before after).1.sel
    (t.frameEvent aligned before after).2 := by
  have hworked : Announced t.sel (t.worked aligned before).sel (t.candsTicked aligned before).selectorTick.2 := by
    rw [Timing.worked, Timing.exportFrame_eq]
    exact (t.candsTicked aligned before).selectorTick_move.told
  rw [Timing.frameEvent_eq, Timing.frameEvent_occs]
  refine (hworked.trans ((t.worked aligned before).loseAll_told after)).mono ?_
  intro x hx
  rcases List.mem_append.1 hx with hx | hx
  · exact List.mem_append_left _ (List.mem_append_right _ (List.mem_append_right _ hx))
  · exact List.mem_append_right _ hx

end Event

/-! ### The event in the machine -/

section Machine

variable (o : FrameOrder) (s : State)

/-- The timing unit and what comes about in it at the next device frame event (R131). -/
def State.timingEvent : Timing × List TimOcc :=
  { s.tim with counter := s.tim.counter + 1 }.frameEvent s.aligned (s.lossesBefore o) (s.lossesAfter o)

/-- The STOP clear event's beginning leaves ports and candidates. -/
theorem State.beginEvent_timingTick : s.beginEvent.timingTick o = s.timingEvent o := by
  have hcongr : ∀ u : State, u.hwys = s.hwys → u.tim = s.advanceCounter.tim → u.timingTick o = s.timingEvent o := by
    intro u hhwys htim
    unfold State.timingTick State.timingEvent State.lossesAfter State.lossesBefore State.silentHwys State.aligned
    rw [htim, hhwys]
    rfl
  refine hcongr _ s.beginEvent_hwys ?_
  cases h : s.stopClearDue
  · rw [State.beginEvent_plain h]
  · rw [State.beginEvent_clears h, State.stopClear_tim]

theorem State.timingOccs_eq : s.timingOccs o = (s.timingEvent o).2 := by
  rw [State.timingOccs, State.beginEvent_timingTick]

/-- The timing unit at the end of a device frame event. -/
theorem State.frameEvent_tim : (s.frameEvent o).tim = (s.timingEvent o).1 := by
  rw [State.frameEvent, State.runEvent_eq, State.takePosts_tim, State.moved, State.moveChans_tim, State.switched,
    State.sendFrames_tim, State.applied_tim, State.beginEvent_timingTick]

end Machine

end Sys2Proof.Machine
end

section
/-! PROOFS. O59: what leaves the timing unit as it is. -/

set_option Elab.async false

namespace Sys2Proof.Machine

/-! ### Registers and rings -/

theorem State.regWrite_tim {rule : State → State} {s : State} (hrule : (rule s).tim = s.tim) (legal v : Word32) :
    (s.regWrite legal v rule).tim = s.tim := by
  unfold State.regWrite
  split_ifs
  · exact State.regError_tim _ s
  · exact State.regError_tim _ s
  · exact hrule

section Left

variable (s : State)

@[simp] theorem State.setupWrite_tim (high : Bool) (v : Word32) : (s.setupWrite high v).tim = s.tim := by
  refine State.regWrite_tim ?_ _ v
  unfold State.setupRule
  split_ifs <;> rfl

@[simp] theorem State.tailWrite_tim (v : Word32) : (s.tailWrite v).tim = s.tim := by
  refine State.regWrite_tim ?_ _ v
  unfold State.tailRule
  split_ifs <;> simp

@[simp] theorem State.ringHeadWrite_tim (n : RingId) (v : Word32) : (s.ringHeadWrite n v).tim = s.tim := by
  refine State.regWrite_tim ?_ _ v
  unfold State.headRule
  split_ifs <;> simp

@[simp] theorem State.overflowStep_tim (n : RingId) : (s.overflowStep n).tim = s.tim := by
  unfold State.overflowStep
  split_ifs <;> simp

@[simp] theorem State.heldStep_tim (n : RingId) : (s.heldStep n).tim = s.tim := by
  unfold State.heldStep
  split_ifs <;> simp

/-! ### The ends of host memory operations, and a channel's own steps -/

@[simp] theorem State.fetchFails_tim (timeout : Bool) : (s.fetchFails timeout).tim = s.tim := by
  unfold State.fetchFails
  split <;> simp

@[simp] theorem State.resultWriteEnd_tim (e : WriteEnd) : (s.resultWriteEnd e).tim = s.tim := by
  unfold State.resultWriteEnd
  split
  · cases e <;> simp
  · rfl

theorem State.chanReadEnd_tim (id : Nat) (c : ChanId) (e : ReadEnd) (take : Chan → ChanEnv → List Byte → ChanOut) :
    (s.chanReadEnd id c e take).tim = s.tim := by
  cases e <;> simp [State.chanReadEnd]

theorem State.chanWriteEnd_tim (id : Nat) (c : ChanId) (e : WriteEnd) (take : Chan → ChanEnv → ChanOut) :
    (s.chanWriteEnd id c e take).tim = s.tim := by
  cases e <;> simp [State.chanWriteEnd]

@[simp] theorem State.descriptorReadEnd_tim (id : Nat) (e : ReadEnd) : (s.descriptorReadEnd id e).tim = s.tim := by
  unfold State.descriptorReadEnd
  split
  · exact s.chanReadEnd_tim id _ e _
  · rfl

@[simp] theorem State.dataReadEnd_tim (id : Nat) (e : ReadEnd) : (s.dataReadEnd id e).tim = s.tim := by
  unfold State.dataReadEnd
  split
  · exact s.chanReadEnd_tim id _ e _
  · rfl

@[simp] theorem State.dataWriteEnd_tim (id : Nat) (e : WriteEnd) : (s.dataWriteEnd id e).tim = s.tim := by
  unfold State.dataWriteEnd
  split
  · exact s.chanWriteEnd_tim id _ e _
  · rfl

@[simp] theorem State.writeBackEnd_tim (id : Nat) (e : WriteEnd) : (s.writeBackEnd id e).tim = s.tim := by
  unfold State.writeBackEnd
  split
  · exact s.chanWriteEnd_tim id _ e _
  · rfl

@[simp] theorem State.flushReadEnd_tim (id : Nat) (e : ReadEnd) : (s.flushReadEnd id e).tim = s.tim := by
  unfold State.flushReadEnd
  split
  · exact s.chanReadEnd_tim id _ e _
  · rfl

@[simp] theorem State.completionWriteEnd_tim (id : Nat) (e : WriteEnd) : (s.completionWriteEnd id e).tim = s.tim := by
  unfold State.completionWriteEnd
  split
  · cases e <;> simp
  · rfl

@[simp] theorem State.chanStepIf_tim (c : ChanId) (can : Chan → ChanEnv → Bool) (step : Chan → ChanEnv → ChanOut) :
    (s.chanStepIf c can step).tim = s.tim := by
  unfold State.chanStepIf
  split_ifs <;> simp

/-! ### Requests -/

theorem State.fetched_tim {s t : State} (h : s.fetched = some t) : t.tim = s.tim := by
  unfold State.fetched at h
  split at h
  · split_ifs at h
    rw [← Option.some.inj h]
    rfl
  · cases h

@[simp] theorem State.unknownKind_tim (k : Byte) (r : ReqRecord) : (s.unknownKind k r).tim = s.tim := by
  unfold State.unknownKind
  split_ifs
  · rfl
  · split
    · rfl
    · next hfetched => rw [State.failRequest_tim, State.fetched_tim hfetched]

section Bodies

variable (r : ReqRecord) (h : Hand)

theorem nopBody_tim : (nopBody r h s).tim = s.tim := by
  unfold nopBody
  split_ifs <;> simp

theorem connectBody_tim : (connectBody r h s).tim = s.tim := by
  unfold connectBody
  split_ifs
  · split <;> simp
  · simp

theorem disconnectBody_tim : (disconnectBody r h s).tim = s.tim := by
  unfold disconnectBody
  split_ifs
  · split <;> simp
  · simp

theorem openBody_tim : (openBody r h s).tim = s.tim := by
  unfold openBody
  split_ifs
  · dsimp only
    split <;> simp
  · simp

theorem closeBody_tim : (closeBody r h s).tim = s.tim := by
  have hchan : ∀ c i, (s.closeChan c h i).tim = s.tim := by
    intro c i
    unfold State.closeChan
    split
    · simp
    · simp
    · simp
    · split_ifs
      · split <;> simp
      · simp
  unfold closeBody
  split_ifs
  · exact hchan _ _
  · simp

theorem reslotBody_tim : (reslotBody r h s).tim = s.tim := by
  have hopen : ∀ c x l i, (s.reslotOpen c x l h i).tim = s.tim := by
    intro c x l i
    unfold State.reslotOpen
    split <;> simp
  have hchan : ∀ c x l i, (s.reslotChan c x l h i).tim = s.tim := by
    intro c x l i
    unfold State.reslotChan
    split
    · split <;> simp
    · split <;> simp
    · simp
    · split <;> simp [hopen]
  unfold reslotBody
  split_ifs
  · exact hchan _ _ _ _
  · simp

theorem commitBody_tim : (commitBody r h s).tim = s.tim := by
  unfold commitBody
  split_ifs <;> simp

theorem discardBody_tim : (discardBody r h s).tim = s.tim := by
  unfold discardBody
  split_ifs <;> simp

theorem qhwyBody_tim : (qhwyBody r h s).tim = s.tim := by
  unfold qhwyBody
  split
  · rw [State.writeResult_tim]
    split <;> simp
  · simp

theorem qchanBody_tim : (qchanBody r h s).tim = s.tim := by
  unfold qchanBody
  split
  · rw [State.writeResult_tim]
    split <;> simp
  · simp

theorem qslotBody_tim : (qslotBody r h s).tim = s.tim := by
  unfold qslotBody
  split_ifs
  · split <;> simp
  · simp

theorem qtimeBody_tim : (qtimeBody r h s).tim = s.tim := by
  unfold qtimeBody
  split_ifs <;> simp

end Bodies

end Left

end Sys2Proof.Machine
end

section
/-! PROOFS. O59: every step keeps the timing unit's invariant. -/

set_option Elab.async false

namespace Sys2Proof.Machine

/-! ### Changes of the timing unit between device frame events -/

/-- The invariant of the timing unit, as a predicate of the unit alone (R116, R124, R128). -/
abbrev Timing.Ok (t : Timing) : Prop := SourcesOk t.cands ∧ t.SelectorOk

section Changes

variable {t : Timing} (h : t.Ok)

include h

/-- Records changed in place, sources and states kept. -/
theorem Timing.Ok.modCand (src : Source) {f : Cand → Cand} (hsrc : ∀ c, (f c).src = c.src) (hst : ∀ c, (f c).st = c.st) :
    (t.modCand src f).Ok := by
  have hsrc' : ∀ c : Cand, (if c.src = src then f c else c).src = c.src := fun c => by split <;> simp [hsrc]
  have hst' : ∀ c : Cand, (if c.src = src then f c else c).st = c.st := fun c => by split <;> simp [hst]
  exact ⟨h.1.map hsrc', h.2.map hsrc' hst'⟩

theorem Timing.Ok.exportArrival (src : Source) : (t.exportArrival src).Ok := by
  rw [Timing.exportArrival_eq]
  exact h

/-- Losses of highways: the sources stay, and the selector falls where it must (R123, R128). -/
theorem Timing.Ok.lossMove {lost : HwyId → Bool} {u : Timing} (hmove : LossMove lost t u) : u.Ok := by
  refine ⟨?_, hmove.stands h.2⟩
  rw [hmove.leaves]
  exact h.1.map (Cand.afterLosses_src lost)

theorem Timing.Ok.loseNow (x : HwyId) : (t.loseNow (.hwy x)).1.Ok := h.lossMove (t.loseNow_lossMove x)

theorem Timing.Ok.hwyArrival (x : HwyId) (was now : Bool) : (t.hwyArrival x was now).1.Ok := by
  rw [Timing.hwyArrival_eq]
  refine Timing.Ok.exportArrival ?_ _
  unfold Timing.arrived
  split
  · exact h.loseNow x
  · exact h.modCand _ (fun _ => rfl) fun _ => rfl
  · exact h.modCand _ (fun _ => rfl) fun _ => rfl
  · exact h

theorem Timing.Ok.refPulse (r : RefInput) : (t.refPulse r).Ok := by
  refine (h.modCand (.ref r) (fun c => ?_) fun c => ?_).exportArrival _
  · unfold Cand.refPulse
    split <;> rfl
  · unfold Cand.refPulse
    split <;> rfl

/-- All highways are lost at a device reset, and the selector is checked once (R140). -/
theorem Timing.Ok.deviceReset : t.deviceReset.Ok := by
  have hsrc : ∀ c : Cand, c.hwyReset.src = c.src := fun c => by
    unfold Cand.hwyReset
    split <;> rfl
  refine ⟨?_, (Timing.checkSelected_move _).stands h.2.2⟩
  rw [Timing.deviceReset, Timing.checkSelected_cands]
  exact h.1.map hsrc

theorem Timing.Ok.takePreset (n : Nat) : (t.takePreset n).Ok := by
  unfold Timing.takePreset
  split
  · exact h
  · exact h

theorem Timing.Ok.frameEvent (aligned : HwyId → Bool) (before after : List HwyId) :
    (t.frameEvent aligned before after).1.Ok := by
  refine ⟨?_, Timing.frameEvent_selectorOk aligned before after t h.2.2⟩
  rw [Timing.frameEvent_cands]
  exact h.1.map fun c => by simp

end Changes

/-! ### SETREF (R132 to R135) -/

theorem setrefCodes_length (r : ReqRecord) : (setrefCodes r).length ≤ 4 := by
  simp [setrefCodes]

/-- Codes that name a source name different sources when they differ (10.3). -/
theorem sourceOfCode_injective {a b : Nat} {src : Source} (ha : sourceOfCode a = some src) (hb : sourceOfCode b = some src) :
    a = b := by
  have hcode : ∀ {n}, sourceOfCode n = some src → src.code = n := by
    intro n hn
    unfold sourceOfCode at hn
    split_ifs at hn with hhwy hrefa hrefb
    · obtain rfl := Option.some.inj hn
      simp only [Source.code, Fin.val_ofNat]
      omega
    · obtain rfl := Option.some.inj hn
      exact hrefa.symm
    · obtain rfl := Option.some.inj hn
      exact hrefb.symm
  rw [← hcode ha, ← hcode hb]

theorem setrefCodes_nodup {r : ReqRecord} (h : setrefFieldsOk r = true) : (setrefCodes r).Nodup := by
  unfold setrefFieldsOk at h
  simp only [Bool.and_eq_true, decide_eq_true_eq] at h
  tauto

/-- The list of a SETREF that passes its checks: at most four sources, all different (R132). -/
theorem setrefSources_ok {r : ReqRecord} (h : setrefFieldsOk r = true) :
    (setrefSources r).length ≤ 4 ∧ (setrefSources r).Nodup :=
  ⟨(List.length_filterMap_le _ _).trans (setrefCodes_length r),
    (setrefCodes_nodup h).filterMap fun _ _ _ ha hb => sourceOfCode_injective ha hb⟩

theorem newCand_src (aligned : HwyId → Bool) (src : Source) : (newCand aligned src).src = src := by
  unfold newCand
  cases src <;> dsimp only <;> split <;> rfl

theorem Timing.relist_src (aligned : HwyId → Bool) (t : Timing) (src : Source) : (t.relist aligned src).src = src := by
  unfold Timing.relist
  split
  · next c hc => simpa using List.find?_some hc
  · exact newCand_src aligned src

theorem Timing.relist_of_mem {t : Timing} (hnodup : (t.cands.map Cand.src).Nodup) (aligned : HwyId → Bool) {c : Cand}
    (hc : c ∈ t.cands) : t.relist aligned c.src = c := by
  unfold Timing.relist Timing.cand?
  rw [find?_src hnodup hc]

theorem map_relist_src (aligned : HwyId → Bool) (t : Timing) (srcs : List Source) :
    (srcs.map (t.relist aligned)).map Cand.src = srcs := by
  rw [List.map_map]
  exact (List.map_congr_left fun src _ => t.relist_src aligned src).trans (List.map_id _)

/-- The timing unit with the list and the configuration of a SETREF, the selector not yet moved (R133, R134). -/
def Timing.relisted (aligned : HwyId → Bool) (r : ReqRecord) (t : Timing) : Timing := { t with
  cands := (setrefSources r).map (t.relist aligned)
  revertive := reqByte r 0x09 == 1
  qualifyTime := reqByte r 0x0A
  wtr := reqByte r 0x0B
  holdLimit := reqField r 0x0C 2
  driftLimit := reqByte r 0x0E
  exportSel := setrefExport r }

/-- A SETREF that keeps the selected candidate moves no selector (R135). -/
theorem Timing.setref_keeps {aligned : HwyId → Bool} {r : ReqRecord} {t : Timing}
    (h : ∀ src, t.selected? = some src → src ∈ setrefSources r) : t.setref aligned r = (t.relisted aligned r, []) := by
  unfold Timing.setref
  dsimp only
  split
  · next src hsel => exact if_pos (List.contains_iff_mem.2 (h src hsel))
  · rfl

/-- A SETREF that removes the selected candidate is a fall by the new holdover limit (R128, R134, R135). -/
theorem Timing.setref_removes {aligned : HwyId → Bool} {r : ReqRecord} {t : Timing} {src : Source}
    (hsel : t.selected? = some src) (h : src ∉ setrefSources r) :
    t.setref aligned r = (t.relisted aligned r).fallback (reqField r 0x0C 2) := by
  unfold Timing.setref
  rw [hsel]
  exact if_neg fun e => h (List.contains_iff_mem.1 e)

/-- SETREF keeps the invariant. -/
theorem Timing.Ok.setref {t : Timing} (h : t.Ok) (aligned : HwyId → Bool) {r : ReqRecord} (hr : setrefFieldsOk r = true) :
    (t.setref aligned r).1.Ok := by
  have hsources : SourcesOk (t.relisted aligned r).cands := by
    refine ⟨?_, ?_⟩
    · exact (List.length_map _).trans_le (setrefSources_ok hr).1
    · exact (map_relist_src aligned t _).symm ▸ (setrefSources_ok hr).2
  by_cases hkept : ∀ src, t.selected? = some src → src ∈ setrefSources r
  · rw [Timing.setref_keeps hkept]
    refine ⟨hsources, fun src hsel => ?_, h.2.2⟩
    obtain ⟨c, hc, rfl, hst⟩ := h.2.1 src hsel
    refine ⟨c, ?_, rfl, hst⟩
    have hmem := List.mem_map_of_mem (f := t.relist aligned) (hkept c.src hsel)
    rwa [Timing.relist_of_mem h.1.2 aligned hc] at hmem
  · push Not at hkept
    obtain ⟨src, hsel, hgone⟩ := hkept
    rw [Timing.setref_removes hsel hgone]
    have hmove := (t.relisted aligned r).fallback_move (reqField r 0x0C 2)
    exact ⟨by rw [hmove.cands]; exact hsources, hmove.stands h.2.2⟩

/-! ### Every step -/

section Steps

variable {s : State} (h : TimingInv s)

theorem TimingInv.ok (h : TimingInv s) : s.tim.Ok := timingInv_iff.1 h

theorem timingInv_of_tim {t : State} {u : Timing} (e : t.tim = u) (h : u.Ok) : TimingInv t := timingInv_iff.2 (e ▸ h)

include h

theorem TimingInv.of_tim {t : State} (e : t.tim = s.tim) : TimingInv t := timingInv_of_tim e h.ok

theorem TimingInv.timingEvent (o : FrameOrder) : (s.timingEvent o).1.Ok := by
  have hcounted : Timing.Ok { s.tim with counter := s.tim.counter + 1 } := h.ok
  exact hcounted.frameEvent s.aligned (s.lossesBefore o) (s.lossesAfter o)

theorem TimingInv.frameEvent (o : FrameOrder) : TimingInv (s.frameEvent o) :=
  timingInv_of_tim (State.frameEvent_tim o s) (h.timingEvent o)

theorem TimingInv.eventIf (due : Bool) (o : FrameOrder) : TimingInv (s.eventIf due o) := by
  unfold State.eventIf
  split_ifs
  · exact h.frameEvent o
  · exact h

theorem TimingInv.arrival (x : HwyId) (f : Frame) (since : Bool) : TimingInv (s.arrival x f since) := by
  unfold State.arrival
  split_ifs
  · refine timingInv_of_tim (State.withTiming_tim _ _) ?_
    rw [State.takePosts_tim]
    exact h.ok.hwyArrival x _ _
  · exact h

theorem TimingInv.changeHwy (x : HwyId) (r : ReqRecord) (k : HwyChange) : TimingInv (s.changeHwy x r k) := by
  unfold State.changeHwy
  dsimp only
  split_ifs
  · exact timingInv_of_tim (State.withTiming_tim _ _) (h.ok.loseNow x)
  · exact h

theorem TimingInv.controlWrite (v : Word32) : TimingInv (s.controlWrite v) := by
  unfold State.controlWrite
  split_ifs
  · exact h.of_tim s.startRule_tim
  · exact h.of_tim s.stopRule_tim
  · exact timingInv_of_tim rfl h.ok.deviceReset
  · exact h

theorem TimingInv.windowWrite (offset len : Nat) (v : Word32) : TimingInv (s.windowWrite offset len v) := by
  unfold State.windowWrite
  split_ifs
  · exact h
  · exact h
  · exact h
  · exact h
  · exact h.controlWrite v
  · exact h.of_tim (s.setupWrite_tim false v)
  · exact h.of_tim (s.setupWrite_tim true v)
  · exact h.of_tim (s.tailWrite_tim v)
  · exact h.of_tim (s.ringHeadWrite_tim _ v)

theorem TimingInv.setupData (bytes : List Byte) : TimingInv (s.setupData bytes) := by
  unfold State.setupData
  split_ifs
  · exact timingInv_of_tim rfl (h.ok.takePreset (parseSetup bytes).preset)
  · exact h.of_tim (State.startFails_tim _ s)

theorem TimingInv.setupReadEnd (e : ReadEnd) : TimingInv (s.setupReadEnd e) := by
  unfold State.setupReadEnd
  split
  · cases e with
    | data bytes => exact TimingInv.setupData (s := s.endOp _) h bytes
    | error => exact h.of_tim (State.failOp_tim _ _ s)
    | timeout => exact h.of_tim (State.failOp_tim _ _ s)
  · exact h

theorem TimingInv.sethwyBody (r : ReqRecord) (hand : Hand) : TimingInv (sethwyBody r hand s) := by
  unfold Machine.sethwyBody
  dsimp only
  split_ifs
  · split
    · exact h.of_tim (State.failRequest_tim hand _ s)
    · exact (h.changeHwy _ r _).of_tim (State.finishRequest_tim hand _ _ _ _)
  · exact h.of_tim (State.failRequest_tim hand _ s)

theorem TimingInv.setrefBody (r : ReqRecord) (hand : Hand) : TimingInv (setrefBody r hand s) := by
  unfold Machine.setrefBody
  split_ifs with hr
  · refine timingInv_of_tim ?_ (h.ok.setref s.aligned hr)
    rw [State.finishRequest_tim, State.withTiming_tim]
  · exact h.of_tim (State.failRequest_tim hand _ s)

/-- A fetched request keeps the invariant when its kind's own meaning does. -/
theorem TimingInv.request (r : ReqRecord) {body : ReqRecord → Hand → State → State}
    (hbody : ∀ {u : State}, TimingInv u → ∀ r hand, TimingInv (body r hand u)) : TimingInv (s.request r body) := by
  unfold State.request
  split
  · exact h
  · next hfetched =>
    have hexec := h.of_tim (State.fetched_tim hfetched)
    split_ifs
    · exact hbody hexec _ _
    · exact hexec.of_tim (State.failRequest_tim _ _ _)

/-- A fetched request of a kind that has nothing to do with the timing unit. -/
theorem TimingInv.request_other (r : ReqRecord) {body : ReqRecord → Hand → State → State}
    (hbody : ∀ u r hand, (body r hand u).tim = u.tim) : TimingInv (s.request r body) :=
  h.request r fun hu r hand => hu.of_tim (hbody _ r hand)

/-- Every command keeps the invariant. -/
theorem TimingInv.exec (i : Instr) : ∃ t, exec i s = .next t ∧ TimingInv t := by
  have hdone : ∀ {u : State}, TimingInv u → ∃ t, done u = .next t ∧ TimingInv t :=
    fun {u} hu => ⟨u.finish, rfl, hu.of_tim u.finish_tim⟩
  have hleft : ∀ {u : State}, u.tim = s.tim → ∃ t, done u = .next t ∧ TimingInv t := fun e => hdone (h.of_tim e)
  cases i with
  | powerOnReset => exact hdone (timingInv_reset : TimingInv s.powerOn)
  | configurationSpaceWrite busMaster messages vectors => exact hleft (s.configWrite_tim _ _ _)
  | start => exact hleft s.startRule_tim
  | stop => exact hleft s.stopRule_tim
  | reset => exact hdone (timingInv_of_tim (t := s.deviceReset) rfl h.ok.deviceReset)
  | setupAddressWrite high value => exact hleft (s.setupWrite_tim high value)
  | requestTail value => exact hleft (s.tailWrite_tim value)
  | ringHead ring value => exact hleft (s.ringHeadWrite_tim ring value)
  | registerWrite offset len value => exact hdone (h.windowWrite offset len value)
  | setupReadEnd e => exact hdone (h.setupReadEnd e)
  | requestFetch => exact hleft s.fetchStep_tim
  | requestFetchError timeout => exact hleft (s.fetchFails_tim timeout)
  | badKind kind r => exact hleft (s.unknownKind_tim kind r)
  | nop r => exact hdone (h.request_other r nopBody_tim)
  | sethwy r => exact hdone (h.request r TimingInv.sethwyBody)
  | connect r => exact hdone (h.request_other r connectBody_tim)
  | disconnect r => exact hdone (h.request_other r disconnectBody_tim)
  | openChannel r => exact hdone (h.request_other r openBody_tim)
  | closeChannel r => exact hdone (h.request_other r closeBody_tim)
  | reslot r => exact hdone (h.request_other r reslotBody_tim)
  | commit r => exact hdone (h.request_other r commitBody_tim)
  | discard r => exact hdone (h.request_other r discardBody_tim)
  | setref r => exact hdone (h.request r TimingInv.setrefBody)
  | qhwy r => exact hdone (h.request_other r qhwyBody_tim)
  | qchan r => exact hdone (h.request_other r qchanBody_tim)
  | qslot r => exact hdone (h.request_other r qslotBody_tim)
  | qtime r => exact hdone (h.request_other r qtimeBody_tim)
  | resultWriteEnd e => exact hleft (s.resultWriteEnd_tim e)
  | deviceFrameEvent o => exact hdone (h.frameEvent o)
  | apply o => exact hdone (h.eventIf _ o)
  | stopClearEvent o => exact hdone (h.eventIf _ o)
  | frameArrival x bytes since => exact hdone (h.arrival x bytes since)
  | hwySilence x o => exact hdone (h.eventIf _ o)
  | hwyLost x o => exact hdone (h.eventIf _ o)
  | referencePulse r => exact hdone (timingInv_of_tim (t := s.pulse r) rfl (h.ok.refPulse r))
  | referenceLoss r o => exact hdone (h.eventIf _ o)
  | driftWindowEnd src o => exact hdone (h.eventIf _ o)
  | candidateQualified src o => exact hdone (h.eventIf _ o)
  | selectLocked o => exact hdone (h.eventIf _ o)
  | holdoverValid o => exact hdone (h.eventIf _ o)
  | holdoverLimit o => exact hdone (h.eventIf _ o)
  | waitToRestore o => exact hdone (h.eventIf _ o)
  | operationTimeout id => exact hleft (State.failOp_tim id true s)
  | lateAnswer id e => exact ⟨s, rfl, h⟩
  | descriptorReadEnd id e => exact hleft (s.descriptorReadEnd_tim id e)
  | dataReadEnd id e => exact hleft (s.dataReadEnd_tim id e)
  | dataWriteEnd id e => exact hleft (s.dataWriteEnd_tim id e)
  | writeBackEnd id e => exact hleft (s.writeBackEnd_tim id e)
  | flushReadEnd id e => exact hleft (s.flushReadEnd_tim id e)
  | staleOperationEnd id e => exact hleft (s.staleEnd_tim id)
  | completionWriteEnd id e => exact hleft (s.completionWriteEnd_tim id e)
  | writeBackIssue c => exact hleft (s.chanStepIf_tim c _ _)
  | deferredLookaheadRead c => exact hleft (s.chanStepIf_tim c _ _)
  | primingRead c => exact hleft (s.chanStepIf_tim c _ _)
  | flushWalk c => exact hleft (s.chanStepIf_tim c _ _)
  | chanClosed c => exact hleft (s.chanStepIf_tim c _ _)
  | overflow ring => exact hleft (s.overflowStep_tim ring)
  | heldRecordPlaced ring => exact hleft (s.heldStep_tim ring)
  | stoppingEnd => exact hleft s.stoppingEnd_tim
  | resettingEnd => exact hleft s.resettingEnd_tim

theorem TimingInv.step {t : State} (hstep : step s = .next t) : TimingInv t := by
  unfold Machine.step at hstep
  split at hstep
  · cases hstep
    exact h
  · next c rest _ =>
    have hrest : TimingInv { s with pending := rest } := h
    obtain ⟨u, hexec, hu⟩ := hrest.exec c
    rw [hexec] at hstep
    cases hstep
    exact hu

end Steps

/-- Settles O59, command by command: sources stay distinct, and every move of the selector leaves it on a QUALIFIED
candidate, in HOLDOVER with the flag set, or in FREERUN. -/
theorem timingKept : Obligations.TimingKept := by
  unfold Obligations.TimingKept
  exact fun s t h hstep => h.step hstep

end Sys2Proof.Machine
end

section
/-! PROOFS. O45: a reference pulse; O15: the end of a START; O29: SETREF. -/

set_option Elab.async false

namespace Sys2Proof.Machine

/-! ### REFERENCE_PULSE -/

theorem Timing.passes_eq (src : Source) (t : Timing) :
    t.passes src = (t.cands.find? fun k => k.src == src).any fun k => k.st != .failed := by
  unfold Timing.passes Timing.cand?
  cases t.cands.find? fun k => k.src == src <;> rfl

/-- A change of records that keeps sources and states leaves what REFOUT may carry (R137). -/
theorem Timing.passes_modCand (src x : Source) {f : Cand → Cand} (hsrc : ∀ c, (f c).src = c.src)
    (hst : ∀ c, (f c).st = c.st) (t : Timing) : (t.modCand x f).passes src = t.passes src := by
  have hsrc' : ∀ c : Cand, (if c.src = x then f c else c).src = c.src := fun c => by split <;> simp [hsrc]
  have hst' : ∀ c : Cand, (if c.src = x then f c else c).st = c.st := fun c => by split <;> simp [hst]
  rw [Timing.passes_eq, Timing.passes_eq, Timing.modCand, List.find?_map]
  simp only [Function.comp_def, hsrc', Option.any_map, hst']

/-- Settles O45: the pulse changes its candidate's record alone, and REFOUT. -/
theorem referencePulseTaken : Obligations.ReferencePulseTaken := by
  unfold Obligations.ReferencePulseTaken
  intro r s hs
  have hpulsed : Settled (s.pulse r) := hs
  have hsrc : ∀ c : Cand, c.refPulse.src = c.src := fun c => by unfold Cand.refPulse; split <;> rfl
  have hst : ∀ c : Cand, c.refPulse.st = c.st := fun c => by unfold Cand.refPulse; split <;> rfl
  show done (s.pulse r) = _
  rw [done, hpulsed.finish, State.pulse, Timing.refPulse, Timing.exportArrival_eq,
    Timing.passes_modCand _ _ hsrc hst, Timing.passes_eq]
  rfl

/-! ### SETUP_READ_END -/

/-- The ring sizes a setup block may give: the powers of two from 16 to 4096 (R188). -/
theorem ringSizeOk_iff (n : Nat) : ringSizeOk n = true ↔ ∃ k, 4 ≤ k ∧ k ≤ 12 ∧ n = 2 ^ k := by
  constructor
  · intro h
    have hmem : n ∈ [16, 32, 64, 128, 256, 512, 1024, 2048, 4096] := List.contains_iff_mem.1 h
    have hpow : ∀ m ∈ [16, 32, 64, 128, 256, 512, 1024, 2048, 4096], ∃ k < 13, 4 ≤ k ∧ m = 2 ^ k := by decide
    obtain ⟨k, hk, hk', rfl⟩ := hpow n hmem
    exact ⟨k, hk', Nat.le_of_lt_succ hk, rfl⟩
  · rintro ⟨k, hk, hk', rfl⟩
    have hpow : ∀ k < 13, 4 ≤ k → ringSizeOk (2 ^ k) = true := by decide
    exact hpow k (Nat.lt_succ_of_le hk') hk

section Setup

variable (bytes : List Byte)

theorem parseSetup_bases {n : Nat} (h : n < 4) : (parseSetup bytes).bases.getD n 0 = leField bytes (0x10 + 8 * n) 8 := by
  obtain rfl | rfl | rfl | rfl : n = 0 ∨ n = 1 ∨ n = 2 ∨ n = 3 := by omega
  all_goals rfl

theorem parseSetup_sizes {n : Nat} (h : n < 4) : (parseSetup bytes).sizes.getD n 0 = leField bytes (0x30 + 2 * n) 2 := by
  obtain rfl | rfl | rfl | rfl : n = 0 ∨ n = 1 ∨ n = 2 ∨ n = 3 := by omega
  all_goals rfl

/-- A ring of the block, used or unused (R188). -/
theorem setupRingOk_iff {n : Nat} (h : n < 4) : setupRingOk (parseSetup bytes) n = true ↔
    (n < leField bytes 0x0A 1 →
      (∃ k, 4 ≤ k ∧ k ≤ 12 ∧ leField bytes (0x30 + 2 * n) 2 = 2 ^ k) ∧ leField bytes (0x10 + 8 * n) 8 % 16 = 0) ∧
    (leField bytes 0x0A 1 ≤ n → leField bytes (0x30 + 2 * n) 2 = 0 ∧ leField bytes (0x10 + 8 * n) 8 = 0) := by
  unfold setupRingOk
  rw [parseSetup_bases bytes h, parseSetup_sizes bytes h]
  show (if n < leField bytes 0x0A 1 then _ else _) = true ↔ _
  by_cases hused : n < leField bytes 0x0A 1
  · rw [if_pos hused, Bool.and_eq_true, beq_iff_eq, ringSizeOk_iff]
    exact ⟨fun h => ⟨fun _ => h, fun hle => absurd hused (Nat.not_lt.2 hle)⟩, fun h => h.1 hused⟩
  · rw [if_neg hused, Bool.and_eq_true, beq_iff_eq, beq_iff_eq]
    exact ⟨fun h => ⟨fun hlt => absurd hlt hused, fun _ => h⟩, fun h => h.2 (Nat.not_lt.1 hused)⟩

/-- Which setup blocks are valid (R188). -/
theorem setupOk_iff : setupOk (parseSetup bytes) = true ↔
    ((∃ k, 4 ≤ k ∧ k ≤ 12 ∧ leField bytes 0x08 2 = 2 ^ k) ∧ leField bytes 0x00 8 % 64 = 0 ∧
      1 ≤ leField bytes 0x0A 1 ∧ leField bytes 0x0A 1 ≤ 4 ∧
      (∀ n, n < leField bytes 0x0A 1 →
        (∃ k, 4 ≤ k ∧ k ≤ 12 ∧ leField bytes (0x30 + 2 * n) 2 = 2 ^ k) ∧ leField bytes (0x10 + 8 * n) 8 % 16 = 0) ∧
      (∀ n, leField bytes 0x0A 1 ≤ n → n < 4 →
        leField bytes (0x30 + 2 * n) 2 = 0 ∧ leField bytes (0x10 + 8 * n) 8 = 0) ∧
      leField bytes 0x0B 1 < leField bytes 0x0A 1 ∧ leField bytes 0x38 8 = 0) := by
  have hrings : (List.range 4).all (setupRingOk (parseSetup bytes)) = true ↔
      ∀ n < 4, setupRingOk (parseSetup bytes) n = true := by simp
  simp only [setupOk, Bool.and_eq_true, decide_eq_true_eq, beq_iff_eq, ringSizeOk_iff, hrings]
  constructor
  · rintro ⟨⟨⟨⟨⟨hsize, hbase⟩, hone, hfour⟩, hall⟩, hevent⟩, hres⟩
    exact ⟨hsize, hbase, hone, hfour,
      fun n hn => ((setupRingOk_iff bytes (hn.trans_le hfour)).1 (hall n (hn.trans_le hfour))).1 hn,
      fun n hle hn => ((setupRingOk_iff bytes hn).1 (hall n hn)).2 hle, hevent, hres⟩
  · rintro ⟨hsize, hbase, hone, hfour, hused, hunused, hevent, hres⟩
    exact ⟨⟨⟨⟨⟨hsize, hbase⟩, hone, hfour⟩,
      fun n hn => (setupRingOk_iff bytes hn).2 ⟨hused n, fun hle => hunused n hle hn⟩⟩, hevent⟩, hres⟩

/-- A ring of the layout a setup block gives (R162, R180). -/
theorem setupRing_eq (n : RingId) : (parseSetup bytes).ring n.val = {
    base := BitVec.ofNat 64 (leField bytes (0x10 + 8 * n.val) 8)
    size := leField bytes (0x30 + 2 * n.val) 2
    produced := 0, head := 0, armed := false, missed := 0, held := none } := by
  rw [SetupBlock.ring, parseSetup_bases bytes n.isLt, parseSetup_sizes bytes n.isLt]
  rfl

end Setup

theorem Timing.takePreset_eq (n : Nat) (t : Timing) : t.takePreset n = { t with
    counter := if t.presetTaken then t.counter else t.counter + BitVec.ofNat 32 n
    presetTaken := true } := by
  unfold Timing.takePreset
  cases h : t.presetTaken
  · rfl
  · simp only [if_true]
    rw [← h]

section SetupEnd

variable {f : Op} {s : State} (hstart : s.dev.st = .starting) (hlive : s.liveOpOf .setupRead = some f)

include hstart hlive

theorem State.setupReadEnd_valid {bytes : List Byte} (h : setupOk (parseSetup bytes) = true) :
    s.setupReadEnd (.data bytes) = (without f s).goOnline (parseSetup bytes) := by
  unfold State.setupReadEnd
  rw [hlive]
  exact if_pos ⟨hstart, h⟩

theorem State.setupReadEnd_invalid {bytes : List Byte} (h : setupOk (parseSetup bytes) = false) :
    s.setupReadEnd (.data bytes) = { without f s with dev := { s.dev with st := .offline, cause := .setupInvalid } } := by
  unfold State.setupReadEnd
  rw [hlive]
  exact (if_neg fun e => Bool.false_ne_true (h.symm.trans e.2)).trans (if_pos hstart)

theorem State.setupReadEnd_fails (hinv : LinkInv s) (timeout : Bool) : s.failOp f.id timeout =
    { without f s with dev := { s.dev with st := .offline, cause := .setupError } } := by
  obtain ⟨hf, hkind, hmark⟩ := State.liveOpOf_mem hlive
  rw [hinv.failOp hf hmark, hkind]
  exact if_pos hstart

end SetupEnd

/-- In OFFLINE nothing more comes about within the moment. -/
theorem done_offline {t : State} (h : t.dev.st = .offline) : done t = .next t := by
  rw [done, State.finish_eq_self _ (by simp [h]) (by simp [h])]

/-- Settles O15: the end goes to the setup read in flight, and validity is checked field by field. -/
theorem setupReadEnd : Obligations.SetupReadEnd := by
  unfold Obligations.SetupReadEnd
  refine ⟨fun f s hinv hstart hlive => ⟨fun bytes hok => ?_, fun bytes hbad => ?_, ?_, ?_⟩, setupOk_iff⟩
  · show done (s.setupReadEnd (.data bytes)) = _
    rw [State.setupReadEnd_valid hstart hlive hok, done_online _ rfl, State.goOnline, funext (setupRing_eq bytes), Timing.takePreset_eq]
    rfl
  · show done (s.setupReadEnd (.data bytes)) = _
    rw [State.setupReadEnd_invalid hstart hlive hbad, done_offline rfl]
  · have hend : s.setupReadEnd .error = s.failOp f.id false := by rw [State.setupReadEnd, hlive]
    show done (s.setupReadEnd .error) = _
    rw [hend, State.setupReadEnd_fails hstart hlive hinv, done_offline rfl]
  · have hend : s.setupReadEnd .timeout = s.failOp f.id true := by rw [State.setupReadEnd, hlive]
    show done (s.setupReadEnd .timeout) = _
    rw [hend, State.setupReadEnd_fails hstart hlive hinv, done_offline rfl]

/-! ### SETREF -/

/-- A record of a SETREF's list: kept, or new with a window unless its source is in loss (R133). -/
def State.listed (s : State) (src : Source) : Cand :=
  match s.tim.cands.find? fun c => c.src == src with
  | some c => c
  | none => { src := src, st := .failed, gap := (match src with | .hwy _ => 0 | .ref _ => 3),
              window := (match src with
                | .hwy h => if s.hwys[h].align = .aligned then some { events := 0, arrivals := 0 } else none
                | .ref _ => none),
              drift := false, qualCount := 0, qualTime := 0 }

theorem State.relist_eq (s : State) : s.tim.relist s.aligned = s.listed := by
  funext src
  unfold Timing.relist State.listed Timing.cand?
  cases s.tim.cands.find? fun c => c.src == src with
  | some c => rfl
  | none =>
    cases src with
    | hwy h =>
      by_cases ha : s.hwys[h].align = .aligned
      · simp only [newCand, Cand.inLoss, State.aligned, ha, decide_true, Bool.not_true, Bool.false_eq_true, if_false, if_true]
      · simp only [newCand, Cand.inLoss, State.aligned, ha, decide_false, Bool.not_false, if_false, if_true]
    | ref r => rfl

/-- The state with the list and the configuration of a SETREF, the selector not moved (R133, R134). -/
def State.relisted (r : ReqRecord) (s : State) : State := { s with tim := s.tim.relisted s.aligned r }

/-- A SETREF that passes its checks: the timing unit's change, and OK with the length of the list (R136). -/
theorem Fetching.setref {f : Op} {s : State} (hf : Fetching f s) {r : ReqRecord} (hr : HeaderPasses r s)
    (hbody : BodyPasses (.setref r) r s) : exec (.setref r) s =
      done (((executing f s).withTiming (s.tim.setref s.aligned r)).finishRequest
        { ring := ringOf r, tag := r.tag, frame := 0 } .ok (setrefSources r).length 0) := by
  have hfields : setrefFieldsOk r = true := hbody.checks
  have hcarried : setrefBody r { ring := ringOf r, tag := r.tag, frame := 0 } (executing f s) =
      ((executing f s).withTiming (s.tim.setref s.aligned r)).finishRequest
        { ring := ringOf r, tag := r.tag, frame := 0 } .ok (setrefSources r).length 0 := if_pos hfields
  show done (s.request r setrefBody) = _
  rw [hf.request hr, hcarried]

/-- A selector falls to the best QUALIFIED candidate (R128). -/
theorem fallen_of_some (limit : Nat) {t : Timing} {c : Cand} (h : bestQualified t.cands = some c) :
    (fallen limit t).sel = .acquiring c.src ∧ (fallen limit t).acquire = 0 ∧ (fallen limit t).valid = t.valid := by
  unfold bestQualified at h
  simp only [fallen, h, and_self]

/-- With none QUALIFIED it falls to HOLDOVER, or to FREERUN (R127, R128). -/
theorem fallen_of_none (limit : Nat) {t : Timing} (h : bestQualified t.cands = none) :
    if t.valid = true ∧ 0 < limit then (fallen limit t).sel = .holdover ∧ (fallen limit t).elapsed = 0
    else (fallen limit t).sel = .freerun ∧ (fallen limit t).valid = false := by
  unfold bestQualified at h
  split
  · next hv => simp only [fallen, h, if_pos hv, and_self]
  · next hv => simp only [fallen, h, if_neg hv, and_self]

/-- A fall leaves all but the selector and its counts (R128). -/
theorem fallen_leaves (limit : Nat) (t : Timing) : fallen limit t = { t with
    sel := (fallen limit t).sel
    acquire := (fallen limit t).acquire
    lockedRun := (fallen limit t).lockedRun
    valid := (fallen limit t).valid
    elapsed := (fallen limit t).elapsed } := by
  rw [← Timing.fallback_eq]
  exact (t.fallback_move limit).leaves

/-- Settles O29: a SETREF that keeps the selected candidate has no move of the selector, and one that removes it a fall by
the new limit. -/
theorem setrefReplaces : Obligations.SetrefReplaces := by
  unfold Obligations.SetrefReplaces
  refine ⟨fun r f s hf hr hbody hkept => ?keeps, fun r f src s hf hr hbody hsel hgone => ?removes⟩
  case keeps =>
    have hfinish := hf.finish r .ok (setrefSources r).length ((inHand f s).relisted r) rfl rfl
    have hstate : (executing f s).withTiming (s.tim.relisted s.aligned r, []) = { (inHand f s).relisted r with
        proc := { ((inHand f s).relisted r).proc with st := .executing } } := rfl
    rw [hf.setref hr hbody, Timing.setref_keeps hkept, hstate, hfinish,
      done_answer r .ok _ ((inHand f s).relisted r) hf.online, State.relisted, Timing.relisted, State.relist_eq]
    rfl
  case removes =>
    obtain ⟨t, hdone, hhwys, hmap, hchans, hconsumed, htim⟩ := done_withTiming_finishRequest
      { ring := ringOf r, tag := r.tag, frame := 0 } .ok (setrefSources r).length (s.tim.setref s.aligned r)
      (executing f s) hf.linked hf.online
    rw [Timing.setref_removes hsel hgone, Timing.fallback_eq] at htim
    have hcands := (fallen_keeps (reqField r 0x0C 2) (s.tim.relisted s.aligned r)).1
    refine ⟨t, (hf.setref hr hbody).trans hdone, hconsumed, ?_, hhwys, hmap, hchans, ?_, ?_, ?_⟩
    · rw [htim, hcands]
      exact map_relist_src s.aligned s.tim _
    · rw [htim, fallen_leaves]
      rfl
    · rw [htim, fallen_leaves]
      rfl
    · rw [htim]
      cases hbest : bestQualified (s.tim.relisted s.aligned r).cands with
      | some c =>
        have hfind : (fallen (reqField r 0x0C 2) (s.tim.relisted s.aligned r)).cands.find? (fun c => c.st == .qualified) =
            some c := by rw [hcands]; exact hbest
        simp only [hfind]
        exact fallen_of_some _ hbest
      | none =>
        have hfind : (fallen (reqField r 0x0C 2) (s.tim.relisted s.aligned r)).cands.find? (fun c => c.st == .qualified) =
            none := by rw [hcands]; exact hbest
        simp only [hfind]
        exact fallen_of_none _ hbest

end Sys2Proof.Machine
end

section
/-! PROOFS. O36: the candidates at a device frame event. -/

set_option Elab.async false

namespace Sys2Proof.Machine

/-! ### The steps of one candidate's work (R119 to R123) -/

section Ticks

variable (aligned : HwyId → Bool) (driftLimit qualifyTime : Nat) {c : Cand}

theorem Cand.gapTick_leaves (c : Cand) : c.gapTick = { c with gap := c.gapTick.gap } := by
  unfold Cand.gapTick
  split <;> rfl

theorem Cand.windowTick_leaves (c : Cand) : c.windowTick aligned driftLimit = { c with
    window := (c.windowTick aligned driftLimit).window, drift := (c.windowTick aligned driftLimit).drift } := by
  unfold Cand.windowTick
  split
  · rfl
  · split
    · split <;> rfl
    · rfl

/-- The candidate before the state rules: pulse gap and window have advanced, a window that ended has been judged
(R119, R120). -/
def Cand.measured (c : Cand) : Cand := c.gapTick.windowTick aligned driftLimit

/-- The measures leave source, state and counts. -/
theorem Cand.measured_leaves (c : Cand) : c.measured aligned driftLimit = { c with
    gap := c.gapTick.gap
    window := (c.measured aligned driftLimit).window
    drift := (c.measured aligned driftLimit).drift } := by
  have hwindow : c.measured aligned driftLimit = { c.gapTick with
      window := (c.measured aligned driftLimit).window, drift := (c.measured aligned driftLimit).drift } :=
    c.gapTick.windowTick_leaves aligned driftLimit
  have hgap := c.gapTick_leaves
  generalize c.measured aligned driftLimit = d at hwindow ⊢
  generalize c.gapTick = e at hwindow hgap ⊢
  calc d = { e with window := d.window, drift := d.drift } := hwindow
    _ = { c with gap := e.gap, window := d.window, drift := d.drift } := by rw [hgap]

theorem Cand.measured_src (c : Cand) : (c.measured aligned driftLimit).src = c.src := by rw [Cand.measured_leaves]

theorem Cand.measured_st (c : Cand) : (c.measured aligned driftLimit).st = c.st := by rw [Cand.measured_leaves]

theorem Cand.inLoss_congr {c d : Cand} (hsrc : c.src = d.src) (hgap : c.gap = d.gap) : c.inLoss aligned = d.inLoss aligned := by
  unfold Cand.inLoss
  rw [hsrc, hgap]

theorem Cand.measured_inLoss (c : Cand) : (c.measured aligned driftLimit).inLoss aligned = c.gapTick.inLoss aligned :=
  Cand.inLoss_congr aligned (by simp [Cand.measured]) (by rw [Cand.measured_leaves])

/-- In loss the window is abandoned (R120). -/
theorem Cand.measured_of_loss (h : c.gapTick.inLoss aligned = true) :
    c.measured aligned driftLimit = { c.gapTick with window := none } := if_pos h

/-- A window that ends is judged, and the next one begins (R120). -/
theorem Cand.measured_of_ends (h : c.gapTick.inLoss aligned = false) {w : Window} (hw : c.window = some w)
    (hends : 8000 ≤ w.events + 1) : c.measured aligned driftLimit =
      { c.gapTick with drift := drifted driftLimit w.arrivals, window := some { events := 0, arrivals := 0 } } := by
  have hw' : c.gapTick.window = some w := by rw [c.gapTick_leaves]; exact hw
  unfold Cand.measured Cand.windowTick
  rw [h, hw']
  exact (if_neg Bool.false_ne_true).trans (if_pos hends)

/-- A window that does not end leaves the drift fault (R120). -/
theorem Cand.measured_drift_of_runs (hruns : ∀ w, c.window = some w → w.events + 1 < 8000) :
    (c.measured aligned driftLimit).drift = c.drift := by
  have hdrift : c.gapTick.drift = c.drift := by rw [c.gapTick_leaves]
  have hwindow : c.gapTick.window = c.window := by rw [c.gapTick_leaves]
  unfold Cand.measured Cand.windowTick
  split
  · exact hdrift
  · rw [hwindow]
    split
    · next w hw =>
      exact (congrArg Cand.drift (if_neg (Nat.not_le.2 (hruns w hw)))).trans hdrift
    · exact hdrift

/-- A count of arrivals within the limit of 8000 is no drift (R120). -/
theorem drifted_eq_false_iff (limit arrivals : Nat) :
    drifted limit arrivals = false ↔ arrivals ≤ 8000 + limit ∧ 8000 ≤ arrivals + limit := by
  show decide (limit < (arrivals - 8000) + (8000 - arrivals)) = false ↔ _
  rw [decide_eq_false_iff_not]
  omega

/-- A good candidate goes on by the state rules (R121 to R123). -/
theorem Cand.frameTick_of_good (h : (c.measured aligned driftLimit).good aligned = true) :
    c.frameTick aligned driftLimit qualifyTime = (c.measured aligned driftLimit).stateTick aligned qualifyTime := by
  have hstays : (c.measured aligned driftLimit).failTick aligned = c.measured aligned driftLimit :=
    if_neg fun e => Bool.false_ne_true (e.2.symm.trans h)
  exact congrArg (Cand.stateTick aligned qualifyTime) hstays

/-- A bad candidate is FAILED, and stays so (R123). -/
theorem Cand.frameTick_of_bad (h : (c.measured aligned driftLimit).good aligned = false) :
    c.frameTick aligned driftLimit qualifyTime = (c.measured aligned driftLimit).failTick aligned ∧
      (c.frameTick aligned driftLimit qualifyTime).st = .failed := by
  have hst : ((c.measured aligned driftLimit).failTick aligned).st = .failed := by
    unfold Cand.failTick
    split
    · rfl
    · next hn => exact not_not.1 fun e => hn ⟨e, h⟩
  have hbad : ((c.measured aligned driftLimit).failTick aligned).good aligned = false := by
    unfold Cand.failTick
    split
    · exact h
    · exact h
  have htick : c.frameTick aligned driftLimit qualifyTime = (c.measured aligned driftLimit).failTick aligned := by
    show ((c.measured aligned driftLimit).failTick aligned).stateTick aligned qualifyTime = _
    unfold Cand.stateTick
    rw [hst]
    exact if_neg (Bool.eq_false_iff.1 hbad)
  exact ⟨htick, htick ▸ hst⟩

/-- From FAILED to QUALIFYING, with a new window (R121). -/
theorem Cand.stateTick_of_failed (hst : c.st = .failed) (h : c.good aligned = true) : c.stateTick aligned qualifyTime =
    { c with st := .qualifying, qualCount := 0, window := some { events := 0, arrivals := 0 } } := by
  unfold Cand.stateTick
  rw [hst]
  exact if_pos h

/-- From QUALIFYING to QUALIFIED when the qualify time is up (R122). -/
theorem Cand.stateTick_of_qualifying (hst : c.st = .qualifying) : c.stateTick aligned qualifyTime =
    if qualifyTime * 8000 ≤ c.qualCount + 1 then { c with st := .qualified, qualCount := c.qualCount + 1, qualTime := 0 }
    else { c with qualCount := c.qualCount + 1 } := by
  unfold Cand.stateTick
  rw [hst]
  rfl

/-- In QUALIFIED the qualified time counts (R122). -/
theorem Cand.stateTick_of_qualified (hst : c.st = .qualified) : c.stateTick aligned qualifyTime =
    { c with qualTime := if c.qualTime < 2040000 then c.qualTime + 1 else c.qualTime } := by
  unfold Cand.stateTick
  rw [hst]
  rfl

/-- The state rules make no candidate FAILED. -/
theorem Cand.stateTick_ne_failed (h : c.st = .failed → c.good aligned = true) :
    (c.stateTick aligned qualifyTime).st ≠ .failed := by
  cases hst : c.st
  case failed =>
    rw [Cand.stateTick_of_failed _ _ hst (h hst)]
    exact nofun
  case qualifying =>
    rw [Cand.stateTick_of_qualifying _ _ hst]
    split
    · exact nofun
    · rw [hst]; exact nofun
  case qualified =>
    rw [Cand.stateTick_of_qualified _ _ hst]
    exact fun e => nomatch hst.symm.trans e

/-- The rules of failure and state leave the drift fault as the window's judgement left it. -/
theorem Cand.frameTick_drift (c : Cand) :
    (c.frameTick aligned driftLimit qualifyTime).drift = (c.measured aligned driftLimit).drift := by
  cases hgood : (c.measured aligned driftLimit).good aligned
  · rw [(Cand.frameTick_of_bad aligned driftLimit qualifyTime hgood).1, Cand.failTick]
    split <;> rfl
  · rw [Cand.frameTick_of_good _ _ _ hgood, Cand.stateTick]
    split
    · split <;> rfl
    · split <;> rfl
    · rfl

/-- They leave a window that has just begun (R120, R121). -/
theorem Cand.frameTick_window (h : (c.measured aligned driftLimit).window = some { events := 0, arrivals := 0 }) :
    (c.frameTick aligned driftLimit qualifyTime).window = some { events := 0, arrivals := 0 } := by
  cases hgood : (c.measured aligned driftLimit).good aligned
  · rw [(Cand.frameTick_of_bad aligned driftLimit qualifyTime hgood).1, Cand.failTick]
    split <;> exact h
  · rw [Cand.frameTick_of_good _ _ _ hgood]
    cases hst : (c.measured aligned driftLimit).st
    case failed => rw [Cand.stateTick_of_failed _ _ hst hgood]
    case qualifying =>
      rw [Cand.stateTick_of_qualifying _ _ hst]
      split <;> exact h
    case qualified =>
      rw [Cand.stateTick_of_qualified _ _ hst]
      exact h

/-- A candidate is FAILED after its work exactly when it is bad (R121, R123). -/
theorem Cand.frameTick_failed_iff : (c.frameTick aligned driftLimit qualifyTime).st = .failed ↔
    (c.measured aligned driftLimit).good aligned = false := by
  cases hgood : (c.measured aligned driftLimit).good aligned
  · exact iff_of_true (Cand.frameTick_of_bad aligned driftLimit qualifyTime hgood).2 rfl
  · rw [Cand.frameTick_of_good _ _ _ hgood]
    exact iff_of_false (Cand.stateTick_ne_failed _ _ fun _ => hgood) nofun

/-- Only a candidate that was not FAILED can be QUALIFIED after its work. -/
theorem Cand.frameTick_of_failed (hst : c.st = .failed) : (c.frameTick aligned driftLimit qualifyTime).st ≠ .qualified := by
  cases hgood : (c.measured aligned driftLimit).good aligned
  · rw [(Cand.frameTick_of_bad aligned driftLimit qualifyTime hgood).2]
    exact nofun
  · rw [Cand.frameTick_of_good _ _ _ hgood,
      Cand.stateTick_of_failed aligned qualifyTime ((Cand.measured_st ..).trans hst) hgood]
    exact nofun

/-- What comes about in one candidate's work, step by step (R131). -/
def Cand.workOccs (c : Cand) : List TimOcc :=
  gapOcc c ++ windowOcc aligned c.gapTick ++ failTickOcc aligned (c.measured aligned driftLimit) ++
    stateOcc aligned qualifyTime ((c.measured aligned driftLimit).failTick aligned)

/-- All of it comes about at the event. -/
theorem mem_candOccs {cs : List Cand} (hc : c ∈ cs) {x : TimOcc} (hx : x ∈ c.workOccs aligned driftLimit qualifyTime) :
    x ∈ candOccs aligned driftLimit qualifyTime cs := by
  have h1 : c.gapTick ∈ cs.map Cand.gapTick := List.mem_map_of_mem hc
  have h2 := List.mem_map_of_mem (f := Cand.windowTick aligned driftLimit) h1
  have h3 := List.mem_map_of_mem (f := Cand.failTick aligned) h2
  simp only [Cand.workOccs, List.mem_append] at hx
  simp only [candOccs, List.mem_append, List.mem_flatMap]
  rcases hx with ((hx | hx) | hx) | hx
  · exact .inl (.inl (.inl ⟨c, hc, hx⟩))
  · exact .inl (.inl (.inr ⟨_, h1, hx⟩))
  · exact .inl (.inr ⟨_, h2, hx⟩)
  · exact .inr ⟨_, h3, hx⟩

end Ticks

/-! ### Which highways fall silent, and when it is taken (R54, R123) -/

section Silence

variable (o : FrameOrder) (s : State) (h : HwyId)

theorem State.mem_silentHwys : h ∈ s.silentHwys ↔ s.hwys[h].fallsSilent = true := by
  simp [State.silentHwys]

/-- The losses taken before the timing unit's work. -/
theorem State.lossesBefore_iff : (s.lossesBefore o).contains h = true ↔ h ∈ o.before ∧ s.hwys[h].fallsSilent = true := by
  simp [State.lossesBefore, State.mem_silentHwys]

/-- The losses taken after it are the others. -/
theorem State.lossesAfter_iff : (s.lossesAfter o).contains h = true ↔ h ∉ o.before ∧ s.hwys[h].fallsSilent = true := by
  have hleft : h ∈ (s.silentHwys.filter fun h => !o.before.contains h) ↔ h ∉ o.before ∧ s.hwys[h].fallsSilent = true := by
    simp [State.mem_silentHwys, and_comm]
  rw [← hleft]
  simp only [State.lossesAfter, List.contains_iff_mem, List.mem_append, List.mem_filter, List.mem_dedup]
  simp
  tauto

end Silence

/-! ### A candidate at the event -/

section Candidate

variable (o : FrameOrder) {s : State} {k : Cand}

/-- Which highways count as ALIGNED in the timing unit's work (R118, R123). -/
def State.alignedInWork (s : State) (h : HwyId) : Bool := s.aligned h && !(s.lossesBefore o).contains h

/-- A candidate's record after a device frame event. -/
def State.candTick (s : State) (k : Cand) : Cand :=
  (k.workTick s.aligned (s.lossesBefore o).contains s.tim.driftLimit s.tim.qualifyTime).afterLosses (s.lossesAfter o).contains

@[simp] theorem State.candTick_src (s : State) (k : Cand) : (s.candTick o k).src = k.src := by
  simp [State.candTick]

theorem State.timingEvent_cands (s : State) : (s.timingEvent o).1.cands = s.tim.cands.map (s.candTick o) :=
  Timing.frameEvent_cands _ _ _ _

/-- The candidate has its source through the event: its highway stays ALIGNED, its pulse gap below 3 (R118, R119). -/
def SourceStays (s : State) (k : Cand) : Prop :=
  match k.src with
  | .hwy h => s.hwys[h].align = .aligned ∧ s.hwys[h].silence + 1 < 4
  | .ref _ => k.gap + 1 < 3

theorem StaysGood.sourceStays (h : StaysGood s k) : SourceStays s k := h.1

theorem sourceStays_of_hwy {g : HwyId} (hsrc : k.src = .hwy g) :
    SourceStays s k ↔ s.hwys[g].align = .aligned ∧ s.hwys[g].silence + 1 < 4 := by
  unfold SourceStays
  rw [hsrc]

theorem sourceStays_of_ref {r : RefInput} (hsrc : k.src = .ref r) : SourceStays s k ↔ k.gap + 1 < 3 := by
  unfold SourceStays
  rw [hsrc]

theorem Cand.isAmong_of_hwy {g : HwyId} (hsrc : k.src = .hwy g) (lost : HwyId → Bool) : k.isAmong lost = lost g := by
  unfold Cand.isAmong
  rw [hsrc]

/-- Losses of highways are none of REFA or REFB. -/
theorem Cand.not_among_of_ref {r : RefInput} (hsrc : k.src = .ref r) (lost : HwyId → Bool) : k.isAmong lost = false := by
  unfold Cand.isAmong
  rw [hsrc]

theorem Cand.inLoss_of_hwy {g : HwyId} (hsrc : k.src = .hwy g) (aligned : HwyId → Bool) : k.inLoss aligned = !aligned g := by
  unfold Cand.inLoss
  rw [hsrc]

theorem Cand.inLoss_of_ref {r : RefInput} (hsrc : k.src = .ref r) (aligned : HwyId → Bool) :
    k.inLoss aligned = decide (3 ≤ k.gap) := by
  unfold Cand.inLoss
  rw [hsrc]
  rfl

/-- No loss of a highway is one of a candidate that keeps its source. -/
theorem SourceStays.not_among (h : SourceStays s k) {lost : HwyId → Bool}
    (hlost : ∀ g, lost g = true → s.hwys[g].fallsSilent = true) : k.isAmong lost = false := by
  rcases hsrc : k.src with g | r
  · have hheard := (sourceStays_of_hwy hsrc).1 h
    rw [Cand.isAmong_of_hwy hsrc]
    exact Bool.eq_false_iff.2 fun e => Nat.not_le.2 hheard.2 ((Highway.fallsSilent_iff _).1 (hlost g e)).2
  · exact Cand.not_among_of_ref hsrc lost

theorem SourceStays.not_before (h : SourceStays s k) : k.isAmong (s.lossesBefore o).contains = false :=
  h.not_among fun g hg => ((State.lossesBefore_iff o s g).1 hg).2

theorem SourceStays.not_after (h : SourceStays s k) : k.isAmong (s.lossesAfter o).contains = false :=
  h.not_among fun g hg => ((State.lossesAfter_iff o s g).1 hg).2

theorem State.candTick_eq (hbefore : k.isAmong (s.lossesBefore o).contains = false)
    (hafter : k.isAmong (s.lossesAfter o).contains = false) :
    s.candTick o k = k.frameTick (s.alignedInWork o) s.tim.driftLimit s.tim.qualifyTime := by
  rw [State.candTick, Cand.afterLosses_of_not_among ((Cand.isAmong_congr (by simp) _).trans hafter), Cand.workTick,
    Cand.afterLosses_of_not_among hbefore]
  rfl

theorem SourceStays.candTick (h : SourceStays s k) :
    s.candTick o k = k.frameTick (s.alignedInWork o) s.tim.driftLimit s.tim.qualifyTime :=
  State.candTick_eq o (h.not_before o) (h.not_after o)

/-- A candidate that keeps its source is not in loss in the work. -/
theorem SourceStays.not_inLoss (h : SourceStays s k) : k.gapTick.inLoss (s.alignedInWork o) = false := by
  have hsrcTick : k.gapTick.src = k.src := k.gapTick_src
  rcases hsrc : k.src with g | r
  · have hnotBefore : (s.lossesBefore o).contains g = false :=
      (Cand.isAmong_of_hwy hsrc _).symm.trans (h.not_before o)
    have haligned : s.alignedInWork o g = true := by
      rw [State.alignedInWork, State.aligned, decide_eq_true ((sourceStays_of_hwy hsrc).1 h).1, hnotBefore]
      rfl
    rw [Cand.inLoss_of_hwy (hsrcTick.trans hsrc), haligned]
    rfl
  · have hlow : k.gap + 1 < 3 := (sourceStays_of_ref hsrc).1 h
    have hgap : k.gapTick.gap = k.gap + 1 := by
      unfold Cand.gapTick
      rw [hsrc]
      exact if_pos (Nat.lt_of_succ_lt hlow)
    rw [Cand.inLoss_of_ref (hsrcTick.trans hsrc), hgap]
    exact decide_eq_false (Nat.not_le.2 hlow)

/-- A pulse gap of 3 is a loss (R119). -/
theorem Cand.inLoss_of_gap {r : RefInput} (hsrc : k.src = .ref r) (hgap : k.gap = 2) (aligned : HwyId → Bool) :
    k.gapTick.inLoss aligned = true ∧ k.gapTick = { k with gap := 3 } := by
  have htick : k.gapTick = { k with gap := 3 } := by
    unfold Cand.gapTick
    rw [hsrc, hgap]
    rfl
  refine ⟨?_, htick⟩
  rw [htick, Cand.inLoss, hsrc]
  rfl

/-- The record of a candidate, measured at the event. -/
abbrev State.measured (s : State) (k : Cand) : Cand := k.measured (s.alignedInWork o) s.tim.driftLimit

/-- A candidate that stays good is good when the state rules look at it (R121). -/
theorem StaysGood.good (h : StaysGood s k) : (s.measured o k).good (s.alignedInWork o) = true := by
  obtain ⟨hsource, hdrift, hwindow⟩ := h
  have hloss := SourceStays.not_inLoss o (k := k) hsource
  have hmeasured : (s.measured o k).drift = false := by
    by_cases hruns : ∀ w, k.window = some w → w.events + 1 < 8000
    · exact (Cand.measured_drift_of_runs _ _ hruns).trans hdrift
    · push Not at hruns
      obtain ⟨w, hw, hends⟩ := hruns
      rw [State.measured, Cand.measured_of_ends _ _ hloss hw hends]
      exact (drifted_eq_false_iff _ _).2 ((hwindow w hw).resolve_left (Nat.not_lt.2 hends))
  rw [Cand.good, Cand.measured_inLoss, hloss, hmeasured]
  rfl

/-- A candidate that stays good follows the state rules (R121, R122). -/
theorem StaysGood.candTick (h : StaysGood s k) :
    s.candTick o k = (s.measured o k).stateTick (s.alignedInWork o) s.tim.qualifyTime := by
  rw [h.sourceStays.candTick o, Cand.frameTick_of_good _ _ _ (h.good o)]

theorem StaysGood.candTick_failed (h : StaysGood s k) (hst : k.st = .failed) : s.candTick o k = { s.measured o k with
    st := .qualifying, qualCount := 0, window := some { events := 0, arrivals := 0 } } := by
  rw [h.candTick o, Cand.stateTick_of_failed _ _ ((Cand.measured_st ..).trans hst) (h.good o)]

theorem StaysGood.candTick_qualifying (h : StaysGood s k) (hst : k.st = .qualifying) : s.candTick o k =
    if s.tim.qualifyTime * 8000 ≤ k.qualCount + 1 then
      { s.measured o k with st := .qualified, qualCount := k.qualCount + 1, qualTime := 0 }
    else { s.measured o k with qualCount := k.qualCount + 1 } := by
  have hcount : (s.measured o k).qualCount = k.qualCount := by rw [State.measured, Cand.measured_leaves]
  rw [h.candTick o, Cand.stateTick_of_qualifying _ _ ((Cand.measured_st ..).trans hst), hcount]

theorem StaysGood.candTick_qualified (h : StaysGood s k) (hst : k.st = .qualified) : s.candTick o k =
    { s.measured o k with qualTime := if k.qualTime < 2040000 then k.qualTime + 1 else k.qualTime } := by
  have htime : (s.measured o k).qualTime = k.qualTime := by rw [State.measured, Cand.measured_leaves]
  rw [h.candTick o, Cand.stateTick_of_qualified _ _ ((Cand.measured_st ..).trans hst), htime]

/-- A candidate that no loss before the work is of has its work's occurrences at the event. -/
theorem State.mem_timingEvent_of_work (hk : k ∈ s.tim.cands) (hbefore : k.isAmong (s.lossesBefore o).contains = false)
    {x : TimOcc} (hx : x ∈ k.workOccs (s.alignedInWork o) s.tim.driftLimit s.tim.qualifyTime) :
    x ∈ (s.timingEvent o).2 := by
  have hlisted : k ∈ (s.tim.withLost (s.lossesBefore o).contains).cands := by
    have hmem := List.mem_map_of_mem (f := Cand.afterLosses (s.lossesBefore o).contains) hk
    rwa [Cand.afterLosses_of_not_among hbefore] at hmem
  rw [State.timingEvent, Timing.frameEvent_occs]
  exact List.mem_append_left _ (List.mem_append_right _ (List.mem_append_left _ (mem_candOccs _ _ _ hlisted hx)))

end Candidate

/-! ### The commands -/

/-- A row whose occurrence is due is the whole event. -/
theorem exec_eventIf {due : Bool} (h : due = true) (o : FrameOrder) (s : State) :
    done (s.eventIf due o) = .next (s.frameEvent o).finish := by
  rw [h]
  rfl

theorem State.contains_timingOccs {o : FrameOrder} {s : State} {x : TimOcc} (h : x ∈ (s.timingEvent o).2) :
    (s.timingOccs o).contains x = true := by
  rw [State.timingOccs_eq]
  exact List.contains_iff_mem.2 h

theorem State.candTick_mem (o : FrameOrder) {s : State} {k : Cand} (hk : k ∈ s.tim.cands) :
    s.candTick o k ∈ (s.frameEvent o).finish.tim.cands := by
  rw [State.finish_tim, State.frameEvent_tim, State.timingEvent_cands]
  exact List.mem_map_of_mem hk

section Rows

variable (o : FrameOrder) {s : State} {k : Cand} (hk : k ∈ s.tim.cands)

/-- A pulse gap that reaches 3: the row is due, and the candidate has failed (R119, R120, R123). -/
theorem State.candTick_refLoss {r : RefInput} (hsrc : k.src = .ref r) (hgap : k.gap = 2) :
    (s.candTick o k).gap = 3 ∧ (s.candTick o k).window = none ∧ (s.candTick o k).st = .failed ∧
      (k.st ≠ .failed → (s.candTick o k).qualCount = 0 ∧ (s.candTick o k).qualTime = 0) := by
  obtain ⟨hloss, htick⟩ := Cand.inLoss_of_gap hsrc hgap (s.alignedInWork o)
  have hmeasured : s.measured o k = { k with gap := 3, window := none } := by
    rw [State.measured, Cand.measured_of_loss _ _ hloss, htick]
  have hbad : (s.measured o k).good (s.alignedInWork o) = false := by
    rw [Cand.good, Cand.measured_inLoss, hloss]
    rfl
  obtain ⟨hfail, hfailed⟩ := Cand.frameTick_of_bad _ _ s.tim.qualifyTime hbad
  rw [State.candTick_eq o (Cand.not_among_of_ref hsrc _) (Cand.not_among_of_ref hsrc _)]
  refine ⟨?_, ?_, hfailed, fun hst => ?_⟩
  all_goals rw [hfail, ← State.measured, hmeasured, Cand.failTick]
  · split <;> rfl
  · split <;> rfl
  · rw [hmeasured] at hbad
    rw [if_pos ⟨hst, hbad⟩]
    exact ⟨rfl, rfl⟩

/-- A window that ends: judged against the drift limit, and the candidate is FAILED exactly at a drift (R120 to R123). -/
theorem SourceStays.candTick_windowEnd (h : SourceStays s k) {w : Window} (hw : k.window = some w)
    (hends : 8000 ≤ w.events + 1) : (s.candTick o k).window = some { events := 0, arrivals := 0 } ∧
      (s.candTick o k).drift = drifted s.tim.driftLimit w.arrivals ∧
      ((s.candTick o k).st = .failed ↔ drifted s.tim.driftLimit w.arrivals = true) := by
  have hloss := h.not_inLoss o
  have hmeasured := Cand.measured_of_ends (s.alignedInWork o) s.tim.driftLimit hloss hw hends
  have hgood : (s.measured o k).good (s.alignedInWork o) = !(drifted s.tim.driftLimit w.arrivals) := by
    rw [Cand.good, Cand.measured_inLoss, hloss, State.measured, hmeasured, Bool.not_false, Bool.true_and]
  rw [h.candTick o]
  refine ⟨Cand.frameTick_window _ _ _ (by rw [hmeasured]), by rw [Cand.frameTick_drift, hmeasured], ?_⟩
  rw [Cand.frameTick_failed_iff, hgood, Bool.not_eq_false']

include hk

theorem State.refLoss_due {r : RefInput} (hsrc : k.src = .ref r) (hgap : k.gap = 2) : .refLoss r ∈ (s.timingEvent o).2 := by
  have hocc : .refLoss r ∈ gapOcc k := by
    simp [gapOcc, hsrc, hgap, (Cand.inLoss_of_gap hsrc hgap (s.alignedInWork o)).2, Config.gapLimit]
  exact State.mem_timingEvent_of_work o hk (Cand.not_among_of_ref hsrc _) (by simp [Cand.workOccs, hocc])

theorem SourceStays.windowEnd_due (h : SourceStays s k) {w : Window} (hw : k.window = some w)
    (hends : 8000 ≤ w.events + 1) : .windowEnd k.src ∈ (s.timingEvent o).2 := by
  have hgapWindow : k.gapTick.window = some w := by rw [k.gapTick_leaves]; exact hw
  have hocc : .windowEnd k.src ∈ windowOcc (s.alignedInWork o) k.gapTick := by
    simp [windowOcc, Cand.windowEnds, h.not_inLoss o, hgapWindow, hends, Config.windowFrames]
  exact State.mem_timingEvent_of_work o hk (h.not_before o) (by simp [Cand.workOccs, hocc])

theorem StaysGood.qualified_due (h : StaysGood s k) (hst : k.st = .qualifying)
    (htime : s.tim.qualifyTime * 8000 ≤ k.qualCount + 1) : .qualified k.src ∈ (s.timingEvent o).2 := by
  have hmeasuredSt : (s.measured o k).st = .qualifying := (Cand.measured_st ..).trans hst
  have hcount : (s.measured o k).qualCount = k.qualCount := by rw [State.measured, Cand.measured_leaves]
  have hfail : (s.measured o k).failTick (s.alignedInWork o) = s.measured o k :=
    if_neg fun e => Bool.false_ne_true (e.2.symm.trans (h.good o))
  have hocc : .qualified k.src ∈
      stateOcc (s.alignedInWork o) s.tim.qualifyTime ((s.measured o k).failTick (s.alignedInWork o)) := by
    rw [hfail, stateOcc, hmeasuredSt]
    simp [hcount, htime, Config.framesPerSecond, Cand.measured_src]
  exact State.mem_timingEvent_of_work o hk (h.sourceStays.not_before o) (List.mem_append_right _ hocc)

end Rows

/-- Settles O36: each candidate's record is its work at the event, and each row is due when its occurrence is. -/
theorem candidatesAtFrameEvent : Obligations.CandidatesAtFrameEvent := by
  unfold Obligations.CandidatesAtFrameEvent
  intro o k s _ hk
  have hmem := State.candTick_mem o hk
  have hdue : ∀ {x}, x ∈ (s.timingEvent o).2 → done (s.eventIf ((s.timingOccs o).contains x) o) =
      .next (s.frameEvent o).finish := fun hx => exec_eventIf (State.contains_timingOccs hx) o s
  refine ⟨fun r hsrc hgap => ?loss, fun w hsource hw hends => ?window, fun hgood hst htime => ?qualified, fun hgood => ?good⟩
  case loss =>
    exact ⟨_, s.candTick o k, hdue (State.refLoss_due o hk hsrc hgap), rfl, hmem, s.candTick_src o k,
      State.candTick_refLoss o hsrc hgap⟩
  case window =>
    have hstays : SourceStays s k := hsource
    have hends' : 8000 ≤ w.events + 1 := by omega
    obtain ⟨hwindow, hdrift, hfailed⟩ := hstays.candTick_windowEnd o hw hends'
    have hlimit := drifted_eq_false_iff s.tim.driftLimit w.arrivals
    refine ⟨_, s.candTick o k, hdue (hstays.windowEnd_due o hk hw hends'), rfl, hmem, s.candTick_src o k, hwindow, ?_, ?_, ?_⟩
    · rw [hdrift, ← Bool.not_eq_false, hlimit]
      omega
    · rw [hdrift, hfailed]
      exact id
    · rw [hdrift, ne_eq, hfailed]
      exact Bool.eq_false_iff.1
  case qualified =>
    refine ⟨_, s.candTick o k, hdue (hgood.qualified_due o hk hst htime), rfl, hmem, s.candTick_src o k, ?_⟩
    rw [hgood.candTick_qualifying o hst, if_pos htime]
    exact ⟨rfl, rfl⟩
  case good =>
    refine ⟨_, s.candTick o k, rfl, hmem, s.candTick_src o k, fun hst => ?_, fun hst htime => ?_, fun hst => ?_⟩
    · rw [hgood.candTick_failed o hst]
      exact ⟨rfl, rfl, rfl⟩
    · rw [hgood.candTick_qualifying o hst, if_neg (Nat.not_le.2 htime)]
      exact ⟨(Cand.measured_st ..).trans hst, rfl⟩
    · rw [hgood.candTick_qualified o hst]
      exact ⟨(Cand.measured_st ..).trans hst, rfl⟩

end Sys2Proof.Machine
end

section
/-! PROOFS. The selector's work at a device frame event, case by case, and what the losses taken last leave of it. -/

set_option Elab.async false

namespace Sys2Proof.Machine

/-! ### The best QUALIFIED candidate (R125, R128) -/

/-- The best QUALIFIED candidate is the first of the list, whatever comes after it. -/
theorem bestQualified_map {pre post : List Cand} {q : Cand} (f : Cand → Cand) (hpre : ∀ c ∈ pre, (f c).st ≠ .qualified)
    (hq : (f q).st = .qualified) : bestQualified ((pre ++ q :: post).map f) = some (f q) := by
  unfold bestQualified
  rw [List.find?_eq_some_iff_append]
  refine ⟨by simp [hq], pre.map f, post.map f, by simp, fun c hc => ?_⟩
  obtain ⟨d, hd, rfl⟩ := List.mem_map.1 hc
  simpa using hpre d hd

theorem bestQualified_none {cs : List Cand} (h : ∀ c ∈ cs, c.st ≠ .qualified) : bestQualified cs = none :=
  List.find?_eq_none.2 fun c hc => by simpa using h c hc

theorem Cand.afterLosses_st {lost : HwyId → Bool} {c : Cand} (h : c.st ≠ .qualified) : (c.afterLosses lost).st ≠ .qualified := by
  unfold Cand.afterLosses
  split
  · exact nofun
  · exact h

/-- Losses of other highways leave the best QUALIFIED candidate (R128). -/
theorem bestQualified_afterLosses {lost : HwyId → Bool} {cs : List Cand} {q : Cand} (h : bestQualified cs = some q)
    (hq : q.isAmong lost = false) : bestQualified (cs.map (Cand.afterLosses lost)) = some q := by
  obtain ⟨hst, pre, post, rfl, hpre⟩ := List.find?_eq_some_iff_append.1 h
  have hkept := Cand.afterLosses_of_not_among hq
  have hbest := bestQualified_map (pre := pre) (post := post) (Cand.afterLosses lost)
    (fun c hc => Cand.afterLosses_st (by simpa using hpre c hc)) (by rw [hkept]; simpa using hst)
  exact hbest.trans (congrArg some hkept)

/-! ### The selector's work at the event, by its state (R125 to R131) -/

section Tick

variable {t : Timing} {src : Source} {c : Cand}

/-- FREERUN and HOLDOVER end with a QUALIFIED candidate (R125). -/
theorem Timing.selectorTick_of_best (hsel : t.sel = .freerun ∨ t.sel = .holdover) (hbest : bestQualified t.cands = some c) :
    t.selectorTick.1.sel = .acquiring c.src ∧ t.selectorTick.1.acquire = 0 ∧ t.selectorTick.1.valid = t.valid := by
  rcases hsel with hsel | hsel <;>
    simp [Timing.selectorTick, hsel, hbest, Timing.toAcquiring, Timing.leave]

/-- HOLDOVER without one counts, up to the limit in force (R129). -/
theorem Timing.selectorTick_of_holdover (hsel : t.sel = .holdover) (hbest : bestQualified t.cands = none) : t.selectorTick =
    if t.limitInForce * 8000 ≤ t.elapsed + 1 then
      ({ t with elapsed := t.elapsed + 1 }.toFreerun, [.holdoverLimit, .freerun])
    else ({ t with elapsed := t.elapsed + 1 }, []) := by
  unfold Timing.selectorTick
  split
  · next h => exact nomatch hsel.symm.trans h
  · dsimp only
    rw [hbest]
    rfl
  · next h => exact nomatch hsel.symm.trans h
  · next h => exact nomatch hsel.symm.trans h

/-- A selected candidate that is not QUALIFIED is a fall (R128). -/
theorem Timing.selectorTick_of_failed (hsel : t.sel = .acquiring src ∨ t.sel = .locked src)
    (hq : t.selectedQualified src = false) : t.selectorTick = t.fallback t.limitInForce := by
  rcases hsel with hsel | hsel <;> simp [Timing.selectorTick, hsel, hq]

/-- A higher candidate is taken back (R130). -/
theorem Timing.selectorTick_of_restoring (hsel : t.sel = .acquiring src ∨ t.sel = .locked src)
    (hq : t.selectedQualified src = true) (hr : t.restoring src = some c) :
    t.selectorTick = (t.toAcquiring c.src, [.restore c.src, .acquiring c.src]) := by
  rcases hsel with hsel | hsel <;> simp [Timing.selectorTick, hsel, hq, hr]

theorem Timing.restoring_of_not_revertive (h : t.revertive = false) : t.restoring src = none := by
  simp [Timing.restoring, h]

/-- ACQUIRING counts, up to LOCKED (R126). -/
theorem Timing.selectorTick_of_acquiring (hsel : t.sel = .acquiring src) (hq : t.selectedQualified src = true)
    (hr : t.restoring src = none) : t.selectorTick =
      if 8000 ≤ t.acquire + 1 then ({ t with sel := .locked src, acquire := t.acquire + 1, lockedRun := 0 }, [.locked src])
      else ({ t with acquire := t.acquire + 1 }, []) := by
  unfold Timing.selectorTick
  split
  · next h => exact nomatch hsel.symm.trans h
  · next h => exact nomatch hsel.symm.trans h
  · next src' h =>
    obtain rfl : src = src' := Selector.acquiring.inj (hsel.symm.trans h)
    rw [if_pos hq, hr]
    rfl
  · next h => exact nomatch hsel.symm.trans h

/-- LOCKED counts its run, which sets holdover-valid (R127). -/
theorem Timing.selectorTick_of_locked (hsel : t.sel = .locked src) (hq : t.selectedQualified src = true)
    (hr : t.restoring src = none) : t.selectorTick =
      if 8000 ≤ t.lockedRun + 1 then
        ({ t with lockedRun := 8000, valid := true }, if t.lockedRun < 8000 then [.holdoverValid] else [])
      else ({ t with lockedRun := t.lockedRun + 1 }, []) := by
  unfold Timing.selectorTick
  split
  · next h => exact nomatch hsel.symm.trans h
  · next h => exact nomatch hsel.symm.trans h
  · next h => exact nomatch hsel.symm.trans h
  · next src' h =>
    obtain rfl : src = src' := Selector.locked.inj (hsel.symm.trans h)
    rw [if_pos hq, hr]
    rfl

/-- A selector that nothing disturbs keeps its candidate (R126, R127). -/
theorem Timing.selectorTick_selected (hsel : t.sel = .acquiring src ∨ t.sel = .locked src)
    (hq : t.selectedQualified src = true) (hr : t.restoring src = none) : t.selectorTick.1.selected? = some src := by
  rcases hsel with hsel | hsel
  · rw [Timing.selectorTick_of_acquiring hsel hq hr]
    split
    · rfl
    · simp [Timing.selected?, hsel]
  · rw [Timing.selectorTick_of_locked hsel hq hr]
    split <;> simp [Timing.selected?, hsel]

end Tick

/-! ### Losses that a selector outlives, and the one it falls from (R123, R128) -/

/-- Two timing units with the same selector and counts. -/
structure SameSelector (t u : Timing) : Prop where
  sel : u.sel = t.sel
  acquire : u.acquire = t.acquire
  lockedRun : u.lockedRun = t.lockedRun
  valid : u.valid = t.valid
  elapsed : u.elapsed = t.elapsed

theorem SameSelector.trans {t u v : Timing} (h : SameSelector t u) (k : SameSelector u v) : SameSelector t v :=
  ⟨k.sel.trans h.sel, k.acquire.trans h.acquire, k.lockedRun.trans h.lockedRun, k.valid.trans h.valid,
    k.elapsed.trans h.elapsed⟩

theorem SameSelector.withLost (lost : HwyId → Bool) (t : Timing) : SameSelector t (t.withLost lost) := ⟨rfl, rfl, rfl, rfl, rfl⟩

/-- The selected source, if there is one, is QUALIFIED and not a highway among `lost`. -/
def Timing.Outlives (t : Timing) (lost : HwyId → Bool) : Prop :=
  ∀ src, t.selected? = some src → t.selectedQualified src = true ∧ ∀ g, src = .hwy g → lost g = false

/-- A candidate of a source that is not lost keeps its record. -/
theorem Timing.cand?_withLost {lost : HwyId → Bool} {src : Source} (h : ∀ g, src = .hwy g → lost g = false) (t : Timing) :
    (t.withLost lost).cand? src = t.cand? src := by
  have hfind : (t.withLost lost).cand? src = (t.cand? src).map (Cand.afterLosses lost) := by
    show (t.cands.map (Cand.afterLosses lost)).find? _ = _
    rw [List.find?_map]
    simp only [Function.comp_def, Cand.afterLosses_src]
    rfl
  rw [hfind]
  cases hc : t.cand? src with
  | none => rfl
  | some c =>
    have hsrc : c.src = src := by simpa using List.find?_some hc
    have hnot : c.isAmong lost = false := by
      cases src with
      | hwy g => exact (Cand.isAmong_of_hwy hsrc lost).trans (h g rfl)
      | ref r => exact Cand.not_among_of_ref hsrc lost
    rw [Option.map_some, Cand.afterLosses_of_not_among hnot]

theorem Timing.selectedQualified_withLost {lost : HwyId → Bool} {src : Source} (h : ∀ g, src = .hwy g → lost g = false)
    (t : Timing) : (t.withLost lost).selectedQualified src = t.selectedQualified src := by
  unfold Timing.selectedQualified
  rw [t.cand?_withLost h]

theorem Timing.checkSelected_of_qualified {t : Timing} (h : ∀ src, t.selected? = some src → t.selectedQualified src = true) :
    t.checkSelected.1 = t := by
  rw [Timing.checkSelected_eq, if_neg]
  cases hsel : t.selected? with
  | none => simp
  | some src => simp [h src hsel]

/-- A selector whose candidate no loss is of outlives the losses. -/
theorem Timing.loseAll_of_outlives {hs : List HwyId} {t : Timing} (h : t.Outlives hs.contains) :
    (t.loseAll hs).1 = t.withLost hs.contains := by
  induction hs generalizing t with
  | nil => exact (Timing.withLost_none (fun _ => rfl) t).symm
  | cons g hs ih =>
    have hone : ∀ src, t.selected? = some src → ∀ x, src = .hwy x → (x == g) = false ∧ hs.contains x = false := by
      intro src hsel x hx
      have hout := (h src hsel).2 x hx
      simpa using hout
    have hkept : ∀ src, t.selected? = some src → (t.withLost fun x => x == g).selectedQualified src = true :=
      fun src hsel => by
        rw [Timing.selectedQualified_withLost fun x hx => (hone src hsel x hx).1]
        exact (h src hsel).1
    have hnow : (t.loseNow (.hwy g)).1 = t.withLost fun x => x == g := by
      show ((t.lose (.hwy g)).1.checkSelected).1 = _
      rw [Timing.lose_eq]
      exact Timing.checkSelected_of_qualified hkept
    have hrest : (t.withLost fun x => x == g).Outlives hs.contains := fun src hsel =>
      ⟨hkept src hsel, fun x hx => (hone src hsel x hx).2⟩
    rw [Timing.loseAll_cons, hnow]
    show ((t.withLost fun x => x == g).loseAll hs).1 = _
    rw [ih hrest, Timing.withLost_withLost]
    rfl

/-- A selector that has moved to a candidate which no later loss is of, and outlives them, is where it moved. -/
theorem Timing.outlives_of_ok {t : Timing} (hok : t.SelectorOk) (hnodup : (t.cands.map Cand.src).Nodup)
    {lost : HwyId → Bool} (h : ∀ src, t.selected? = some src → ∀ g, src = .hwy g → lost g = false) : t.Outlives lost := by
  intro src hsel
  obtain ⟨c, hc, rfl, hst⟩ := hok.1 src hsel
  exact ⟨by rw [Timing.selectedQualified_of_mem hnodup hc, hst]; rfl, h _ hsel⟩

/-- A selector whose highway is among the losses falls when that loss is taken, and outlives the others (R128). -/
theorem Timing.loseAll_of_lost {hs : List HwyId} {t : Timing} {h : HwyId} {q : Cand} (hnodup : (t.cands.map Cand.src).Nodup)
    (hsel : t.selected? = some (.hwy h)) (hsq : t.selectedQualified (.hwy h) = true) (hmem : h ∈ hs)
    (hbest : bestQualified (t.withLost fun x => x == h).cands = some q) (hq : q.isAmong hs.contains = false) :
    (t.loseAll hs).1.sel = .acquiring q.src ∧ (t.loseAll hs).1.acquire = 0 := by
  induction hs generalizing t with
  | nil => cases hmem
  | cons g hs ih =>
    have hamong : q.isAmong (fun x => x == g) = false ∧ q.isAmong hs.contains = false :=
      Bool.or_eq_false_iff.1 ((Cand.isAmong_or _ _ q).symm.trans hq)
    have hnodup' : ((t.withLost fun x => x == g).cands.map Cand.src).Nodup :=
      (map_src (Cand.afterLosses_src _) t.cands).symm ▸ hnodup
    rw [Timing.loseAll_cons]
    by_cases hg : g = h
    · subst hg
      have hfailed : (t.withLost fun x => x == g).selectedQualified (.hwy g) = false := by
        obtain ⟨c, hc, hsrc, -⟩ := Timing.mem_of_selectedQualified hsq
        have hc' := List.mem_map_of_mem (f := Cand.afterLosses fun x => x == g) hc
        have hlost : c.afterLosses (fun x => x == g) = c.lose := if_pos (by simp [Cand.isAmong, hsrc])
        rw [hlost] at hc'
        have hst : (t.withLost fun x => x == g).selectedQualified c.src = false :=
          Timing.selectedQualified_of_mem hnodup' hc'
        rwa [hsrc] at hst
      have hnow : (t.loseNow (.hwy g)).1 = fallen t.limitInForce (t.withLost fun x => x == g) := by
        show ((t.lose (.hwy g)).1.checkSelected).1 = _
        rw [Timing.lose_eq, Timing.checkSelected_eq, if_pos]
        · rfl
        · show (t.selected?.any _) = true
          rw [hsel, Option.any_some, hfailed]
          rfl
      obtain ⟨hnext, hacquire, -⟩ := fallen_of_some t.limitInForce hbest
      rw [← hnow] at hnext hacquire
      have hcands : (t.loseNow (.hwy g)).1.cands = (t.withLost fun x => x == g).cands := (t.loseNow_move g).cands
      have hlisted := bestQualified_mem hbest
      have hout : (t.loseNow (.hwy g)).1.Outlives hs.contains := by
        intro src hsrc
        rw [Timing.selected?, hnext] at hsrc
        cases hsrc
        have hst := Timing.selectedQualified_of_mem (hcands.symm ▸ hnodup') (hcands.symm ▸ hlisted.1)
        refine ⟨hst.trans (by rw [hlisted.2]; rfl), fun x hx => ?_⟩
        have hnot := hamong.2
        rw [Cand.isAmong, hx] at hnot
        exact hnot
      rw [Timing.loseAll_of_outlives hout]
      exact ⟨hnext, hacquire⟩
    · have hkept : (t.withLost fun x => x == g).selectedQualified (.hwy h) = true := by
        rw [Timing.selectedQualified_withLost fun x hx => ?_]
        · exact hsq
        · cases hx
          simpa using Ne.symm hg
      have hnow : (t.loseNow (.hwy g)).1 = t.withLost fun x => x == g := by
        show ((t.lose (.hwy g)).1.checkSelected).1 = _
        rw [Timing.lose_eq]
        refine Timing.checkSelected_of_qualified fun src hsrc => ?_
        obtain rfl : .hwy h = src := Option.some.inj (hsel.symm.trans hsrc)
        exact hkept
      have hbest' : bestQualified ((t.withLost fun x => x == g).withLost fun x => x == h).cands = some q := by
        have hcomm : (t.withLost fun x => x == g).withLost (fun x => x == h) =
            (t.withLost fun x => x == h).withLost fun x => x == g := by
          rw [Timing.withLost_withLost, Timing.withLost_withLost]
          congr 1
          funext x
          exact Bool.or_comm _ _
        rw [hcomm]
        exact bestQualified_afterLosses hbest hamong.1
      rw [hnow]
      exact ih hnodup' hsel hkept ((List.mem_cons.1 hmem).resolve_left (Ne.symm hg)) hbest' hamong.2

end Sys2Proof.Machine
end

section
/-! PROOFS. The selector at a device frame event, case by case, and O37: one of its clauses asks more than its case. -/

set_option Elab.async false

namespace Sys2Proof.Machine

/-! ### The candidates the selector looks at (R131) -/

section Selecting

variable (o : FrameOrder) {s : State} {k : Cand}

/-- The timing unit at the next device frame event, with the selector's work still to come (R131). -/
def State.selecting (s : State) : Timing :=
  { s.tim with counter := s.tim.counter + 1 }.candsTicked s.aligned (s.lossesBefore o)

/-- A candidate's record when the selector looks at it. -/
def State.workTick (s : State) (k : Cand) : Cand :=
  k.workTick s.aligned (s.lossesBefore o).contains s.tim.driftLimit s.tim.qualifyTime

@[simp] theorem State.workTick_src (s : State) (k : Cand) : (s.workTick o k).src = k.src := Cand.workTick_src _ _ _ _ _

theorem State.selecting_cands (s : State) : (s.selecting o).cands = s.tim.cands.map (s.workTick o) := rfl

theorem State.selecting_mem (hk : k ∈ s.tim.cands) : s.workTick o k ∈ (s.selecting o).cands := List.mem_map_of_mem hk

theorem State.selecting_nodup (hinv : TimingInv s) : ((s.selecting o).cands.map Cand.src).Nodup :=
  (map_src (s.workTick_src o) s.tim.cands).symm ▸ hinv.ok.1.2

theorem State.selectedQualified_selecting (hinv : TimingInv s) (hk : k ∈ s.tim.cands) :
    (s.selecting o).selectedQualified k.src = ((s.workTick o k).st == .qualified) := by
  have h := Timing.selectedQualified_of_mem (State.selecting_nodup o hinv) (State.selecting_mem o hk)
  rwa [State.workTick_src] at h

theorem SourceStays.workTick (h : SourceStays s k) : s.workTick o k = s.candTick o k :=
  (Cand.afterLosses_of_not_among ((Cand.isAmong_congr (s.workTick_src o k) _).trans (h.not_after o))).symm

/-- A candidate that is FAILED before the event is not QUALIFIED when the selector looks (R121, R122). -/
theorem State.workTick_of_failed (h : k.st = .failed) : (s.workTick o k).st ≠ .qualified := by
  refine Cand.frameTick_of_failed _ _ _ ?_
  unfold Cand.afterLosses
  split
  · rfl
  · exact h

/-- A candidate lost before the work is not QUALIFIED when the selector looks (R123). -/
theorem State.workTick_of_before (h : k.isAmong (s.lossesBefore o).contains = true) : (s.workTick o k).st ≠ .qualified := by
  refine Cand.frameTick_of_failed _ _ _ ?_
  rw [Cand.afterLosses, if_pos h]
  rfl

/-- A candidate whose pulse gap reaches 3 is not QUALIFIED when the selector looks (R119). -/
theorem State.workTick_of_gap {r : RefInput} (hsrc : k.src = .ref r) (hgap : k.gap = 2) : (s.workTick o k).st ≠ .qualified := by
  have hnot := Cand.not_among_of_ref hsrc (s.lossesAfter o).contains
  have hcand : s.candTick o k = s.workTick o k :=
    Cand.afterLosses_of_not_among ((Cand.isAmong_congr (s.workTick_src o k) _).trans hnot)
  rw [← hcand, (State.candTick_refLoss o hsrc hgap).2.2.1]
  exact nofun

theorem StaysGood.workTick_qualified (h : StaysGood s k) (hst : k.st = .qualified) : (s.workTick o k).st = .qualified := by
  rw [h.sourceStays.workTick o, h.candTick_qualified o hst]
  exact (Cand.measured_st ..).trans hst

/-- A candidate that stays good, QUALIFIED or about to be, is QUALIFIED when the selector looks (R122). -/
theorem StaysGood.workTick_ready (h : StaysGood s k)
    (hst : k.st = .qualified ∨ k.st = .qualifying ∧ s.tim.qualifyTime * 8000 ≤ k.qualCount + 1) :
    (s.workTick o k).st = .qualified := by
  rcases hst with hst | ⟨hst, htime⟩
  · exact h.workTick_qualified o hst
  · rw [h.sourceStays.workTick o, h.candTick_qualifying o hst, if_pos htime]

/-- The selected candidate is QUALIFIED before the event (R124). -/
theorem TimingInv.selected_qualified (hinv : TimingInv s) (hk : k ∈ s.tim.cands)
    (hsel : s.tim.sel = .acquiring k.src ∨ s.tim.sel = .locked k.src) : k.st = .qualified := by
  have hsrc : s.tim.selected? = some k.src := by rcases hsel with h | h <;> rw [Timing.selected?, h]
  obtain ⟨c, hc, he, hst⟩ := hinv.ok.2.1 _ hsrc
  rwa [List.inj_on_of_nodup_map hinv.ok.1.2 hc hk he] at hst

/-- A selected candidate that stays good is QUALIFIED when the selector looks. -/
theorem TimingInv.selected_stays (hinv : TimingInv s) (hk : k ∈ s.tim.cands) (hgood : StaysGood s k)
    (hsel : s.tim.sel = .acquiring k.src ∨ s.tim.sel = .locked k.src) :
    (s.selecting o).selectedQualified k.src = true := by
  rw [State.selectedQualified_selecting o hinv hk, hgood.workTick_qualified o (hinv.selected_qualified hk hsel)]
  rfl

end Selecting

/-! ### What the event leaves of the selector's work -/

section After

variable (o : FrameOrder) {s : State}

/-- The timing unit after its own work at the event. -/
def State.worked (s : State) : Timing := { s.tim with counter := s.tim.counter + 1 }.worked s.aligned (s.lossesBefore o)

theorem State.worked_sameSelector (s : State) : SameSelector (s.selecting o).selectorTick.1 (s.worked o) := by
  have h : s.worked o = (s.selecting o).selectorTick.1.exportFrame := rfl
  rw [h, Timing.exportFrame_eq]
  exact ⟨rfl, rfl, rfl, rfl, rfl⟩

theorem State.timingEvent_eq (s : State) : (s.timingEvent o).1 = ((s.worked o).loseAll (s.lossesAfter o)).1 :=
  Timing.frameEvent_eq _ _ _ _

theorem State.worked_nodup (hinv : TimingInv s) : ((s.worked o).cands.map Cand.src).Nodup := by
  have h : (s.worked o).cands = (s.selecting o).cands := Timing.worked_cands _ _ _
  rw [h]
  exact State.selecting_nodup o hinv

theorem State.worked_selectorOk (hinv : TimingInv s) : (s.worked o).SelectorOk := by
  have htick : (s.selecting o).selectorTick.1.SelectorOk :=
    (s.selecting o).selectorTick_move.stands hinv.ok.2.2
  have h : s.worked o = (s.selecting o).selectorTick.1.exportFrame := rfl
  rw [h, Timing.exportFrame_eq]
  exact htick

/-- The losses taken last leave the selector where its work has put it, when that is no candidate of theirs. -/
theorem State.timingEvent_sameSelector (hinv : TimingInv s)
    (h : ∀ src, (s.selecting o).selectorTick.1.selected? = some src → ∃ k, SourceStays s k ∧ k.src = src) :
    SameSelector (s.selecting o).selectorTick.1 (s.timingEvent o).1 := by
  have hsame := State.worked_sameSelector o s
  have hout : (s.worked o).Outlives (s.lossesAfter o).contains := by
    refine Timing.outlives_of_ok (State.worked_selectorOk o hinv) (State.worked_nodup o hinv) fun src hsel g hg => ?_
    rw [Timing.selected?, hsame.sel] at hsel
    obtain ⟨k, hk, rfl⟩ := h src hsel
    have hnot := hk.not_after o
    rwa [Cand.isAmong, hg] at hnot
  rw [State.timingEvent_eq, Timing.loseAll_of_outlives hout]
  exact hsame.trans (.withLost _ _)

/-- What the selector's work tells comes about at the event. -/
theorem State.mem_timingEvent_of_tick {x : TimOcc} (hx : x ∈ (s.selecting o).selectorTick.2) : x ∈ (s.timingEvent o).2 := by
  rw [State.timingEvent, Timing.frameEvent_occs]
  exact List.mem_append_left _ (List.mem_append_right _ (List.mem_append_right _ hx))

end After

/-! ### What an event, and each row that is due at it, leaves -/

/-- The device frame event leaves a timing unit that meets `P`, and each of `rows` is that event. -/
def EventLeaves (o : FrameOrder) (s : State) (rows : List Instr) (P : Timing → Prop) : Prop :=
  ∃ t, (∀ c ∈ .deviceFrameEvent o :: rows, exec c s = .next t) ∧ P t.tim

section Rows

variable {o : FrameOrder} {s : State} {P : Timing → Prop}

theorem eventLeaves (h : P (s.timingEvent o).1) : EventLeaves o s [] P := by
  refine ⟨(s.frameEvent o).finish, fun c hc => ?_, ?_⟩
  · rw [List.mem_singleton.1 hc]
    rfl
  · rw [State.finish_tim, State.frameEvent_tim]
    exact h

/-- A row is the event when its occurrence comes about at it. -/
theorem EventLeaves.row {c : Instr} {due : Bool} (h : EventLeaves o s [] P) (hdue : due = true)
    (hc : exec c s = done (s.eventIf due o)) : EventLeaves o s [c] P := by
  obtain ⟨t, hevent, hP⟩ := h
  have ht := hevent _ List.mem_cons_self
  refine ⟨t, fun d hd => ?_, hP⟩
  rcases List.mem_cons.1 hd with rfl | hd
  · exact ht
  · rw [List.mem_singleton.1 hd, hc, exec_eventIf hdue]
    exact ht

theorem State.any_timingOccs {x : TimOcc} (h : x ∈ (s.timingEvent o).2) {p : TimOcc → Bool} (hp : p x = true) :
    (s.timingOccs o).any p = true := by
  rw [State.timingOccs_eq]
  exact List.any_eq_true.2 ⟨x, h, hp⟩

end Rows

/-! ### The cases of R125 to R130 -/

section Cases

variable (o : FrameOrder) {s : State} (hinv : TimingInv s)

/-- The holdover limit last written comes into force (R134). -/
theorem selector_takes_limit (s : State) : EventLeaves o s [] fun u => u.limitInForce = s.tim.holdLimit :=
  eventLeaves (by rw [State.timingEvent, Timing.frameEvent_leaves])

include hinv

/-- FREERUN and HOLDOVER end on the best QUALIFIED candidate (R125). -/
theorem selector_acquires {k : Cand} {pre post : List Cand} (hcands : s.tim.cands = pre ++ k :: post)
    (hpre : ∀ c ∈ pre, c.st = .failed) (hgood : StaysGood s k) (hst : k.st = .qualified)
    (hsel : s.tim.sel = .freerun ∨ s.tim.sel = .holdover) :
    EventLeaves o s [] fun u => u.sel = .acquiring k.src ∧ u.acquire = 0 ∧ u.valid = s.tim.valid := by
  have hbest : bestQualified (s.selecting o).cands = some (s.workTick o k) := by
    rw [State.selecting_cands, hcands]
    exact bestQualified_map _ (fun c hc => State.workTick_of_failed o (hpre c hc)) (hgood.workTick_qualified o hst)
  obtain ⟨hnext, hacquire, hvalid⟩ := Timing.selectorTick_of_best (t := s.selecting o) hsel hbest
  rw [State.workTick_src] at hnext
  have hsame := State.timingEvent_sameSelector o hinv fun src h => by
    rw [Timing.selected?, hnext] at h
    exact ⟨k, hgood.sourceStays, Option.some.inj h⟩
  exact eventLeaves ⟨hsame.sel.trans hnext, hsame.acquire.trans hacquire, hsame.valid.trans hvalid⟩

/-- HOLDOVER with no candidate to take counts, and ends in FREERUN at its limit (R129). -/
theorem selector_holds (hsel : s.tim.sel = .holdover) (hnone : ∀ c ∈ s.tim.cands, c.st = .failed) :
    (s.tim.elapsed + 1 < s.tim.holdLimit * 8000 → EventLeaves o s [] fun u =>
      u.sel = .holdover ∧ u.elapsed = s.tim.elapsed + 1 ∧ u.valid = s.tim.valid) ∧
    (s.tim.holdLimit * 8000 ≤ s.tim.elapsed + 1 → EventLeaves o s [.holdoverLimit o] fun u =>
      u.sel = .freerun ∧ u.valid = false) := by
  have hbest : bestQualified (s.selecting o).cands = none := bestQualified_none fun c hc => by
    obtain ⟨d, hd, rfl⟩ := List.mem_map.1 hc
    exact State.workTick_of_failed o (hnone d hd)
  have htick : (s.selecting o).selectorTick = if s.tim.holdLimit * 8000 ≤ s.tim.elapsed + 1 then
      ({ s.selecting o with elapsed := s.tim.elapsed + 1 }.toFreerun, [.holdoverLimit, .freerun])
    else ({ s.selecting o with elapsed := s.tim.elapsed + 1 }, []) :=
    Timing.selectorTick_of_holdover (t := s.selecting o) hsel hbest
  have hselecting : (s.selecting o).sel = .holdover := hsel
  have hsame := State.timingEvent_sameSelector o hinv
  refine ⟨fun hlow => ?_, fun hlimit => ?_⟩
  · rw [if_neg (Nat.not_le.2 hlow)] at htick
    rw [htick] at hsame
    have h := hsame fun src hsrc => by simp [Timing.selected?, hselecting] at hsrc
    exact eventLeaves ⟨h.sel.trans hsel, h.elapsed, h.valid⟩
  · rw [if_pos hlimit] at htick
    have hocc := State.mem_timingEvent_of_tick o (s := s) (x := .holdoverLimit) (by rw [htick]; simp)
    rw [htick] at hsame
    have h := hsame fun src hsrc => nomatch hsrc
    exact (eventLeaves ⟨h.sel, h.valid⟩).row (State.contains_timingOccs hocc) rfl

section Selected

variable {k : Cand} (hk : k ∈ s.tim.cands) (hgood : StaysGood s k)

include hk hgood

/-- ACQUIRING that nothing disturbs counts, and ends in LOCKED (R126). -/
theorem selector_counts_acquiring (hrev : s.tim.revertive = false) (hsel : s.tim.sel = .acquiring k.src) :
    (s.tim.acquire + 1 < 8000 → EventLeaves o s [] fun u => u.sel = .acquiring k.src ∧ u.acquire = s.tim.acquire + 1) ∧
    (8000 ≤ s.tim.acquire + 1 → EventLeaves o s [.selectLocked o] fun u =>
      u.sel = .locked k.src ∧ u.lockedRun = 0 ∧ u.valid = s.tim.valid) := by
  have htick : (s.selecting o).selectorTick = if 8000 ≤ s.tim.acquire + 1 then
      ({ s.selecting o with sel := .locked k.src, acquire := s.tim.acquire + 1, lockedRun := 0 }, [.locked k.src])
    else ({ s.selecting o with acquire := s.tim.acquire + 1 }, []) :=
    Timing.selectorTick_of_acquiring (t := s.selecting o) hsel (hinv.selected_stays o hk hgood (.inl hsel))
      (Timing.restoring_of_not_revertive hrev)
  have hselecting : (s.selecting o).sel = .acquiring k.src := hsel
  have hsame := State.timingEvent_sameSelector o hinv
  refine ⟨fun hlow => ?_, fun hlimit => ?_⟩
  · rw [if_neg (Nat.not_le.2 hlow)] at htick
    rw [htick] at hsame
    have h := hsame fun src hsrc => ⟨k, hgood.sourceStays, by simpa [Timing.selected?, hselecting] using hsrc⟩
    exact eventLeaves ⟨h.sel.trans hsel, h.acquire⟩
  · rw [if_pos hlimit] at htick
    have hocc := State.mem_timingEvent_of_tick o (s := s) (x := .locked k.src) (by rw [htick]; simp)
    rw [htick] at hsame
    have h := hsame fun src hsrc => ⟨k, hgood.sourceStays, Option.some.inj hsrc⟩
    exact (eventLeaves ⟨h.sel, h.lockedRun, h.valid⟩).row (State.any_timingOccs hocc rfl) rfl

/-- LOCKED that nothing disturbs counts its run, which sets holdover-valid (R127). -/
theorem selector_counts_locked (hrev : s.tim.revertive = false) (hsel : s.tim.sel = .locked k.src) :
    (EventLeaves o s [] fun u => u.sel = .locked k.src ∧ u.lockedRun = min 8000 (s.tim.lockedRun + 1) ∧
      u.valid = (s.tim.valid || decide (8000 ≤ s.tim.lockedRun + 1))) ∧
    (s.tim.lockedRun = 7999 → EventLeaves o s [.holdoverValid o] fun u =>
      u.sel = .locked k.src ∧ u.lockedRun = 8000 ∧ u.valid = true) := by
  have htick : (s.selecting o).selectorTick = if 8000 ≤ s.tim.lockedRun + 1 then
      ({ s.selecting o with lockedRun := 8000, valid := true }, if s.tim.lockedRun < 8000 then [.holdoverValid] else [])
    else ({ s.selecting o with lockedRun := s.tim.lockedRun + 1 }, []) :=
    Timing.selectorTick_of_locked (t := s.selecting o) hsel (hinv.selected_stays o hk hgood (.inr hsel))
      (Timing.restoring_of_not_revertive hrev)
  have hselected := Timing.selectorTick_selected (t := s.selecting o) (.inr hsel)
    (hinv.selected_stays o hk hgood (.inr hsel)) (Timing.restoring_of_not_revertive hrev)
  have hsame := State.timingEvent_sameSelector o hinv fun src hsrc =>
    ⟨k, hgood.sourceStays, Option.some.inj (hselected.symm.trans hsrc)⟩
  rw [htick] at hsame
  refine ⟨?_, fun hrun => ?_⟩
  · by_cases hrun : 8000 ≤ s.tim.lockedRun + 1
    · rw [if_pos hrun] at hsame
      refine eventLeaves ⟨hsame.sel.trans hsel, hsame.lockedRun.trans (min_eq_left hrun).symm, ?_⟩
      rw [hsame.valid, decide_eq_true hrun, Bool.or_true]
    · rw [if_neg hrun] at hsame
      refine eventLeaves ⟨hsame.sel.trans hsel, hsame.lockedRun.trans (min_eq_right (Nat.le_of_not_le hrun)).symm, ?_⟩
      rw [hsame.valid, decide_eq_false hrun, Bool.or_false]
      rfl
  · have hfull : 8000 ≤ s.tim.lockedRun + 1 := by omega
    have hocc : .holdoverValid ∈ (s.timingEvent o).2 := State.mem_timingEvent_of_tick o (by
      rw [htick, if_pos hfull, if_pos (by omega)]
      exact List.mem_singleton.2 rfl)
    rw [if_pos hfull] at hsame
    exact (eventLeaves ⟨hsame.sel.trans hsel, hsame.lockedRun, hsame.valid⟩).row (State.contains_timingOccs hocc) rfl

/-- A higher candidate whose time is up is taken back (R130). -/
theorem selector_restores (hsel : s.tim.sel = .acquiring k.src ∨ s.tim.sel = .locked k.src) (hrev : s.tim.revertive = true)
    {top : Cand} (htop : s.tim.cands.head? = some top) (hne : top.src ≠ k.src) (htopGood : StaysGood s top)
    (hst : top.st = .qualified) (hwait : s.tim.wtr * 8000 ≤ top.qualTime + 1) (hunsat : top.qualTime < 2040000) :
    EventLeaves o s [.waitToRestore o] fun u => u.sel = .acquiring top.src ∧ u.acquire = 0 := by
  obtain ⟨rest, hcands⟩ : ∃ rest, s.tim.cands = top :: rest := by
    cases hc : s.tim.cands with
    | nil => rw [hc] at htop; cases htop
    | cons c rest => rw [hc] at htop; exact ⟨rest, by rw [Option.some.inj htop]⟩
  have htopSt := htopGood.workTick_qualified o hst
  have htopTime : (s.workTick o top).qualTime = top.qualTime + 1 := by
    rw [htopGood.sourceStays.workTick o, htopGood.candTick_qualified o hst, if_pos hunsat]
  have hready : ((s.workTick o top).st == .qualified &&
      decide (s.tim.wtr * Config.framesPerSecond ≤ (s.workTick o top).qualTime)) = true := by
    rw [htopSt, htopTime]
    exact Bool.and_eq_true_iff.2 ⟨rfl, decide_eq_true hwait⟩
  have hrestoring : (s.selecting o).restoring k.src = some (s.workTick o top) := by
    unfold Timing.restoring Timing.above
    rw [if_pos (show (s.selecting o).revertive = true from hrev), State.selecting_cands, hcands, List.map_cons,
      List.takeWhile_cons_of_pos (by simpa using hne)]
    exact List.find?_cons_of_pos hready
  have htick := Timing.selectorTick_of_restoring (t := s.selecting o) hsel (hinv.selected_stays o hk hgood hsel) hrestoring
  rw [State.workTick_src] at htick
  have hocc := State.mem_timingEvent_of_tick o (s := s) (x := .restore top.src) (by rw [htick]; simp)
  have hsame := State.timingEvent_sameSelector o hinv
  rw [htick] at hsame
  have h := hsame fun src hsrc => ⟨top, htopGood.sourceStays, Option.some.inj hsrc⟩
  exact (eventLeaves ⟨h.sel, h.acquire⟩).row (State.any_timingOccs hocc rfl) rfl

end Selected

/-- The selected candidate is not QUALIFIED when the selector looks: a fall by the limit last written (R128, R134). -/
theorem State.selecting_falls {k : Cand} (hk : k ∈ s.tim.cands) (hst : (s.workTick o k).st ≠ .qualified)
    (hsel : s.tim.sel = .acquiring k.src ∨ s.tim.sel = .locked k.src) :
    (s.selecting o).selectorTick.1 = fallen s.tim.holdLimit (s.selecting o) := by
  have hfailed : (s.selecting o).selectedQualified k.src = false := by
    rw [State.selectedQualified_selecting o hinv hk]
    simpa using hst
  rw [Timing.selectorTick_of_failed (t := s.selecting o) hsel hfailed, Timing.fallback_eq]
  rfl

/-- A lost reference with no other to take: HOLDOVER or FREERUN (R128, R134). -/
theorem selector_falls {k : Cand} (hk : k ∈ s.tim.cands) {r : RefInput} (hsrc : k.src = .ref r) (hgap : k.gap = 2)
    (hsel : s.tim.sel = .acquiring k.src ∨ s.tim.sel = .locked k.src)
    (hothers : ∀ c ∈ s.tim.cands, c.src = k.src ∨ c.st = .failed) :
    EventLeaves o s [.referenceLoss r o] fun u =>
      if s.tim.valid = true ∧ 0 < s.tim.holdLimit then u.sel = .holdover ∧ u.elapsed = 0
      else u.sel = .freerun ∧ u.valid = false := by
  have hlost := State.workTick_of_gap o (s := s) hsrc hgap
  have hbest : bestQualified (s.selecting o).cands = none := bestQualified_none fun c hc => by
    obtain ⟨d, hd, rfl⟩ := List.mem_map.1 hc
    rcases hothers d hd with he | hst
    · rwa [List.inj_on_of_nodup_map hinv.ok.1.2 hd hk he]
    · exact State.workTick_of_failed o hst
  have hfall := fallen_of_none s.tim.holdLimit hbest
  have hsame := State.timingEvent_sameSelector o hinv
  rw [State.selecting_falls o hinv hk hlost hsel] at hsame
  have hvalid : (s.selecting o).valid = s.tim.valid := rfl
  rw [hvalid] at hfall
  refine (eventLeaves ?_).row (State.contains_timingOccs (State.refLoss_due o hk hsrc hgap)) rfl
  split at hfall
  · next hhold =>
    have h := hsame fun src hsrc => by rw [Timing.selected?, hfall.1] at hsrc; exact nomatch hsrc
    rw [if_pos hhold]
    exact ⟨h.sel.trans hfall.1, h.elapsed.trans hfall.2⟩
  · next hfree =>
    have h := hsame fun src hsrc => by rw [Timing.selected?, hfall.1] at hsrc; exact nomatch hsrc
    rw [if_neg hfree]
    exact ⟨h.sel.trans hfall.1, h.valid.trans hfall.2⟩

section Falls

variable {k q : Cand} {pre post : List Cand} (hk : k ∈ s.tim.cands) (hcands : s.tim.cands = pre ++ q :: post)
  (hpre : ∀ c ∈ pre, c.src = k.src ∨ c.st = .failed) (hgood : StaysGood s q)
  (hst : q.st = .qualified ∨ q.st = .qualifying ∧ s.tim.qualifyTime * 8000 ≤ q.qualCount + 1)
  (hsel : s.tim.sel = .acquiring k.src ∨ s.tim.sel = .locked k.src)

include hk hcands hpre hgood hst hsel

/-- A selected candidate that is not QUALIFIED when the selector looks gives way to the best other one (R128). -/
theorem State.event_falls_in_work (hlost : (s.workTick o k).st ≠ .qualified) :
    (s.timingEvent o).1.sel = .acquiring q.src ∧ (s.timingEvent o).1.acquire = 0 := by
  have hbest : bestQualified (s.selecting o).cands = some (s.workTick o q) := by
    rw [State.selecting_cands, hcands]
    refine bestQualified_map _ (fun c hc => ?_) (hgood.workTick_ready o hst)
    have hlisted : c ∈ s.tim.cands := hcands ▸ List.mem_append_left _ hc
    rcases hpre c hc with he | hfailed
    · rwa [List.inj_on_of_nodup_map hinv.ok.1.2 hlisted hk he]
    · exact State.workTick_of_failed o hfailed
  obtain ⟨hnext, hacquire, -⟩ := fallen_of_some s.tim.holdLimit hbest
  rw [State.workTick_src] at hnext
  have hsame := State.timingEvent_sameSelector o hinv
  rw [State.selecting_falls o hinv hk hlost hsel] at hsame
  have h := hsame fun src hsrc => by
    rw [Timing.selected?, hnext] at hsrc
    exact ⟨q, hgood.sourceStays, Option.some.inj hsrc⟩
  exact ⟨h.sel.trans hnext, h.acquire.trans hacquire⟩

/-- A selected highway whose loss is taken after the work gives way then (R123, R128). -/
theorem State.event_falls_after (hrev : s.tim.revertive = false) {h : HwyId} (hsrc : k.src = .hwy h)
    (hafter : h ∈ s.lossesAfter o) (hstays : (s.workTick o k).st = .qualified) :
    (s.timingEvent o).1.sel = .acquiring q.src ∧ (s.timingEvent o).1.acquire = 0 := by
  have hq : (s.selecting o).selectedQualified k.src = true := by
    rw [State.selectedQualified_selecting o hinv hk, hstays]
    rfl
  have hselected : (s.worked o).selected? = some (.hwy h) := by
    have htick := Timing.selectorTick_selected (t := s.selecting o) hsel hq (Timing.restoring_of_not_revertive hrev)
    rw [hsrc] at htick
    rw [← htick, Timing.selected?, (State.worked_sameSelector o s).sel]
    rfl
  have hcands' : (s.worked o).cands = s.tim.cands.map (s.workTick o) := Timing.worked_cands _ _ _
  have hsq : (s.worked o).selectedQualified (.hwy h) = true := by
    have hst' := Timing.selectedQualified_of_mem (State.worked_nodup o hinv) (hcands' ▸ List.mem_map_of_mem hk)
    rw [State.workTick_src, hsrc] at hst'
    rw [hst', hstays]
    rfl
  have hqTick := hgood.workTick_ready o hst
  have hqKept : ∀ lost : HwyId → Bool, (∀ g, lost g = true → s.hwys[g].fallsSilent = true) →
      (s.workTick o q).isAmong lost = false := fun lost hlost =>
    (Cand.isAmong_congr (s.workTick_src o q) lost).trans (hgood.sourceStays.not_among hlost)
  have hafter' := (State.lossesAfter_iff o s h).1 (List.contains_iff_mem.2 hafter)
  have hqOne := hqKept (fun x => x == h) fun g hg => by rw [beq_iff_eq.1 hg]; exact hafter'.2
  have hbest : bestQualified ((s.worked o).withLost fun x => x == h).cands = some (s.workTick o q) := by
    show bestQualified ((s.worked o).cands.map (Cand.afterLosses fun x => x == h)) = _
    rw [hcands', hcands, List.map_map]
    have hone := Cand.afterLosses_of_not_among hqOne
    refine (bestQualified_map _ (fun c hc => ?_) ?_).trans (congrArg some hone)
    · rcases hpre c hc with he | hfailed
      · have hlost : (s.workTick o c).isAmong (fun x => x == h) = true := by
          rw [Cand.isAmong, State.workTick_src, he, hsrc]
          exact beq_self_eq_true h
        rw [Function.comp_apply, Cand.afterLosses, if_pos hlost]
        exact nofun
      · exact Cand.afterLosses_st (State.workTick_of_failed o hfailed)
    · rw [Function.comp_apply, hone]
      exact hqTick
  have hfall := Timing.loseAll_of_lost (State.worked_nodup o hinv) hselected hsq hafter hbest
    (hqKept _ fun g hg => ((State.lossesAfter_iff o s g).1 hg).2)
  rwa [State.workTick_src, ← State.timingEvent_eq] at hfall

/-- The selected reference goes into loss at the event: the best other candidate is taken (R118, R119, R123, R128). -/
theorem selector_gives_way (hloss : (∃ r : RefInput, k.src = .ref r ∧ k.gap = 2) ∨
      s.tim.revertive = false ∧ ∃ h : HwyId, k.src = .hwy h ∧ s.hwys[h].align = .aligned ∧ 4 ≤ s.hwys[h].silence + 1) :
    EventLeaves o s [] fun u => u.sel = .acquiring q.src ∧ u.acquire = 0 := by
  refine eventLeaves ?_
  by_cases hstays : (s.workTick o k).st = .qualified
  · rcases hloss with ⟨r, hsrc, hgap⟩ | ⟨hrev, h, hsrc, ha, hsilent⟩
    · exact absurd hstays (State.workTick_of_gap o hsrc hgap)
    · have hfalls := (Highway.fallsSilent_iff _).2 ⟨ha, hsilent⟩
      have hnot : h ∉ o.before := fun hb => State.workTick_of_before o (k := k) (by
        rw [Cand.isAmong, hsrc]
        exact (State.lossesBefore_iff o s h).2 ⟨hb, hfalls⟩) hstays
      exact State.event_falls_after o hinv hk hcands hpre hgood hst hsel hrev hsrc
        (List.contains_iff_mem.1 ((State.lossesAfter_iff o s h).2 ⟨hnot, hfalls⟩)) hstays
  · exact State.event_falls_in_work o hinv hk hcands hpre hgood hst hsel hstays

end Falls

end Cases

/-! ### The clause of O37 that fails -/

/-- REFA, or REFB, QUALIFIED. -/
def qualifiedRef (r : RefInput) : Cand :=
  { src := .ref r, st := .qualified, gap := 0, window := none, drift := false, qualCount := 0, qualTime := 0 }

/-- REFA above REFB, both QUALIFIED, REFA selected, with revertive selection. -/
def revertiveOnRefa : State := { State.reset with tim := { Timing.reset with
  cands := [qualifiedRef .refa, qualifiedRef .refb], revertive := true, sel := .acquiring (.ref .refa) } }

theorem revertiveOnRefa_inv : TimingInv revertiveOnRefa := by
  refine ⟨by decide, by decide, fun src hsel => ?_, nofun⟩
  cases hsel
  exact ⟨qualifiedRef .refa, List.mem_cons_self, rfl, rfl⟩

theorem revertiveOnRefa_staysGood : StaysGood revertiveOnRefa (qualifiedRef .refb) :=
  ⟨by show 0 + 1 < 3; decide, rfl, fun _ h => (nomatch h)⟩

/-- Refutes O37.  In its clause on a selected reference that goes into loss no parentheses close the highway's loss, so that the
implication ends inside `∃ h : HwyId, …`: the clause does not suppose one of the two losses but concludes
`(a reference's loss) ∨ revertive = false ∧ ∃ h, (the highway's loss → the event)`.  REFA that stays good, selected above REFB with
revertive selection, has neither.  With the losses supposed, the clause is `selector_gives_way`; the others are
`selector_takes_limit` to `selector_falls`. -/
theorem not_selectorAtFrameEvent : ¬ Obligations.SelectorAtFrameEvent := by
  unfold Obligations.SelectorAtFrameEvent
  intro h
  obtain ⟨-, -, -, -, -, hgivesWay, -⟩ :=
    h { before := [], after := [], picks := [] } (qualifiedRef .refa) revertiveOnRefa revertiveOnRefa_inv
  rcases hgivesWay (qualifiedRef .refb) [qualifiedRef .refa] [] List.mem_cons_self rfl
      (fun c hc => .inl (by rw [List.mem_singleton.1 hc])) (by decide) revertiveOnRefa_staysGood (.inl rfl) (.inl rfl) with
    ⟨r, -, hgap⟩ | ⟨hrev, -⟩
  · exact absurd hgap (by decide)
  · exact absurd hrev (by decide)

end Sys2Proof.Machine
end

section
/-! PROOFS. O38: the TIMING records, and REFOUT with DEVICE exported. -/

set_option Elab.async false

namespace Sys2Proof.Machine

/-! ### What the losses of highways tell (R118, R123) -/

/-- Losses taken one after the other, by a step that takes one: a listed candidate that was not FAILED is told to fail at
the loss of its highway, whatever other highways are lost before it. -/
theorem failed_mem_foldl {f : Timing → HwyId → Timing × List TimOcc}
    (hcands : ∀ t g, (f t g).1.cands = (t.withLost fun x => x == g).cands) (hocc : ∀ t g, (t.lose (.hwy g)).2 ⊆ (f t g).2)
    {h : HwyId} {k : Cand} (hst : k.st ≠ .failed) {hs : List HwyId} (hmem : h ∈ hs) {t : Timing}
    (hk : t.cand? (.hwy h) = some k) :
    .failed k.src .loss ∈ (hs.foldl (fun a g => let r := f a.1 g; (r.1, a.2 ++ r.2)) (t, [])).2 := by
  induction hs generalizing t with
  | nil => cases hmem
  | cons g hs ih =>
    rw [List.foldl_cons, foldl_occs]
    by_cases hg : h = g
    · subst hg
      have hlost : .failed k.src .loss ∈ (t.lose (.hwy h)).2 := by
        rw [Timing.lose, hk]
        simp [failOcc, hst]
      exact List.mem_append_left _ (hocc t h hlost)
    · have hother : ∀ x, Source.hwy h = .hwy x → (x == g) = false := fun x hx => by
        cases hx
        simpa using hg
      have hkept : (f t g).1.cand? (.hwy h) = some k := by
        rw [Timing.cand?, hcands]
        exact (t.cand?_withLost hother).trans hk
      exact List.mem_append_right _ (ih ((List.mem_cons.1 hmem).resolve_left hg) hkept)

section Told

variable {t : Timing} {h : HwyId} {hs : List HwyId} {k : Cand} (hst : k.st ≠ .failed) (hmem : h ∈ hs)
  (hk : t.cand? (.hwy h) = some k)

include hst hmem hk

theorem Timing.failed_mem_loseBefore : .failed k.src .loss ∈ (t.loseBefore hs).2 :=
  failed_mem_foldl (f := fun t g => t.lose (.hwy g)) (fun t g => congrArg Timing.cands (t.lose_eq g))
    (fun _ _ => List.Subset.refl _) hst hmem hk

theorem Timing.failed_mem_loseAll : .failed k.src .loss ∈ (t.loseAll hs).2 :=
  failed_mem_foldl (f := fun t g => t.loseNow (.hwy g)) (fun t g => (t.loseNow_move g).cands)
    (fun t g => by rw [Timing.loseNow_occs]; exact List.subset_append_left _ _) hst hmem hk

end Told

/-- The loss of one highway is one of a list. -/
theorem Timing.failed_mem_loseNow {t : Timing} {h : HwyId} {k : Cand} (hst : k.st ≠ .failed)
    (hk : t.cand? (.hwy h) = some k) : .failed k.src .loss ∈ (t.loseNow (.hwy h)).2 := by
  have hlist := Timing.failed_mem_loseAll hst (List.mem_singleton_self h) hk
  rwa [Timing.loseAll_cons, Timing.loseAll_nil, List.append_nil] at hlist

/-! ### What a candidate tells at a device frame event (R119 to R123) -/

section Candidate

variable (o : FrameOrder) {s : State} {k : Cand} (hk : k ∈ s.tim.cands)

/-- A candidate that has turned bad in the work tells its failure, with the cause (R123). -/
theorem Cand.failed_mem_workOccs {aligned : HwyId → Bool} {driftLimit : Nat} (qualifyTime : Nat) {k : Cand} (hst : k.st ≠ .failed)
    (hbad : (k.measured aligned driftLimit).good aligned = false) :
    .failed k.src (if (k.measured aligned driftLimit).inLoss aligned then .loss else .drift) ∈
      k.workOccs aligned driftLimit qualifyTime := by
  have hfail : .failed k.src (if (k.measured aligned driftLimit).inLoss aligned then .loss else .drift) ∈
      failTickOcc aligned (k.measured aligned driftLimit) := by
    rw [failTickOcc, if_pos ⟨by rwa [Cand.measured_st], hbad⟩, Cand.measured_src]
    exact List.mem_singleton_self _
  exact List.mem_append_left _ (List.mem_append_right _ hfail)

include hk

theorem State.refLoss_told {r : RefInput} (hsrc : k.src = .ref r) (hgap : k.gap = 2) (hst : k.st ≠ .failed) :
    .failed k.src .loss ∈ (s.timingEvent o).2 := by
  have hloss : (s.measured o k).inLoss (s.alignedInWork o) = true :=
    (Cand.measured_inLoss ..).trans (Cand.inLoss_of_gap hsrc hgap _).1
  have hbad : (s.measured o k).good (s.alignedInWork o) = false := by
    rw [Cand.good, hloss]
    rfl
  have hocc := Cand.failed_mem_workOccs s.tim.qualifyTime hst hbad
  rw [if_pos hloss] at hocc
  exact State.mem_timingEvent_of_work o hk (Cand.not_among_of_ref hsrc _) hocc

theorem SourceStays.drift_told (h : SourceStays s k) {w : Window} (hw : k.window = some w) (hends : 8000 ≤ w.events + 1)
    (hdrift : drifted s.tim.driftLimit w.arrivals = true) (hst : k.st ≠ .failed) :
    .failed k.src .drift ∈ (s.timingEvent o).2 := by
  have hloss : (s.measured o k).inLoss (s.alignedInWork o) = false :=
    (Cand.measured_inLoss ..).trans (h.not_inLoss o)
  have hbad : (s.measured o k).good (s.alignedInWork o) = false := by
    rw [Cand.good, State.measured, Cand.measured_of_ends _ _ (h.not_inLoss o) hw hends, hdrift, Bool.not_true, Bool.and_false]
  have hocc := Cand.failed_mem_workOccs s.tim.qualifyTime hst hbad
  rw [if_neg (Bool.eq_false_iff.1 hloss)] at hocc
  exact State.mem_timingEvent_of_work o hk (h.not_before o) hocc

theorem StaysGood.good_told (h : StaysGood s k) (hst : k.st = .failed) : .good k.src ∈ (s.timingEvent o).2 := by
  have hfail : (s.measured o k).failTick (s.alignedInWork o) = s.measured o k :=
    if_neg fun e => Bool.false_ne_true (e.2.symm.trans (h.good o))
  have hmeasuredSt : (s.measured o k).st = .failed := (Cand.measured_st ..).trans hst
  have hocc : .good k.src ∈
      stateOcc (s.alignedInWork o) s.tim.qualifyTime ((s.measured o k).failTick (s.alignedInWork o)) := by
    rw [hfail, stateOcc, hmeasuredSt]
    simp [h.good o, Cand.measured_src]
  exact State.mem_timingEvent_of_work o hk (h.sourceStays.not_before o) (List.mem_append_right _ hocc)

/-- The record of a listed source after the timing unit's own work. -/
theorem State.worked_cand? (hinv : TimingInv s) : (s.worked o).cand? k.src = some (s.workTick o k) := by
  have hcands : (s.worked o).cands = s.tim.cands.map (s.workTick o) := Timing.worked_cands _ _ _
  have hmem : s.workTick o k ∈ (s.worked o).cands := hcands ▸ List.mem_map_of_mem hk
  rw [← s.workTick_src o k]
  exact find?_src (State.worked_nodup o hinv) hmem

omit hk in
/-- The work does not fail the candidate of a highway whose loss is still to come, without a drift (R121, R123). -/
theorem State.workTick_ne_failed {h : HwyId} (hsrc : k.src = .hwy h) (ha : s.hwys[h].align = .aligned)
    (hnotBefore : (s.lossesBefore o).contains h = false) (hdrift : k.drift = false)
    (hruns : ∀ w, k.window = some w → w.events + 1 < 8000) : (s.workTick o k).st ≠ .failed := by
  have haligned : s.alignedInWork o h = true := by
    rw [State.alignedInWork, State.aligned, decide_eq_true ha, hnotBefore]
    rfl
  have hgood : (s.measured o k).good (s.alignedInWork o) = true := by
    rw [Cand.good, Cand.measured_inLoss, Cand.inLoss_of_hwy (k.gapTick_src.trans hsrc), haligned, State.measured,
      Cand.measured_drift_of_runs _ _ hruns, hdrift]
    rfl
  have hwork : s.workTick o k = k.frameTick (s.alignedInWork o) s.tim.driftLimit s.tim.qualifyTime := by
    rw [State.workTick, Cand.workTick, Cand.afterLosses_of_not_among ((Cand.isAmong_of_hwy hsrc _).trans hnotBefore)]
    rfl
  rw [hwork, ne_eq, Cand.frameTick_failed_iff]
  exact Bool.eq_false_iff.not.2 (not_not_intro hgood)

/-- A highway's candidate that nothing but the silence fails is told to fail, be the loss taken before the timing unit's
work or after it (R54, R118, R123). -/
theorem State.hwyLoss_told (hinv : TimingInv s) {h : HwyId} (hsrc : k.src = .hwy h) (ha : s.hwys[h].align = .aligned)
    (hsilence : 4 ≤ s.hwys[h].silence + 1) (hst : k.st ≠ .failed) (hdrift : k.drift = false)
    (hruns : ∀ w, k.window = some w → w.events + 1 < 8000) : .failed k.src .loss ∈ (s.timingEvent o).2 := by
  have hsilent : s.hwys[h].fallsSilent = true := (Highway.fallsSilent_iff _).2 ⟨ha, hsilence⟩
  rw [State.timingEvent, Timing.frameEvent_occs]
  by_cases hbefore : h ∈ o.before
  case pos =>
    have hmem : h ∈ s.lossesBefore o := List.contains_iff_mem.1 ((State.lossesBefore_iff o s h).2 ⟨hbefore, hsilent⟩)
    have hlisted : ({ s.tim with counter := s.tim.counter + 1 } : Timing).enforce.cand? (.hwy h) = some k :=
      hsrc ▸ find?_src hinv.ok.1.2 hk
    exact List.mem_append_left _ (List.mem_append_left _ (Timing.failed_mem_loseBefore hst hmem hlisted))
  case neg =>
    have hmem : h ∈ s.lossesAfter o := List.contains_iff_mem.1 ((State.lossesAfter_iff o s h).2 ⟨hbefore, hsilent⟩)
    have hnotBefore : (s.lossesBefore o).contains h = false :=
      Bool.eq_false_iff.2 fun e => hbefore ((State.lossesBefore_iff o s h).1 e).1
    have hlisted : (s.worked o).cand? (.hwy h) = some (s.workTick o k) := hsrc ▸ State.worked_cand? o hk hinv
    have htold := Timing.failed_mem_loseAll (State.workTick_ne_failed o hsrc ha hnotBefore hdrift hruns) hmem hlisted
    rw [State.workTick_src] at htold
    exact List.mem_append_right _ htold

end Candidate

/-! ### From what comes about to the records (R138) -/

theorem mem_timingPosts {x : TimOcc} {e : TimingEvent} {occs : List TimOcc} (hx : x ∈ occs) (he : x.event? = some e)
    (now : Word32) : .record none (.event (.timing e) now) ∈ timingPosts true now occs :=
  List.mem_flatMap.2 ⟨e, List.mem_filterMap.2 ⟨x, hx, he⟩, List.mem_singleton_self _⟩

/-- What comes about in the timing unit at a device frame event is handed to the event ring (R168). -/
theorem State.handed_timingEvent (o : FrameOrder) {s : State} (hw : Working s) (hno : NoStopClear s) {x : TimOcc}
    {e : TimingEvent} (hx : x ∈ (s.timingEvent o).2) (he : x.event? = some e) :
    Handed s.comp.eventRing (.event (.timing e) (s.tim.counter + 1)) (s.frameEvent o) := by
  have honline : s.isOnline = true := decide_eq_true hw.online
  have hgroup : timingPosts s.isOnline (s.tim.counter + 1) (s.timingEvent o).2 ∈ s.advanceCounter.eventGroups o :=
    List.mem_append_left _ (List.mem_append_left _ (List.mem_append_right _ (List.mem_singleton_self _)))
  refine State.handed_frameEvent o hw hno hgroup ?_
  rw [honline]
  exact mem_timingPosts hx he _

/-- What comes about between device frame events is handed too (R168). -/
theorem State.handed_withTiming {s : State} (hb : s.cfg.busMaster = true) (ho : s.dev.st = .online)
    {r : Timing × List TimOcc} {x : TimOcc} {e : TimingEvent} (hx : x ∈ r.2) (he : x.event? = some e) :
    Handed s.comp.eventRing (.event (.timing e) s.tim.counter) (s.withTiming r) := by
  have honline : s.isOnline = true := decide_eq_true ho
  refine handed_takePosts s.comp.eventRing _ _ { s with tim := r.1 } hb ho (.inr ⟨rfl, ?_⟩)
  rw [honline]
  exact mem_timingPosts hx he _

/-! ### Between device frame events -/

/-- The records of what the timing unit has done between `s` and `t`: a selector that has changed its state, and listed
highways that have left ALIGNED (R118, R138). -/
def TimingTold (s t : State) : Prop :=
  (t.tim.sel ≠ s.tim.sel → Handed s.comp.eventRing (.event (.timing (selectEvent t.tim.sel)) s.tim.counter) t) ∧
  (∀ h : HwyId, s.hwys[h].align = .aligned → t.hwys[h].align ≠ .aligned →
    ∀ k, s.tim.cands.find? (fun k => k.src == .hwy h) = some k → k.st ≠ .failed →
      Handed s.comp.eventRing (.event (.timing (.candidateFailed k.src .loss)) s.tim.counter) t)

/-- Where the selector stands and no highway leaves ALIGNED there is nothing to tell. -/
theorem TimingTold.of_still {s t : State} (hsel : t.tim.sel = s.tim.sel)
    (haligned : ∀ h : HwyId, s.hwys[h].align = .aligned → t.hwys[h].align = .aligned) : TimingTold s t :=
  ⟨fun hne => absurd hsel hne, fun h ha hn => absurd (haligned h ha) hn⟩

/-- A change of the timing unit that tells its occurrences. -/
theorem TimingTold.withTiming {s u : State} {r : Timing × List TimOcc} (hb : u.cfg.busMaster = true) (ho : u.dev.st = .online)
    (htim : u.tim = s.tim) (hring : u.comp.eventRing = s.comp.eventRing) (htold : Announced s.tim.sel r.1.sel r.2)
    (hlost : ∀ h : HwyId, s.hwys[h].align = .aligned → u.hwys[h].align ≠ .aligned →
      ∀ k, s.tim.cand? (.hwy h) = some k → k.st ≠ .failed → .failed k.src .loss ∈ r.2) : TimingTold s (u.withTiming r) := by
  have hhanded : ∀ {x e}, x ∈ r.2 → x.event? = some e →
      Handed s.comp.eventRing (.event (.timing e) s.tim.counter) (u.withTiming r) := fun hx he => by
    rw [← hring, ← htim]
    exact State.handed_withTiming hb ho hx he
  refine ⟨fun hne => ?_, fun h ha hn k hk hst => hhanded (hlost h ha ?_ k hk hst) rfl⟩
  · rw [State.withTiming_tim] at hne ⊢
    obtain ⟨x, hx, he⟩ := htold hne
    exact hhanded hx he
  · rwa [State.withTiming_hwys] at hn

/-- The request that has made the change completes. -/
theorem TimingTold.finishRequest {s t : State} (h : TimingTold s t) (hb : t.cfg.busMaster = true) (hand : Hand) (st : Status)
    (v : Nat) (f : Word32) : TimingTold s (t.finishRequest hand st v f) := by
  have hgrows : Grows t (t.finishRequest hand st v f) := grows_takePost (.done hand st v f) t hb
  refine ⟨fun hne => ?_, fun x ha hn k hk hst => (h.2 x ha ?_ k hk hst).grows hgrows⟩
  · rw [State.finishRequest_tim] at hne ⊢
    exact (h.1 hne).grows hgrows
  · rwa [State.finishRequest_hwys] at hn

/-- In ONLINE nothing more comes about within the moment. -/
theorem TimingTold.finish {s t : State} (h : TimingTold s t) (ho : t.dev.st = .online) : TimingTold s t.finish := by
  rwa [State.finish_online _ ho]

/-! ### A frame arrival -/

theorem getElem_set_hwy (v : Vector Highway 16) (h x : HwyId) (p : Highway) : (v.set h p)[x] = if x = h then p else v[x] := by
  by_cases e : x = h
  · subst e; simp
  · have hne : h.val ≠ x.val := fun e' => e (Fin.ext e'.symm)
    simp [Vector.getElem_set_ne, hne, e]

theorem Timing.hwyArrival_told (h : HwyId) (was now : Bool) (t : Timing) :
    Announced t.sel (t.hwyArrival h was now).1.sel (t.hwyArrival h was now).2 := by
  have hsel : (t.hwyArrival h was now).1.sel = (t.arrived h was now).sel := by
    rw [Timing.hwyArrival_eq, Timing.exportArrival_eq]
  rw [hsel]
  cases was <;> cases now
  case true.false => exact t.loseNow_told h
  all_goals exact .stays rfl

theorem State.arrival_told (h : HwyId) (f : Frame) {s : State} (hw : Working s) :
    TimingTold s (s.arrival h f true).finish := by
  have honline : (s.arrival h f true).dev.st = .online := by
    rw [State.arrival_dev h f true s hw.linked]
    exact hw.online
  by_cases hen : s.hwys[h].align = .disabled
  · have hstays : s.arrival h f true = s := if_neg fun e => e.1 hen
    rw [hstays]
    exact (TimingTold.of_still rfl fun _ => id).finish hw.online
  refine TimingTold.finish ?_ honline
  have hb : (s.portTaken h f).cfg.busMaster = true := by rw [State.portTaken_cfg]; exact hw.linked
  have hgrows := grows_takePosts ((s.hwys[h].arrive s.isOnline h f).events.flatMap fun e => eventPost s.isOnline s.now e)
    (s.setHwy h (s.hwys[h].arrive s.isOnline h f).port) hw.linked
  have hdev : (s.portTaken h f).dev.st = .online := by rw [State.portTaken, hgrows.dev]; exact hw.online
  rw [State.arrival_taken s h f hen]
  refine TimingTold.withTiming hb hdev (State.takePosts_tim _ _) hgrows.eventRing (s.tim.hwyArrival_told h _ _) ?_
  intro x ha hn k hk hst
  rw [State.portTaken_hwys, getElem_set_hwy] at hn
  split at hn
  · next hx =>
    subst hx
    rw [State.arrivalTiming, State.aligned, decide_eq_true ha, decide_eq_false hn]
    exact Timing.failed_mem_loseNow hst hk
  · exact absurd ha hn

/-! ### SETREF and SETHWY -/

theorem Timing.setref_told (aligned : HwyId → Bool) (r : ReqRecord) (t : Timing) :
    Announced t.sel (t.setref aligned r).1.sel (t.setref aligned r).2 := by
  by_cases hkept : ∀ src, t.selected? = some src → src ∈ setrefSources r
  · rw [Timing.setref_keeps hkept]
    exact .stays rfl
  · push Not at hkept
    obtain ⟨src, hsel, hgone⟩ := hkept
    rw [Timing.setref_removes hsel hgone]
    exact (Timing.fallback_move _ (t.relisted aligned r)).told

/-- A SETHWY tells where it takes a highway out of ALIGNED (R118). -/
theorem State.changeHwy_told (h : HwyId) (r : ReqRecord) (k : HwyChange) {s : State} (hb : s.cfg.busMaster = true)
    (ho : s.dev.st = .online) : TimingTold s (s.changeHwy h r k) := by
  unfold State.changeHwy
  dsimp only
  split
  · next hlost =>
    refine TimingTold.withTiming (by exact hb) (by exact ho) rfl rfl (s.tim.loseNow_told h) fun x ha hn k hk hst => ?_
    rw [getElem_set_hwy] at hn
    split at hn
    · next hx =>
      subst hx
      exact Timing.failed_mem_loseNow hst hk
    · exact absurd ha hn
  · next hkept =>
    refine .of_still rfl fun x ha => ?_
    show (s.hwys.set h (s.hwys[h].change r k))[x].align = .aligned
    rw [getElem_set_hwy]
    split
    · next hx =>
      subst hx
      exact by_contra fun hn => hkept ⟨decide_eq_true ha, hn⟩
    · exact ha

section Requests

variable {f : Op} {s : State} (hf : Fetching f s) (r : ReqRecord)

include hf

omit r in
/-- A refused request changes nothing that is told. -/
theorem Fetching.refused_told (hand : Hand) (st : Status) :
    TimingTold s ((executing f s).failRequest hand st) ∧ ((executing f s).failRequest hand st).dev.st = .online := by
  have hb : (executing f s).cfg.busMaster = true := hf.linked
  have ho : (executing f s).dev.st = .online := hf.online
  exact ⟨TimingTold.finishRequest (.of_still rfl fun _ => id) hb _ _ _ _, by simp [State.failRequest, hb, ho]⟩

/-- A fetched request tells what its body tells. -/
theorem Fetching.request_told {body : ReqRecord → Hand → State → State}
    (hbody : ∀ hand, TimingTold s (body r hand (executing f s)) ∧ (body r hand (executing f s)).dev.st = .online) :
    TimingTold s (s.request r body).finish := by
  by_cases hr : HeaderPasses r s
  · rw [hf.request hr]
    exact (hbody _).1.finish (hbody _).2
  · rw [hf.request_fails hr]
    exact (hf.refused_told _ _).1.finish (hf.refused_told _ _).2

theorem Fetching.setref_told (hand : Hand) :
    TimingTold s (setrefBody r hand (executing f s)) ∧ (setrefBody r hand (executing f s)).dev.st = .online := by
  have hb : (executing f s).cfg.busMaster = true := hf.linked
  have ho : (executing f s).dev.st = .online := hf.online
  unfold setrefBody
  split
  · have htold : TimingTold s ((executing f s).withTiming ((executing f s).tim.setref (executing f s).aligned r)) :=
      .withTiming hb ho rfl rfl (s.tim.setref_told s.aligned r) fun h ha hn => absurd ha hn
    exact ⟨htold.finishRequest (by rwa [State.withTiming_cfg]) _ _ _ _, by simp [hb, ho]⟩
  · exact hf.refused_told hand .badField

theorem Fetching.sethwy_told (hand : Hand) :
    TimingTold s (sethwyBody r hand (executing f s)) ∧ (sethwyBody r hand (executing f s)).dev.st = .online := by
  have hb : (executing f s).cfg.busMaster = true := hf.linked
  have ho : (executing f s).dev.st = .online := hf.online
  unfold sethwyBody
  dsimp only
  split
  · split
    · exact hf.refused_told hand _
    · have htold : TimingTold s ((executing f s).changeHwy (reqHwy r 0x08) r
          (hwyChange (executing f s).hwys[reqHwy r 0x08] r)) := State.changeHwy_told _ _ _ hb ho
      exact ⟨htold.finishRequest (by rwa [State.changeHwy_cfg]) _ _ _ _, by simp [hb, ho]⟩
  · exact hf.refused_told hand .badField

end Requests

/-! ### Outside ONLINE -/

theorem actAll_messages {α : Type} {key : α → ChanId} {out : α → Chan → ChanEnv → ChanOut} (as : List α) (s : State) :
    (actAll key out as s).link.messages = s.link.messages := by
  have hissue : ∀ (rs : List OpReq) (u : State), (rs.foldl (fun s r => s.issueReq r) u).link.messages = u.link.messages := by
    intro rs
    induction rs with
    | nil => exact fun _ => rfl
    | cons r rs ih => exact fun u => (ih _).trans (by cases r <;> rfl)
  have hstep : ∀ c o (u : State), (u.chanStep c o).link.messages = u.link.messages := fun c o u => by
    unfold State.chanStep
    rw [hissue]
    cases o.stales <;> rfl
  have hact : ∀ c o (u : State), (u.chanAct c o).1.link.messages = u.link.messages := fun c o u =>
    (hstep c _ _).trans (hstep c o u)
  induction as generalizing s with
  | nil => rfl
  | cons a as ih => rw [actAll_cons, ih, hact]

theorem State.moved_messages (o : FrameOrder) (s : State) : (s.moved o).1.link.messages = s.link.messages := by
  have happlied : (s.applied o).link.messages = s.link.messages := by
    unfold State.applied
    split
    · show ((({ s.ticked o with map := (s.ticked o).prospectiveMap } : State).applyEntries _).1).link.messages = _
      rw [State.applyEntries_eq, actAll_messages]
      rfl
    · rfl
  rw [State.moved, State.moveChans_eq, actAll_messages]
  exact happlied

/-- Outside ONLINE a device frame event hands no record, and sends no message (R138, R178, R190). -/
theorem State.frameEvent_silent (o : FrameOrder) {s : State} (h : s.dev.st ≠ .online) :
    (s.frameEvent o).comp = s.comp ∧ (s.frameEvent o).link.messages = s.link.messages := by
  have hdue : s.stopClearDue = false := by simp [State.stopClearDue, h]
  have hoff : (s.advanceCounter.moved o).1.dev.st ≠ .online := by rw [State.moved_dev_eq]; exact h
  rw [State.frameEvent, State.beginEvent_plain hdue, State.runEvent_eq, State.takePosts_offline _ _ hoff]
  exact ⟨State.moved_comp o _, State.moved_messages o _⟩

/-! ### The obligation -/

/-- Settles O38: each record is an occurrence of the timing unit's, and every occurrence is handed. -/
theorem timingRecords : Obligations.TimingRecords := by
  unfold Obligations.TimingRecords
  refine ⟨fun o s hw hinv _ hno => ?event, fun c s t hw _ hc hexec => ?between, fun o s hoff => ?silent, fun o s => ?refout⟩
  case event =>
    have hhanded : ∀ {x e}, x ∈ (s.timingEvent o).2 → x.event? = some e →
        Handed s.comp.eventRing (.event (.timing e) (s.tim.counter + 1)) (s.frameEvent o) := fun hx he =>
      State.handed_timingEvent o hw hno hx he
    refine ⟨s.frameEvent o, (State.exec_frameEvent o hw hno).2, fun k hk => ⟨?_, ?_, ?_, ?_⟩, fun hne => ?_⟩
    · exact fun r hsrc hgap hst => hhanded (State.refLoss_told o hk hsrc hgap hst) rfl
    · exact fun h hsrc ha hsilence hst hdrift hruns =>
        hhanded (State.hwyLoss_told o hk hinv hsrc ha hsilence hst hdrift hruns) rfl
    · intro w hsource hw' hends hst hcount
      have hstays : SourceStays s k := hsource
      have hdrift : drifted s.tim.driftLimit w.arrivals = true := by
        rw [← Bool.not_eq_false, drifted_eq_false_iff]
        omega
      exact hhanded (hstays.drift_told o hk hw' (by omega) hdrift hst) rfl
    · exact fun hgood hst => hhanded (hgood.good_told o hk hst) rfl
    · rw [State.frameEvent_tim] at hne ⊢
      obtain ⟨x, hx, he⟩ := Timing.frameEvent_told _ _ _ { s.tim with counter := s.tim.counter + 1 } hne
      exact hhanded hx he
  case between =>
    rcases hc with ⟨h, f, rfl⟩ | ⟨r, f, hreq, hf⟩
    · obtain rfl : (s.arrival h f true).finish = t := Host.Outcome.next.inj hexec
      exact State.arrival_told h f hw
    · rcases hreq with rfl | rfl
      · obtain rfl : (s.request r setrefBody).finish = t := Host.Outcome.next.inj hexec
        exact hf.request_told r (hf.setref_told r)
      · obtain rfl : (s.request r sethwyBody).finish = t := Host.Outcome.next.inj hexec
        exact hf.request_told r (hf.sethwy_told r)
  case silent =>
    refine ⟨(s.frameEvent o).finish, rfl, ?_, ?_⟩
    · rw [State.finish_comp]
      exact (State.frameEvent_silent o hoff).1
    · rw [State.finish_link]
      exact (State.frameEvent_silent o hoff).2
  case refout =>
    refine ⟨(s.frameEvent o).finish, rfl, ?_⟩
    rw [State.finish_tim, State.frameEvent_tim, State.timingEvent, Timing.frameEvent_leaves]

end Sys2Proof.Machine
end

section
/-! PROOFS. O10 and O53: the tail write, and the steps that the request processor, the completion writer and the device take
by themselves. -/

set_option Elab.async false

namespace Sys2Proof.Machine

/-! ### The request processor's fetch (R142, R146) -/

/-- The fetch of the next record while operations are sent (R142, R146). -/
theorem State.fetch_eq {s : State} (hb : Linked s) :
    s.fetch = { s with
      proc := { s.proc with st := .fetching, hand := none }
      link := { s.link with ops := s.link.ops ++ [fetchOp s.link.nextId s.proc], nextId := s.link.nextId + 1 } } :=
  if_pos hb

/-- In ONLINE the processor fetches by itself in IDLE with the counts different and no STOP pending (R146, R158). -/
theorem State.canFetch_iff {s : State} (ho : s.dev.st = .online) :
    s.canFetch = true ↔ s.proc.st = .idle ∧ s.dev.stopPending = false ∧ s.proc.tail ≠ s.proc.consumed := by
  simp [State.canFetch, isOnline_iff.2 ho, and_assoc]

/-! ### REQUEST_TAIL -/

/-- The range of a tail write: no more outstanding than the ring holds, and none taken back (R143). -/
theorem Processor.tailRefused_iff (p : Processor) (tail : Count16) :
    p.tailRefused tail = true ↔
      p.ringSize < (tail - p.consumed).toNat ∨ (tail - p.consumed).toNat < (p.tail - p.consumed).toNat := by
  simp only [Processor.tailRefused, Bool.or_eq_true, decide_eq_true_eq]
  exact Iff.rfl

/-- The tests of a REQUEST_TAIL write in their order (R143, R181). -/
theorem State.tailWrite_eq (v : Word32) (s : State) :
    s.tailWrite v =
      if s.dev.st = .resetting then withError .resetBusy s
      else if v &&& 0xFFFF0000 ≠ 0 then withError .writeReserved s
      else if s.dev.st ≠ .online then withError .tailState s
      else if s.proc.ringSize < (v.setWidth 16 - s.proc.consumed).toNat ∨
          (v.setWidth 16 - s.proc.consumed).toNat < (s.proc.tail - s.proc.consumed).toNat then
        withError .tailRange s
      else s.takeTail (v.setWidth 16) := by
  simp only [State.tailWrite, State.regWrite, State.tailRule, Processor.tailRefused_iff]
  rfl

/-- An accepted tail write while operations are sent (R143, R146, R158). -/
theorem State.takeTail_eq {s : State} (hb : Linked s) (ho : s.dev.st = .online) (tail : Count16) :
    s.takeTail tail =
      if s.proc.st = .idle ∧ s.dev.stopPending = false ∧ tail ≠ s.proc.consumed then
        { s with
          proc := { s.proc with tail := tail, st := .fetching, hand := none }
          link := { s.link with
            ops := s.link.ops ++ [fetchOp s.link.nextId s.proc]
            nextId := s.link.nextId + 1 } }
      else { s with proc := { s.proc with tail := tail } } := by
  have hcan := State.canFetch_iff (s := { s with proc := { s.proc with tail := tail } }) ho
  by_cases h : s.proc.st = .idle ∧ s.dev.stopPending = false ∧ tail ≠ s.proc.consumed
  · rw [if_pos h, State.takeTail, State.fetchStep, if_pos (hcan.2 h)]
    exact State.fetch_eq hb
  · rw [if_neg h, State.takeTail, State.fetchStep, if_neg (mt hcan.1 h)]

/-- An ignored register write leaves nothing more to come about (R182). -/
theorem Settled.done_withError {s : State} (h : Settled s) (e : RegError) :
    done (withError e s) = .next (withError e s) :=
  congrArg _ (State.finish_eq_self (withError e s) h.1 h.2)

/-- Settles O10, test by test. -/
theorem requestTailWrite : Obligations.RequestTailWrite := by
  unfold Obligations.RequestTailWrite
  intro v s hb hsettled
  show done (s.tailWrite v) = _
  rw [State.tailWrite_eq]
  split_ifs with hresetting hreserved hoff hrange hfetch
  · exact hsettled.done_withError _
  · exact hsettled.done_withError _
  · exact hsettled.done_withError _
  · exact hsettled.done_withError _
  · rw [State.takeTail_eq hb (not_not.1 hoff), if_pos hfetch]
    exact done_online _ (not_not.1 hoff)
  · rw [State.takeTail_eq hb (not_not.1 hoff), if_neg hfetch]
    exact done_online _ (not_not.1 hoff)

/-! ### The completion writer's fillings (R171) -/

/-- A REQUEST_DONE placed while operations are sent, with what the processor goes on to (R146, R168). -/
theorem Working.placeDone {s : State} (h : Working s) (n : RingId) (d : ReqDone) :
    s.placeDone n d = afterRequest (afterPlace n (.requestDone d) s) := by
  have hplace := s.place_eq n (.requestDone d) h.linked
  rw [State.placeDone, hplace]
  exact (if_pos (isOnline_iff.2 h.online)).trans (State.procNext_eq _ h.linked)

@[simp] theorem afterRequest_dev (s : State) : (afterRequest s).dev = s.dev := by
  unfold afterRequest
  split_ifs <;> rfl

/-- An OVERFLOW where the ring has space and has missed records (R171). -/
theorem Working.overflowStep {s : State} (h : Working s) {n : RingId}
    (hspace : s.comp.rings[n].unconsumed < s.comp.rings[n].size) (hmissed : 0 < s.comp.rings[n].missed) :
    s.overflowStep n = afterPlace n (.overflow s.comp.rings[n].missed s.tim.counter)
      { s with comp := { s.comp with rings := s.comp.rings.set n { s.comp.rings[n] with missed := 0 } } } := by
  have hopen : 0 < (s.ring n).missed ∧ (s.ring n).full = false := ⟨hmissed, State.not_full_of_space hspace⟩
  rw [State.overflowStep, if_pos (isOnline_iff.2 h.online), State.placeOverflow, if_pos hopen]
  exact State.place_eq _ _ _ h.linked

/-- A held REQUEST_DONE where the ring has space and nothing missed (R171). -/
theorem Working.heldStep {s : State} (h : Working s) {n : RingId}
    (hspace : s.comp.rings[n].unconsumed < s.comp.rings[n].size) (hmissed : s.comp.rings[n].missed = 0) {d : ReqDone}
    (hheld : s.comp.rings[n].held = some d) :
    s.heldStep n = afterRequest (afterPlace n (.requestDone d)
      { s with comp := { s.comp with rings := s.comp.rings.set n { s.comp.rings[n] with held := none } } }) := by
  have hopen : s.isOnline = true ∧ (s.ring n).missed = 0 := ⟨isOnline_iff.2 h.online, hmissed⟩
  have hheld' : (s.ring n).held = some d := hheld
  have hfull : ¬(s.ring n).full = true := Bool.eq_false_iff.1 (State.not_full_of_space hspace)
  have hworking : Working (s.setRing n { s.ring n with held := none }) := ⟨h.linked, h.online⟩
  rw [State.heldStep, if_pos hopen, State.placeHeld, hheld']
  exact (if_neg hfull).trans (hworking.placeDone n d)

/-! ### The ends of STOPPING and RESETTING (R190, R194) -/

theorem State.stoppingEnd_eq {s : State} (hst : s.dev.st = .stopping) (hclosed : ∀ c : ChanId, s.chans[c].st = .closed)
    (hops : s.link.ops = []) : s.stoppingEnd = { s with dev := { s.dev with st := .offline } } :=
  if_pos ⟨hst, s.allClosed_iff.2 hclosed, s.quiet_iff.2 hops⟩

theorem State.resettingEnd_eq {s : State} (hst : s.dev.st = .resetting) (hops : s.link.ops = []) :
    s.resettingEnd = { s with dev := { s.dev with st := .offline } } :=
  if_pos ⟨hst, s.quiet_iff.2 hops⟩

/-- Settles O53: each row is open in its state, and the device is then ONLINE or OFFLINE, where nothing ends. -/
theorem deviceOwnSteps : Obligations.DeviceOwnSteps := by
  unfold Obligations.DeviceOwnSteps
  refine ⟨fun s hs hidle hstop hne => ?fetch,
    fun n s hs hspace => ⟨fun hmissed => ?overflow, fun d hmissed hheld => ?held⟩,
    fun s hops => ⟨fun hst hclosed => ?stopping, fun hst => ?resetting⟩⟩
  case fetch =>
    have hcan : s.canFetch = true := (State.canFetch_iff hs.online).2 ⟨hidle, hstop, hne⟩
    show done s.fetchStep = _
    rw [State.fetchStep, if_pos hcan, State.fetch_eq hs.linked]
    exact done_online _ hs.online
  case overflow =>
    show done (s.overflowStep n) = _
    rw [hs.overflowStep hspace hmissed]
    exact done_online _ hs.online
  case held =>
    show done (s.heldStep n) = _
    rw [hs.heldStep hspace hmissed hheld]
    exact done_online _ (by rw [afterRequest_dev]; exact hs.online)
  case stopping =>
    show done s.stoppingEnd = _
    rw [State.stoppingEnd_eq hst hclosed hops, done_offline rfl]
  case resetting =>
    show done s.resettingEnd = _
    rw [State.resettingEnd_eq hst hops, done_offline rfl]

end Sys2Proof.Machine
end

section
/-! PROOFS. O18, O20 and O32: the header checks, NOP, and the queries with the end of their result write. -/

set_option Elab.async false

namespace Sys2Proof.Machine

/-! ### The header checks (R148, R149) -/

/-- A fetched request that fails completes in the ring its header names, or in ring 0 (R148). -/
theorem Fetching.fails {f : Op} {s : State} (h : Fetching f s) (r : ReqRecord) (st : Status) :
    done ((executing f s).failRequest ((executing f s).replyHand r) st) = .next
      (afterDone (if r.ring.toNat < s.comp.ringCount then ringOf r else 0)
        { status := st, consumed := s.proc.consumed + 1, tag := r.tag, value := 0, frame := 0 } (inHand f s)) := by
  have hring : ((executing f s).replyHand r).ring = if r.ring.toNat < s.comp.ringCount then ringOf r else 0 := by
    simp only [State.replyHand, State.ringOk, decide_eq_true_eq]
    rfl
  rw [State.failRequest, State.finishRequest, State.handDone_eq _ _ (executing f s) h.linked h.online, hring,
    done_afterDone _ _ (executing f s) h.online]
  exact congrArg _ (afterDone_st _ _ .executing (inHand f s))

/-- The kind codes outside the table of 10.3. -/
theorem kindKnown_eq_false {kind : Byte} (h : kind = 0 ∨ 0x0E < kind.toNat) : kindKnown kind = false := by
  rcases h with rfl | h
  · rfl
  · simp [kindKnown, h]

/-- Each of the fourteen kinds is its own meaning behind the same fetch and header checks. -/
theorem exec_kind {c : Instr} {r : ReqRecord} (hc : c ∈ [.nop r, .sethwy r, .connect r, .disconnect r, .openChannel r,
      .closeChannel r, .reslot r, .commit r, .discard r, .setref r, .qhwy r, .qchan r, .qslot r, .qtime r]) (s : State) :
    exec c s = done (s.request r (requestBody c)) := by
  revert c
  simp only [List.forall_mem_cons]
  exact ⟨rfl, rfl, rfl, rfl, rfl, rfl, rfl, rfl, rfl, rfl, rfl, rfl, rfl, rfl, by simp⟩

/-- Settles O18: an unknown kind and a bad header fail alike, before any kind's meaning. -/
theorem headerChecks : Obligations.HeaderChecks := by
  unfold Obligations.HeaderChecks
  refine ⟨fun kind r f s hf hkind => ?_, fun c r f s hf hbad hc => ?_⟩
  · have hunknown : s.unknownKind kind r = (executing f s).failRequest ((executing f s).replyHand r) .badKind := by
      simp [State.unknownKind, kindKnown_eq_false hkind, hf.fetched]
    show done (s.unknownKind kind r) = _
    rw [hunknown, hf.fails]
  · rw [exec_kind hc, hf.request_fails hbad, hf.fails]

/-! ### NOP (R151) -/

/-- A body byte that is not 0 fails a kind that uses none. -/
theorem reservedOk_of_nonzero {r : ReqRecord} (h : ∃ i < 56, byteAt r.body i ≠ 0) : reservedOk r [] = false := by
  obtain ⟨i, hi, hne⟩ := h
  simp only [reservedOk, List.all_eq_false, List.mem_range]
  exact ⟨i, hi, by simpa using hne⟩

/-- Settles O20: by the body's bytes, and outside FETCHING none is taken. -/
theorem nopCompletes : Obligations.NopCompletes := by
  unfold Obligations.NopCompletes
  refine ⟨fun r f s hf hr => ⟨fun hzero => ?_, fun hnonzero => ?_⟩, fun r s hsettled hwaits => ?_⟩
  · show done (s.request r nopBody) = _
    rw [hf.request hr, nopBody_of_zero hzero]
    exact (congrArg done (hf.finish r .ok 0 (inHand f s) rfl rfl)).trans (done_answer _ _ _ _ hf.online)
  · show done (s.request r nopBody) = _
    rw [hf.request hr, nopBody, if_neg (Bool.eq_false_iff.1 (reservedOk_of_nonzero hnonzero))]
    exact hf.refused r .badField
  · have hstays := s.request_of_not_fetching (by rw [hwaits]; decide) r nopBody
    show done (s.request r nopBody) = _
    rw [hstays, done, hsettled.finish]

/-! ### The queries (R152, R154 to R157) -/

/-- A query issues its one result write (R152). -/
theorem Fetching.writeResult {f : Op} {s : State} (h : Fetching f s) (r : ReqRecord) (bytes : List Byte) {s1 : State}
    (hb : s1.cfg = s.cfg) (ho : s1.dev = s.dev) :
    done (State.writeResult r { ring := ringOf r, tag := r.tag, frame := 0 } bytes
        { s1 with proc := { s1.proc with st := .executing } }) = .next (waitMemory r bytes s1) := by
  have hsent : s1.cfg.busMaster = true := by rw [hb]; exact h.linked
  have honline : (waitMemory r bytes s1).dev.st = .online := (congrArg Device.st ho).trans h.online
  exact (congrArg done (if_pos hsent)).trans (done_online _ honline)

/-- A query with CLEAR clears before its write is issued, after the snapshot (R60, R81). -/
theorem Fetching.writeResult_clearing {f : Op} {s : State} (h : Fetching f s) (r : ReqRecord) (bytes : List Byte)
    {s1 : State} (hb : s1.cfg = s.cfg) (ho : s1.dev = s.dev) :
    done (State.writeResult r { ring := ringOf r, tag := r.tag, frame := 0 } bytes
        (if r.clear then { s1 with proc := { s1.proc with st := .executing } } else executing f s)) =
      .next (waitMemory r bytes (if r.flags.getLsbD 1 then s1 else inHand f s)) := by
  rw [ReqRecord.clear]
  by_cases hclear : r.flags.getLsbD 1 = true
  · rw [if_pos hclear, if_pos hclear]
    exact h.writeResult r bytes hb ho
  · rw [if_neg hclear, if_neg hclear]
    exact h.writeResult r bytes (s1 := inHand f s) rfl rfl

theorem queryOk_of {r : ReqRecord} {used : Nat} (haddr : reqField r 0x10 8 % 64 = 0)
    (hreserved : reservedOk r [(0x08, used), (0x10, 8)] = true) : queryOk r used = true := by
  simp [queryOk, resultAddr, hreserved, haddr]

section Queries

variable {f : Op} {s : State} (hf : Fetching f s) {r : ReqRecord} (hr : HeaderPasses r s)
  (haddr : reqField r 0x10 8 % 64 = 0)

include hf hr haddr

/-- QHWY: the snapshot first, the clearing after it (R60, R61, R154). -/
theorem Fetching.qhwy (hreserved : reservedOk r [(0x08, 1), (0x10, 8)] = true) (hh : reqByte r 0x08 ≤ 15) :
    exec (.qhwy r) s = .next (waitMemory r (qhwyBytes s (reqHwy r 0x08))
      (let p := { s.hwys[reqHwy r 0x08] with deletes := 0, repeats := 0, misframes := 0, latch := false }
       if r.flags.getLsbD 1 then { inHand f s with hwys := s.hwys.set (reqHwy r 0x08) p } else inHand f s)) := by
  have hok : (queryOk r 1 && decide (reqByte r 0x08 ≤ 15)) = true := by simp [queryOk_of haddr hreserved, hh]
  show done (s.request r qhwyBody) = _
  rw [hf.request hr, qhwyBody, if_pos hok]
  exact hf.writeResult_clearing r _ (s1 := { inHand f s with
    hwys := s.hwys.set (reqHwy r 0x08) s.hwys[reqHwy r 0x08].clear }) rfl rfl

/-- QCHAN: the snapshot first, the clearing after it (R81, R155). -/
theorem Fetching.qchan (hreserved : reservedOk r [(0x08, 1), (0x10, 8)] = true) (hc : reqByte r 0x08 ≤ 127) :
    exec (.qchan r) s = .next (waitMemory r (qchanBytes (without f s) (reqChan r))
      (let ch := { s.chans[reqChan r] with starved := 0, late := 0, latch := false }
       if r.flags.getLsbD 1 then { inHand f s with chans := s.chans.set (reqChan r) ch } else inHand f s)) := by
  have hok : (queryOk r 1 && decide (reqByte r 0x08 ≤ 127)) = true := by simp [queryOk_of haddr hreserved, hc]
  show done (s.request r qchanBody) = _
  rw [hf.request hr, qchanBody, if_pos hok]
  exact hf.writeResult_clearing r _ (s1 := { inHand f s with
    chans := s.chans.set (reqChan r) s.chans[reqChan r].clear }) rfl rfl

/-- QSLOT: the highway and the slot are looked at after the fields (R156; log entry 31). -/
theorem Fetching.qslot (hreserved : reservedOk r [(0x08, 2), (0x10, 8)] = true) (hh : reqByte r 0x08 ≤ 15)
    (hn : reqByte r 0x09 ≤ 127) :
    exec (.qslot r) s = .next
      (if s.hwys[reqHwy r 0x08].align = .disabled then answer r .noHighway 0 (inHand f s)
       else if s.hwys[reqHwy r 0x08].slotCount ≤ reqByte r 0x09 then answer r .noSlot 0 (inHand f s)
       else waitMemory r (qslotBytes s (reqHwy r 0x08) (reqByte r 0x09)) (inHand f s)) := by
  have hok : (queryOk r 2 && decide (reqByte r 0x08 ≤ 15) && decide (reqByte r 0x09 ≤ 127)) = true := by
    simp [queryOk_of haddr hreserved, hh, hn]
  have hcheck : (executing f s).slotCheck (reqHwy r 0x08) (reqByte r 0x09) = _ := State.slotCheck_eq s _ _
  show done (s.request r qslotBody) = _
  rw [hf.request hr, qslotBody, if_pos hok, hcheck]
  by_cases hdisabled : s.hwys[reqHwy r 0x08].align = .disabled
  · rw [if_pos hdisabled, if_pos hdisabled]
    exact hf.refused r .noHighway
  · rw [if_neg hdisabled, if_neg hdisabled]
    by_cases hslot : s.hwys[reqHwy r 0x08].slotCount ≤ reqByte r 0x09
    · rw [if_pos hslot, if_pos hslot]
      exact hf.refused r .noSlot
    · rw [if_neg hslot, if_neg hslot]
      exact hf.writeResult r _ (s1 := inHand f s) rfl rfl

/-- QTIME: the view its body names (R157). -/
theorem Fetching.qtime (hreserved : reservedOk r [(0x08, 1), (0x10, 8)] = true)
    (hview : reqByte r 0x08 = 1 ∨ reqByte r 0x08 = 2) :
    exec (.qtime r) s = .next (waitMemory r
      (if reqByte r 0x08 = 1 then qtimeStateBytes s.tim else qtimeConfigBytes s.tim) (inHand f s)) := by
  have hok : (queryOk r 1 && (reqByte r 0x08 == 1 || reqByte r 0x08 == 2)) = true := by
    simp [queryOk_of haddr hreserved, hview]
  show done (s.request r qtimeBody) = _
  rw [hf.request hr, qtimeBody, if_pos hok]
  exact hf.writeResult r _ (s1 := inHand f s) rfl rfl

end Queries

/-! ### The end of a result write (R152) -/

/-- A query whose result write has ended completes with its snapshot's frame number, or with MEMORY_ERROR and value 0. -/
theorem Working.done_resultEnd {s : State} (hs : Working s) {h : Hand} (hhand : s.proc.hand = some h) (accepted : Bool) :
    done (s.resultEnd accepted) = .next (afterDone h.ring
      { status := if accepted then .ok else .memoryError, consumed := s.proc.consumed, tag := h.tag,
        value := if accepted then h.frame.toNat else 0, frame := 0 } s) := by
  have hdone : ∀ d, done (s.handDone h.ring d) = .next (afterDone h.ring d s) := fun d => by
    rw [State.handDone_eq _ _ _ hs.linked hs.online, done_afterDone _ _ _ hs.online]
  rw [State.resultEnd, hhand]
  cases accepted with
  | true => exact hdone _
  | false => exact hdone _

/-- The end of the one result write in flight goes to the query (R152, R195). -/
theorem LinkInv.resultWriteEnd {s : State} (hinv : LinkInv s) {f : Op} (hlive : s.liveOpOf .resultWrite = some f)
    (e : WriteEnd) : s.resultWriteEnd e = (without f s).resultEnd (decide (e = .accepted)) := by
  obtain ⟨hmem, hkind, hmark⟩ := State.liveOpOf_mem hlive
  have hfails : ∀ timeout, s.failOp f.id timeout = (without f s).resultEnd false := fun timeout => by
    rw [hinv.failOp hmem hmark, hkind]
    rfl
  simp only [State.resultWriteEnd, hlive]
  cases e with
  | accepted => rfl
  | error => exact hfails false
  | timeout => exact hfails true

/-- Settles O32: kind by kind up to the result write, then by the write's end. -/
theorem queriesWrite : Obligations.QueriesWrite := by
  unfold Obligations.QueriesWrite
  refine ⟨fun r f s hf hr haddr => ⟨hf.qhwy hr haddr, hf.qchan hr haddr, hf.qslot hr haddr, hf.qtime hr haddr⟩,
    fun e f h s hb hinv honline hhand hlive => ?_⟩
  have hworking : Working (without f s) := ⟨hb, honline⟩
  show done (s.resultWriteEnd e) = _
  rw [hinv.resultWriteEnd hlive, hworking.done_resultEnd hhand]
  simp only [decide_eq_true_eq]
  rfl

end Sys2Proof.Machine
end

section
/-! PROOFS. One completion ring, and the rings of a state, through each change of them; the layer under O57, O11 and O12. -/

set_option Elab.async false

namespace Sys2Proof.Machine

/-! ### One ring -/

theorem satAdd_le {limit n : Nat} (h : n ≤ limit) : Config.satAdd limit n ≤ limit := by
  unfold Config.satAdd
  split_ifs <;> omega

/-- A ring in its ranges, whatever it has missed or holds: so a head write leaves it before returned space is filled
(R165, R171, R175). -/
structure Ring.Fits (r : Ring) : Prop where
  size : r.size ≤ 4096
  unconsumed : r.unconsumed ≤ r.size
  armed : r.armed = true → r.unconsumed = 0
  missed : r.missed ≤ 65535

theorem Ring.full_iff_le (r : Ring) : r.full = true ↔ r.size ≤ r.unconsumed := decide_eq_true_iff

theorem Ring.ok_iff (r : Ring) : r.Ok ↔ r.Fits ∧ (0 < r.missed ∨ r.held ≠ none → r.full = true) := by
  rw [Ring.full_iff_le]
  constructor
  · rintro ⟨hsize, hroom, hfull, harmed, hmissed⟩
    exact ⟨⟨hsize, hroom, harmed, hmissed⟩, fun e => (hfull e).ge⟩
  · rintro ⟨⟨hsize, hroom, harmed, hmissed⟩, hfull⟩
    exact ⟨hsize, hroom, fun e => hroom.antisymm (hfull e), harmed, hmissed⟩

/-- One more record placed is one more unconsumed (R163, R165). -/
theorem Ring.placed_unconsumed {r : Ring} (h : r.unconsumed < 65535) : r.placed.unconsumed = r.unconsumed + 1 := by
  unfold Ring.unconsumed Ring.placed at *
  dsimp only
  bv_omega

/-- The ring with the head count of a RING_HEAD value (R174). -/
def Ring.headAt (value : Word32) (r : Ring) : Ring := { r with head := headCount value }

/-- A head write consumes as many records as it advances (R165, R174). -/
theorem Ring.headAt_unconsumed {r : Ring} {v : Word32} (h : r.advance v ≤ r.unconsumed) :
    (r.headAt v).unconsumed = r.unconsumed - r.advance v := by
  unfold Ring.unconsumed Ring.advance Ring.headAt at *
  dsimp only
  bv_omega

/-- A head write that advances nothing leaves the ring as it is (R174). -/
theorem Ring.headAt_of_advance_zero {r : Ring} {v : Word32} (h : r.advance v = 0) : r.headAt v = r := by
  have hhead : headCount v = r.head := by
    unfold Ring.advance at h
    bv_omega
  rw [Ring.headAt, hhead]

section One

variable {r : Ring}

namespace Ring.Fits

variable (h : r.Fits)

include h

theorem ok_of_full (hfull : r.full = true) : r.Ok := (Ring.ok_iff r).2 ⟨h, fun _ => hfull⟩

theorem ok_of_clear (hmissed : r.missed = 0) (hheld : r.held = none) : r.Ok :=
  (Ring.ok_iff r).2 ⟨h, fun e => by simp [hmissed, hheld] at e⟩

theorem placed (hspace : r.full = false) : r.placed.Fits := by
  obtain ⟨hsize, -, -, hmissed⟩ := h
  have hlt := (Ring.full_iff r).1 hspace
  have hcount : r.placed.unconsumed = r.unconsumed + 1 := Ring.placed_unconsumed (by omega)
  exact ⟨hsize, by rw [hcount]; exact hlt, nofun, hmissed⟩

theorem withMissed {m : Nat} (hm : m ≤ 65535) : Ring.Fits { r with missed := m } := ⟨h.size, h.unconsumed, h.armed, hm⟩

theorem withHeld (d : Option ReqDone) : Ring.Fits { r with held := d } := ⟨h.size, h.unconsumed, h.armed, h.missed⟩

theorem headAt {v : Word32} (hv : r.advance v ≤ r.unconsumed) : (r.headAt v).Fits := by
  have hcount := Ring.headAt_unconsumed hv
  refine ⟨h.size, ?_, fun harmed => ?_, h.missed⟩
  · have : r.unconsumed ≤ (r.headAt v).size := h.unconsumed
    omega
  · have := h.armed harmed
    omega

end Ring.Fits

namespace Ring.Ok

variable (h : r.Ok)

include h

theorem fits : r.Fits := ((Ring.ok_iff r).1 h).1

/-- A ring with space has dropped and holds nothing (R168, R170). -/
theorem clear_of_space (hspace : r.full = false) : r.missed = 0 ∧ r.held = none := by
  have hfull := mt ((Ring.ok_iff r).1 h).2 (Bool.eq_false_iff.1 hspace)
  rw [not_or, not_not] at hfull
  exact ⟨Nat.eq_zero_of_not_pos hfull.1, hfull.2⟩

theorem placed (hspace : r.full = false) : r.placed.Ok :=
  (h.fits.placed hspace).ok_of_clear (h.clear_of_space hspace).1 (h.clear_of_space hspace).2

theorem miss (hfull : r.full = true) : r.miss.Ok :=
  (h.fits.withMissed (satAdd_le h.fits.missed)).ok_of_full hfull

theorem hold (hfull : r.full = true) (d : ReqDone) : Ring.Ok { r with held := some d } :=
  (h.fits.withHeld (some d)).ok_of_full hfull

theorem unheld : r.unheld.Ok :=
  (Ring.ok_iff r.unheld).2 ⟨h.fits.withHeld none, fun e => ((Ring.ok_iff r).1 h).2 (.inl (e.resolve_right (absurd rfl)))⟩

/-- A STOP finds a held record in a full ring only (R170, R177). -/
theorem stopHeld : r.stopHeld.Ok := by
  unfold Ring.stopHeld
  split_ifs with hheld
  · exact h.unheld.miss (((Ring.ok_iff r).1 h).2 (.inr (Option.isSome_iff_ne_none.1 hheld)))
  · exact h

theorem withArmed {b : Bool} (hb : b = true → r.unconsumed = 0) : Ring.Ok { r with armed := b } := by
  obtain ⟨hsize, hroom, hfull, -, hmissed⟩ := h
  exact ⟨hsize, hroom, hfull, hb, hmissed⟩

end Ring.Ok

end One

/-- An unused ring, and a ring at its START (R162, R180). -/
theorem Ring.ok_of_empty {r : Ring} (hsize : r.size ≤ 4096) (hcount : r.produced = r.head) (hmissed : r.missed = 0)
    (hheld : r.held = none) : r.Ok := by
  have hnone : r.unconsumed = 0 := by simp [Ring.unconsumed, hcount]
  exact Ring.Fits.ok_of_clear ⟨hsize, by omega, fun _ => hnone, by omega⟩ hmissed hheld

/-! ### The rings of a state -/

section Rings

variable {s : State}

/-- Every ring keeps its invariant but ring `n`, to which a head write has returned space (R171, R174). -/
structure Returned (n : RingId) (s : State) : Prop where
  fits : (s.ring n).Fits
  others : ∀ m, m ≠ n → (s.ring m).Ok

theorem State.ring_of_comp {t : State} (e : t.comp = s.comp) (n : RingId) : t.ring n = s.ring n := by
  rw [State.ring, State.ring, e]

theorem ringInv_iff : RingInv s ↔ ∀ n, (s.ring n).Ok := Iff.rfl

theorem RingInv.ring (h : RingInv s) (n : RingId) : (s.ring n).Ok := h n

theorem RingInv.of_comp (h : RingInv s) {t : State} (e : t.comp = s.comp) : RingInv t := by
  unfold RingInv
  rw [e]
  exact h

theorem RingInv.setRing (h : RingInv s) (n : RingId) {r : Ring} (hr : r.Ok) : RingInv (s.setRing n r) := by
  refine ringInv_iff.2 fun m => ?_
  by_cases e : m = n
  · rw [e, State.ring_setRing_self]
    exact hr
  · rw [State.ring_setRing_other e]
    exact h.ring m

theorem State.halt_ring (k : Cause) (n : RingId) (s : State) : (s.halt k).ring n = (s.ring n).unheld := by
  simp [State.halt, State.ring]

/-- Entry to HALTED discards held records (R178, R191). -/
theorem RingInv.halt (h : RingInv s) (k : Cause) : RingInv (s.halt k) :=
  ringInv_iff.2 fun m => by
    rw [State.halt_ring]
    exact (h.ring m).unheld

namespace Returned

variable {n : RingId} (h : Returned n s)

include h

theorem ringInv (hr : (s.ring n).Ok) : RingInv s := fun m => by
  by_cases e : m = n
  · exact e ▸ hr
  · exact h.others m e

theorem of_comp {t : State} (e : t.comp = s.comp) : Returned n t := by
  have hring := State.ring_of_comp e
  exact ⟨hring n ▸ h.fits, fun m hm => hring m ▸ h.others m hm⟩

theorem setRing {r : Ring} (hr : r.Fits) : Returned n (s.setRing n r) :=
  ⟨(State.ring_setRing_self n r s).symm ▸ hr, fun m hm => (State.ring_setRing_other hm r s).symm ▸ h.others m hm⟩

theorem halt (k : Cause) : Returned n (s.halt k) :=
  ⟨(State.halt_ring k n s).symm ▸ h.fits.withHeld none,
    fun m hm => (State.halt_ring k m s).symm ▸ (h.others m hm).unheld⟩

end Returned

/-- An accepted head write before its ARM flag is judged: the head count, and the returned space filled (R171, R174). -/
def State.headTaken (n : RingId) (v : Word32) (s : State) : State :=
  if (s.ring n).advance v = 0 then s.setRing n ((s.ring n).headAt v)
  else (s.setRing n ((s.ring n).headAt v)).fillSpace n

theorem State.takeHead_eq (n : RingId) (v : Word32) (s : State) :
    s.takeHead n v =
      if headArm v && (s.headTaken n v).isOnline then (s.headTaken n v).judgeArm n else s.headTaken n v := rfl

/-- What a placed record does to the rings: it is in its ring, and the device may have halted (R163, R178). -/
theorem State.place_comp_or_halt (n : RingId) (rec : Record) (s : State) :
    (s.place n rec).comp = (s.setRing n (s.ring n).placed).comp ∨
      s.place n rec = (s.setRing n (s.ring n).placed).halt .completionWrite := by
  by_cases hb : s.cfg.busMaster = true
  · rw [State.place_eq _ _ _ hb]
    exact .inl rfl
  · exact .inr (if_neg hb)

theorem Returned.place {n : RingId} (h : Returned n s) (rec : Record) (hspace : (s.ring n).full = false) :
    Returned n (s.place n rec) := by
  have hplaced := h.setRing (h.fits.placed hspace)
  rcases State.place_comp_or_halt n rec s with e | e
  · exact hplaced.of_comp e
  · exact e ▸ hplaced.halt _

theorem State.place_missed (n : RingId) (rec : Record) (s : State) :
    ((s.place n rec).ring n).missed = (s.ring n).missed := by
  rcases State.place_comp_or_halt n rec s with e | e
  · rw [State.ring_of_comp e, State.ring_setRing_self]
    rfl
  · rw [e, State.halt_ring, State.ring_setRing_self]
    rfl

theorem RingInv.place (h : RingInv s) {n : RingId} (rec : Record) (hspace : (s.ring n).full = false) :
    RingInv (s.place n rec) := by
  have hplaced := h.setRing n ((h.ring n).placed hspace)
  rcases State.place_comp_or_halt n rec s with e | e
  · exact hplaced.of_comp e
  · exact e ▸ hplaced.halt _

theorem RingInv.miss (h : RingInv s) {n : RingId} (hfull : (s.ring n).full = true) : RingInv (s.miss n) :=
  h.setRing n ((h.ring n).miss hfull)

end Rings

end Sys2Proof.Machine
end

section
/-! PROOFS. O57: records and requests keep the rings' invariant. -/

set_option Elab.async false

namespace Sys2Proof.Machine

section Records

variable {s : State} (h : RingInv s)

include h

/-! ### Records handed to the completion writer -/

/-- A BUFFER_DONE or EVENT record is placed in a ring with space and dropped from a full one (R168, R169). -/
theorem RingInv.offer (n : RingId) (rec : Record) : RingInv (s.offer n rec) := by
  unfold State.offer
  split_ifs with _ hfull
  · exact h.miss hfull
  · exact h.place rec (Bool.eq_false_iff.2 hfull)
  · exact h

theorem RingInv.fetch : RingInv s.fetch := by
  unfold State.fetch
  split_ifs
  · exact h.of_comp rfl
  · exact h.halt _

theorem RingInv.procNext : RingInv s.procNext := by
  unfold State.procNext
  split_ifs
  · exact h.of_comp rfl
  · exact h.of_comp rfl
  · exact h.fetch

theorem RingInv.placeDone {n : RingId} (d : ReqDone) (hspace : (s.ring n).full = false) :
    RingInv (s.placeDone n d) := by
  have hplaced := h.place (.requestDone d) hspace
  unfold State.placeDone
  dsimp only
  split_ifs
  · exact hplaced.procNext
  · exact hplaced

/-- A REQUEST_DONE is placed in a ring with space, and held in a full one or dropped from it (R168, R170, R177). -/
theorem RingInv.handDone (n : RingId) (d : ReqDone) : RingInv (s.handDone n d) := by
  unfold State.handDone
  by_cases hfull : (s.ring n).full = true
  · have hheld := h.setRing n ((h.ring n).hold hfull d)
    rw [hfull]
    split_ifs
    · exact h
    · contradiction
    · exact (h.miss hfull).procNext
    · exact hheld.of_comp rfl
  · rw [Bool.eq_false_iff.2 hfull]
    split_ifs
    · exact h
    · exact h.placeDone d (Bool.eq_false_iff.2 hfull)
    all_goals contradiction

theorem RingInv.finishRequest (hand : Hand) (st : Status) (v : Nat) (f : Word32) :
    RingInv (s.finishRequest hand st v f) := h.handDone _ _

theorem RingInv.failRequest (hand : Hand) (st : Status) : RingInv (s.failRequest hand st) :=
  h.finishRequest hand st 0 0

theorem RingInv.takePosts (ps : List Post) : RingInv (s.takePosts ps) := by
  induction ps generalizing s with
  | nil => exact h
  | cons p ps ih =>
    refine ih ?_
    cases p with
    | record ring rec => exact h.offer _ rec
    | done hand st v f => exact h.finishRequest hand st v f

/-- Whatever changes without the rings, records may then be taken. -/
theorem RingInv.takePosts_of_comp {t : State} (e : t.comp = s.comp) (ps : List Post) : RingInv (t.takePosts ps) :=
  (h.of_comp e).takePosts ps

theorem RingInv.chanEvent (c : ChanId) (o : ChanOut) : RingInv (s.chanEvent c o) :=
  h.takePosts_of_comp (State.chanAct_comp c o s) _

theorem RingInv.chanStepIf (c : ChanId) (can : Chan → ChanEnv → Bool) (step : Chan → ChanEnv → ChanOut) :
    RingInv (s.chanStepIf c can step) := by
  unfold State.chanStepIf
  split_ifs
  · exact h.chanEvent c _
  · exact h

theorem RingInv.withTiming (r : Timing × List TimOcc) : RingInv (s.withTiming r) :=
  h.takePosts_of_comp (t := { s with tim := r.1 }) rfl _

theorem RingInv.arrival (x : HwyId) (f : Frame) (since : Bool) : RingInv (s.arrival x f since) := by
  unfold State.arrival
  split_ifs
  · exact (h.takePosts_of_comp (State.setHwy_comp x _ s) _).withTiming _
  · exact h

theorem RingInv.changeHwy (x : HwyId) (r : ReqRecord) (k : HwyChange) : RingInv (s.changeHwy x r k) := by
  have hchanged : RingInv { s with
      hwys := s.hwys.set x (s.hwys[x].change r k), map := s.map.set x (changeDrivers (reqByte r 0x0A) s.map[x] k) } := h
  unfold State.changeHwy
  dsimp only
  split_ifs
  · exact hchanged.withTiming _
  · exact hchanged

/-! ### The device frame event -/

omit h in
theorem State.beginEvent_comp (s : State) : s.beginEvent.comp = s.comp := by
  unfold State.beginEvent
  dsimp only
  split_ifs
  · rw [State.stopClear_eq, actAll_comp]
    rfl
  · rfl

/-- The blocks do their work without the rings; the records of the event are taken after it (R172). -/
theorem RingInv.frameEvent (o : FrameOrder) : RingInv (s.frameEvent o) := by
  rw [State.frameEvent, State.runEvent_eq]
  exact h.takePosts_of_comp ((State.moved_comp o _).trans s.beginEvent_comp) _

theorem RingInv.eventIf (due : Bool) (o : FrameOrder) : RingInv (s.eventIf due o) := by
  unfold State.eventIf
  split_ifs
  · exact h.frameEvent o
  · exact h

/-! ### The meanings of the requests -/

/-- A staging request that has changed the set (R30, R38). -/
theorem RingInv.stagingDone {t : State} (e : t.comp = s.comp) (hand : Hand) (immediate : Bool) (st : Status) :
    RingInv (t.stagingDone hand immediate st) := by
  have ht := h.of_comp e
  unfold State.stagingDone
  split_ifs
  · exact ht.of_comp rfl
  · exact ht.finishRequest hand st _ _

/-- A query that has taken its snapshot (R152). -/
theorem RingInv.writeResult {t : State} (e : t.comp = s.comp) (r : ReqRecord) (hand : Hand) (bytes : List Byte) :
    RingInv (t.writeResult r hand bytes) := by
  have ht := h.of_comp e
  unfold State.writeResult
  split_ifs
  · exact ht.of_comp rfl
  · exact ht.failRequest hand _

variable (r : ReqRecord) (hand : Hand)

theorem RingInv.nopBody : RingInv (nopBody r hand s) := by
  unfold Machine.nopBody
  split_ifs
  · exact h.finishRequest hand _ _ _
  · exact h.failRequest hand _

theorem RingInv.sethwyBody : RingInv (sethwyBody r hand s) := by
  unfold Machine.sethwyBody
  dsimp only
  split_ifs
  · split
    · exact h.failRequest hand _
    · exact (h.changeHwy _ r _).finishRequest hand _ _ _
  · exact h.failRequest hand _

theorem RingInv.connectBody : RingInv (connectBody r hand s) := by
  unfold Machine.connectBody
  split_ifs
  · split
    · exact h.failRequest hand _
    · exact h.stagingDone (State.stageTarget_comp _ _ _ s) hand _ _
  · exact h.failRequest hand _

theorem RingInv.disconnectBody : RingInv (disconnectBody r hand s) := by
  unfold Machine.disconnectBody
  split_ifs
  · split
    · exact h.failRequest hand _
    · exact h.stagingDone (State.stageTarget_comp _ _ _ s) hand _ _
  · exact h.failRequest hand _

/-- OPEN and the cases of RESLOT end alike: refused, or with the channel's entry staged. -/
theorem RingInv.stageSlotsUnless (check : Option Status) (c : ChanId) (e : ChanEntry) (d : Dir) (x : HwyId) (l : List Nat)
    (immediate : Bool) :
    RingInv (match check with
      | some st => s.failRequest hand st
      | none => (s.stageSlots c e d x l).stagingDone hand immediate .staged) := by
  cases check with
  | some st => exact h.failRequest hand st
  | none => exact h.stagingDone (State.stageSlots_comp c e d x l s) hand _ _

theorem RingInv.openBody : RingInv (openBody r hand s) := by
  unfold Machine.openBody
  dsimp only
  split_ifs
  · exact h.stageSlotsUnless hand _ _ _ _ _ _ _
  · exact h.failRequest hand _

theorem RingInv.closeChan (c : ChanId) (immediate : Bool) : RingInv (s.closeChan c hand immediate) := by
  unfold State.closeChan
  split
  · exact h.stagingDone (t := { s with mc := { s.mc with entries := eraseKey c s.mc.entries } }) rfl hand _ _
  · exact h.stagingDone (State.stageChan_comp c _ s) hand _ _
  · exact h.failRequest hand _
  · split_ifs
    · split
      · exact h.failRequest hand _
      · exact h.stagingDone (State.stageChan_comp c _ s) hand _ _
    · exact h.failRequest hand _

theorem RingInv.closeBody : RingInv (closeBody r hand s) := by
  unfold Machine.closeBody
  split_ifs
  · exact h.closeChan hand _ _
  · exact h.failRequest hand _

theorem RingInv.reslotChan (c : ChanId) (x : HwyId) (l : List Nat) (immediate : Bool) :
    RingInv (s.reslotChan c x l hand immediate) := by
  unfold State.reslotChan
  split
  · exact h.stageSlotsUnless hand _ c _ _ x l immediate
  · exact h.stageSlotsUnless hand _ c _ _ x l immediate
  · exact h.failRequest hand _
  · split
    · exact h.failRequest hand _
    · exact h.failRequest hand _
    · exact h.failRequest hand _
    all_goals exact h.stageSlotsUnless hand _ c _ _ x l immediate

theorem RingInv.reslotBody : RingInv (reslotBody r hand s) := by
  unfold Machine.reslotBody
  split_ifs
  · exact h.reslotChan hand _ _ _ _
  · exact h.failRequest hand _

theorem RingInv.commitBody : RingInv (commitBody r hand s) := by
  unfold Machine.commitBody
  split_ifs
  · exact h.finishRequest hand _ _ _
  · exact h.of_comp rfl
  · exact h.failRequest hand _

theorem RingInv.discardBody : RingInv (discardBody r hand s) := by
  have hempty : RingInv { s with mc := s.mc.emptied } := h
  unfold Machine.discardBody
  split_ifs
  · exact hempty.finishRequest hand _ _ _
  · exact h.failRequest hand _

theorem RingInv.setrefBody : RingInv (setrefBody r hand s) := by
  unfold Machine.setrefBody
  split_ifs
  · exact (h.withTiming _).finishRequest hand _ _ _
  · exact h.failRequest hand _

theorem RingInv.qhwyBody : RingInv (qhwyBody r hand s) := by
  unfold Machine.qhwyBody
  dsimp only
  split_ifs
  · exact h.writeResult (State.setHwy_comp _ _ s) r hand _
  · exact h.writeResult rfl r hand _
  · exact h.failRequest hand _

theorem RingInv.qchanBody : RingInv (qchanBody r hand s) := by
  unfold Machine.qchanBody
  dsimp only
  split_ifs
  · exact h.writeResult (State.setChan_comp _ _ s) r hand _
  · exact h.writeResult rfl r hand _
  · exact h.failRequest hand _

theorem RingInv.qslotBody : RingInv (qslotBody r hand s) := by
  unfold Machine.qslotBody
  split_ifs
  · split
    · exact h.failRequest hand _
    · exact h.writeResult rfl r hand _
  · exact h.failRequest hand _

theorem RingInv.qtimeBody : RingInv (qtimeBody r hand s) := by
  unfold Machine.qtimeBody
  split_ifs
  · exact h.writeResult rfl r hand _
  · exact h.writeResult rfl r hand _
  · exact h.failRequest hand _

end Records

/-! ### The end of a fetch -/

theorem State.fetched_comp {s t : State} (h : s.fetched = some t) : t.comp = s.comp := by
  unfold State.fetched at h
  split at h
  · split_ifs at h
    rw [← Option.some.inj h]
    rfl
  · cases h

/-- A fetched request keeps the invariant when its kind's own meaning does. -/
theorem RingInv.request {s : State} (h : RingInv s) (r : ReqRecord) {body : ReqRecord → Hand → State → State}
    (hbody : ∀ {u : State}, RingInv u → ∀ r hand, RingInv (body r hand u)) : RingInv (s.request r body) := by
  unfold State.request
  split
  · exact h
  · next hfetched =>
    have hexec := h.of_comp (State.fetched_comp hfetched)
    split_ifs
    · exact hbody hexec _ _
    · exact hexec.failRequest _ _

theorem RingInv.unknownKind {s : State} (h : RingInv s) (k : Byte) (r : ReqRecord) : RingInv (s.unknownKind k r) := by
  unfold State.unknownKind
  split_ifs
  · exact h
  · split
    · exact h
    · next hfetched => exact (h.of_comp (State.fetched_comp hfetched)).failRequest _ _

end Sys2Proof.Machine
end

section
/-! PROOFS. O57: head writes and returned space, the device, the ends of host memory operations, and every step. -/

set_option Elab.async false

namespace Sys2Proof.Machine

/-! ### Returned space (R171) -/

section Fill

variable {s : State} {n : RingId}

/-- After the OVERFLOW's turn the ring has missed nothing, or is full. -/
theorem Returned.placeOverflow (h : Returned n s) : Returned n (s.placeOverflow n) ∧
    (((s.placeOverflow n).ring n).missed = 0 ∨ ((s.placeOverflow n).ring n).full = true) := by
  unfold State.placeOverflow
  split_ifs with hopen
  · have hcleared := h.setRing (h.fits.withMissed (Nat.zero_le 65535))
    have hring := State.ring_setRing_self n { s.ring n with missed := 0 } s
    refine ⟨hcleared.place _ (by rw [hring]; exact hopen.2), .inl ?_⟩
    rw [State.place_missed, hring]
  · refine ⟨h, ?_⟩
    rw [not_and_or, Bool.not_eq_false, Nat.not_lt, Nat.le_zero] at hopen
    exact hopen

/-- A held record that takes its position leaves nothing dropped and nothing held; otherwise the ring is full. -/
theorem Returned.placeHeld (h : Returned n s) (hturn : (s.ring n).missed = 0 ∨ (s.ring n).full = true) :
    RingInv (s.placeHeld n) := by
  have hok : (s.ring n).full = true → RingInv s := fun hfull => h.ringInv (h.fits.ok_of_full hfull)
  unfold State.placeHeld
  split
  · split_ifs with hfull
    · exact hok hfull
    · have hmissed := hturn.resolve_right hfull
      have hcleared := h.setRing (h.fits.withHeld none)
      have hring := State.ring_setRing_self n { s.ring n with held := none } s
      refine (hcleared.ringInv ?_).placeDone _ (by rw [hring]; exact Bool.eq_false_iff.2 hfull)
      rw [hring]
      exact (h.fits.withHeld none).ok_of_clear hmissed rfl
  · next hheld => exact hturn.elim (fun hmissed => h.ringInv (h.fits.ok_of_clear hmissed hheld)) hok

theorem Returned.fillSpace (h : Returned n s) : RingInv (s.fillSpace n) :=
  h.placeOverflow.1.placeHeld h.placeOverflow.2

end Fill

section Steps

variable {s : State} (h : RingInv s)

include h

/-! ### RING_HEAD -/

theorem RingInv.judgeArm (n : RingId) : RingInv (s.judgeArm n) := by
  unfold State.judgeArm
  split_ifs with hnone
  · exact h.setRing n ((h.ring n).withArmed fun _ => hnone)
  · have hdisarmed := h.setRing n ((h.ring n).withArmed (b := false) fun e => absurd e Bool.false_ne_true)
    exact hdisarmed.of_comp (State.notify_comp n _)

theorem RingInv.returned {n : RingId} {v : Word32} (hv : (s.ring n).advance v ≤ (s.ring n).unconsumed) :
    Returned n (s.setRing n ((s.ring n).headAt v)) :=
  Returned.setRing ⟨(h.ring n).fits, fun m _ => h.ring m⟩ ((h.ring n).fits.headAt hv)

theorem RingInv.takeHead {n : RingId} {v : Word32} (hv : (s.ring n).advance v ≤ (s.ring n).unconsumed) :
    RingInv (s.takeHead n v) := by
  have htaken : RingInv (s.headTaken n v) := by
    unfold State.headTaken
    split_ifs with hzero
    · rw [Ring.headAt_of_advance_zero hzero]
      exact h.setRing n (h.ring n)
    · exact (h.returned hv).fillSpace
  rw [State.takeHead_eq]
  split_ifs
  · exact htaken.judgeArm n
  · exact htaken

theorem RingInv.regWrite (legal v : Word32) {rule : State → State} (hrule : RingInv (rule s)) :
    RingInv (s.regWrite legal v rule) := by
  unfold State.regWrite
  split_ifs
  · exact h
  · exact h
  · exact hrule

theorem RingInv.ringHeadWrite (n : RingId) (v : Word32) : RingInv (s.ringHeadWrite n v) := by
  refine h.regWrite _ _ ?_
  unfold State.headRule State.headRefused
  split_ifs with _ hrefused
  · exact h
  · exact h
  · simp only [Bool.or_eq_true, decide_eq_true_eq, not_or, Nat.not_lt] at hrefused
    exact h.takeHead hrefused.2

/-- A ring that keeps its invariant has space only with nothing missed: the row has no state of its own to act in (R171). -/
theorem RingInv.overflowStep (n : RingId) : s.overflowStep n = s := by
  have hclosed : ¬(0 < (s.ring n).missed ∧ (s.ring n).full = false) := fun ⟨hmissed, hspace⟩ =>
    hmissed.ne' ((h.ring n).clear_of_space hspace).1
  rw [State.overflowStep, State.placeOverflow, if_neg hclosed, ite_self]

/-- Likewise for a held record. -/
theorem RingInv.heldStep (n : RingId) : s.heldStep n = s := by
  have hplace : s.placeHeld n = s := by
    unfold State.placeHeld
    split
    · next hheld =>
      refine if_pos (Bool.of_not_eq_false fun hspace => ?_)
      rw [((h.ring n).clear_of_space hspace).2] at hheld
      cases hheld
    · rfl
  rw [State.heldStep, hplace, ite_self]

/-! ### The device and its registers -/

omit h in
/-- No ring of a layout holds more than 4096 records (R188). -/
theorem setupRing_size {bytes : List Byte} (hok : setupOk (parseSetup bytes) = true) (n : RingId) :
    ((parseSetup bytes).ring n.val).size ≤ 4096 := by
  obtain ⟨-, -, -, -, hused, hunused, -⟩ := (setupOk_iff bytes).1 hok
  rw [setupRing_eq]
  dsimp only
  rcases Nat.lt_or_ge n.val (leField bytes 0x0A 1) with hn | hn
  · obtain ⟨⟨k, -, hk, hsize⟩, -⟩ := hused _ hn
    rw [hsize]
    exact Nat.pow_le_pow_right (by decide) hk
  · rw [(hunused _ hn n.isLt).1]
    exact Nat.zero_le _

/-- A START that reaches ONLINE lays out its rings empty (R162, R180). -/
theorem RingInv.setupData (bytes : List Byte) : RingInv (s.setupData bytes) := by
  unfold State.setupData
  split_ifs with hok
  · refine ringInv_iff.2 fun n => ?_
    have hring : (s.goOnline (parseSetup bytes)).ring n = (parseSetup bytes).ring n.val := by
      simp [State.ring, State.goOnline]
    rw [hring]
    exact Ring.ok_of_empty (setupRing_size hok.2 n) rfl rfl rfl
  · exact h.of_comp (State.startFails_comp _ s)

omit h in
theorem ringInv_of_reset {t : State} (e : t.comp = .reset) : RingInv t := ringInv_reset.of_comp e

theorem RingInv.stopRule : RingInv s.stopRule := by
  have hdropped : ∀ n : RingId, (s.comp.rings.map Ring.stopHeld)[n].Ok := fun n => by
    simpa using (h n).stopHeld
  unfold State.stopRule
  split
  · split_ifs
    · exact h
    · rw [State.stopOnline_eq]
      split_ifs
      · exact h.of_comp rfl
      · exact hdropped
      · exact h.of_comp rfl
  · exact h.of_comp s.stopHalted_comp
  all_goals exact h.of_comp (State.regError_comp _ s)

theorem RingInv.setupWrite (high : Bool) (v : Word32) : RingInv (s.setupWrite high v) := by
  refine h.regWrite _ _ ?_
  unfold State.setupRule
  split_ifs <;> exact h.of_comp rfl

theorem RingInv.fetchStep : RingInv s.fetchStep := by
  unfold State.fetchStep
  split_ifs
  · exact h.fetch
  · exact h

theorem RingInv.tailWrite (v : Word32) : RingInv (s.tailWrite v) := by
  have htail : ∀ x, RingInv { s with proc := { s.proc with tail := x } } := fun _ => h
  refine h.regWrite _ _ ?_
  unfold State.tailRule
  split_ifs
  · exact h
  · exact h
  · exact (htail _).fetchStep

theorem RingInv.controlWrite (v : Word32) : RingInv (s.controlWrite v) := by
  unfold State.controlWrite
  split_ifs
  · exact h.of_comp s.startRule_comp
  · exact h.stopRule
  · exact ringInv_of_reset rfl
  · exact h

theorem RingInv.windowWrite (offset len : Nat) (v : Word32) : RingInv (s.windowWrite offset len v) := by
  unfold State.windowWrite
  split_ifs
  · exact h
  · exact h
  · exact h
  · exact h
  · exact h.controlWrite v
  · exact h.setupWrite false v
  · exact h.setupWrite true v
  · exact h.tailWrite v
  · exact h.ringHeadWrite _ v

/-! ### The ends of host memory operations -/

theorem RingInv.endOp (id : Nat) : RingInv (s.endOp id) := h

theorem RingInv.resultEnd (accepted : Bool) : RingInv (s.resultEnd accepted) := by
  unfold State.resultEnd
  split
  · split_ifs
    · exact h.finishRequest _ _ _ _
    · exact h.failRequest _ _
  · exact h

theorem RingInv.fails (k : OpKind) (timeout : Bool) : RingInv (s.fails k timeout) := by
  cases k with
  | setupRead => exact h.of_comp (State.startFails_comp _ s)
  | requestFetch => exact h.halt _
  | resultWrite => exact h.resultEnd false
  | recordWrite n => exact h.halt _
  | descRead c i => exact h.chanEvent c _
  | dataRead c i => exact h.chanEvent c _
  | dataWrite c i => exact h.chanEvent c _
  | writeBack c e f => exact h.chanEvent c _
  | flushRead c i => exact h.chanEvent c _

theorem RingInv.discarded (o : Op) : RingInv (s.discarded o) := by
  unfold State.discarded
  split
  · exact h.takePosts_of_comp (State.chanPump_comp _ s) _
  all_goals exact h

theorem RingInv.failOp (id : Nat) (timeout : Bool) : RingInv (s.failOp id timeout) := by
  unfold State.failOp
  split
  · split
    · exact (h.endOp id).fails _ timeout
    · exact (h.endOp id).discarded _
    · exact (h.endOp id).discarded _
  · exact h

theorem RingInv.staleEnd (id : Nat) : RingInv (s.staleEnd id) := by
  unfold State.staleEnd
  split
  · split
    · exact h
    · exact (h.endOp id).discarded _
    · exact (h.endOp id).discarded _
  · exact h

theorem RingInv.setupReadEnd (e : ReadEnd) : RingInv (s.setupReadEnd e) := by
  unfold State.setupReadEnd
  split
  · cases e with
    | data bytes => exact (h.endOp _).setupData bytes
    | error => exact h.failOp _ _
    | timeout => exact h.failOp _ _
  · exact h

theorem RingInv.fetchFails (timeout : Bool) : RingInv (s.fetchFails timeout) := by
  unfold State.fetchFails
  split
  · exact h.failOp _ _
  · exact h

theorem RingInv.resultWriteEnd (e : WriteEnd) : RingInv (s.resultWriteEnd e) := by
  unfold State.resultWriteEnd
  split
  · cases e with
    | accepted => exact (h.endOp _).resultEnd true
    | error => exact h.failOp _ _
    | timeout => exact h.failOp _ _
  · exact h

theorem RingInv.chanReadEnd (id : Nat) (c : ChanId) (e : ReadEnd) (take : Chan → ChanEnv → List Byte → ChanOut) :
    RingInv (s.chanReadEnd id c e take) := by
  cases e with
  | data bytes => exact (h.endOp id).chanEvent c _
  | error => exact h.failOp _ _
  | timeout => exact h.failOp _ _

theorem RingInv.chanWriteEnd (id : Nat) (c : ChanId) (e : WriteEnd) (take : Chan → ChanEnv → ChanOut) :
    RingInv (s.chanWriteEnd id c e take) := by
  cases e with
  | accepted => exact (h.endOp id).chanEvent c _
  | error => exact h.failOp _ _
  | timeout => exact h.failOp _ _

theorem RingInv.descriptorReadEnd (id : Nat) (e : ReadEnd) : RingInv (s.descriptorReadEnd id e) := by
  unfold State.descriptorReadEnd
  split
  · exact h.chanReadEnd id _ e _
  · exact h

theorem RingInv.dataReadEnd (id : Nat) (e : ReadEnd) : RingInv (s.dataReadEnd id e) := by
  unfold State.dataReadEnd
  split
  · exact h.chanReadEnd id _ e _
  · exact h

theorem RingInv.dataWriteEnd (id : Nat) (e : WriteEnd) : RingInv (s.dataWriteEnd id e) := by
  unfold State.dataWriteEnd
  split
  · exact h.chanWriteEnd id _ e _
  · exact h

theorem RingInv.writeBackEnd (id : Nat) (e : WriteEnd) : RingInv (s.writeBackEnd id e) := by
  unfold State.writeBackEnd
  split
  · exact h.chanWriteEnd id _ e _
  · exact h

theorem RingInv.flushReadEnd (id : Nat) (e : ReadEnd) : RingInv (s.flushReadEnd id e) := by
  unfold State.flushReadEnd
  split
  · exact h.chanReadEnd id _ e _
  · exact h

theorem RingInv.completionWriteEnd (id : Nat) (e : WriteEnd) : RingInv (s.completionWriteEnd id e) := by
  unfold State.completionWriteEnd
  split
  · cases e with
    | accepted => exact h
    | error => exact h.failOp _ _
    | timeout => exact h.failOp _ _
  · exact h

/-! ### Every step -/

/-- Every command keeps the invariant. -/
theorem RingInv.exec (i : Instr) : ∃ t, exec i s = .next t ∧ RingInv t := by
  have hdone : ∀ {u : State}, RingInv u → ∃ t, done u = .next t ∧ RingInv t :=
    fun {u} hu => ⟨u.finish, rfl, hu.of_comp u.finish_comp⟩
  cases i with
  | powerOnReset => exact hdone (ringInv_of_reset rfl)
  | configurationSpaceWrite busMaster messages vectors => exact hdone (h : RingInv (s.configWrite _ _ _))
  | start => exact hdone (h.of_comp s.startRule_comp)
  | stop => exact hdone h.stopRule
  | reset => exact hdone (ringInv_of_reset rfl)
  | setupAddressWrite high value => exact hdone (h.setupWrite high value)
  | requestTail value => exact hdone (h.tailWrite value)
  | ringHead ring value => exact hdone (h.ringHeadWrite ring value)
  | registerWrite offset len value => exact hdone (h.windowWrite offset len value)
  | setupReadEnd e => exact hdone (h.setupReadEnd e)
  | requestFetch => exact hdone h.fetchStep
  | requestFetchError timeout => exact hdone (h.fetchFails timeout)
  | badKind kind r => exact hdone (h.unknownKind kind r)
  | nop r => exact hdone (h.request r RingInv.nopBody)
  | sethwy r => exact hdone (h.request r RingInv.sethwyBody)
  | connect r => exact hdone (h.request r RingInv.connectBody)
  | disconnect r => exact hdone (h.request r RingInv.disconnectBody)
  | openChannel r => exact hdone (h.request r RingInv.openBody)
  | closeChannel r => exact hdone (h.request r RingInv.closeBody)
  | reslot r => exact hdone (h.request r RingInv.reslotBody)
  | commit r => exact hdone (h.request r RingInv.commitBody)
  | discard r => exact hdone (h.request r RingInv.discardBody)
  | setref r => exact hdone (h.request r RingInv.setrefBody)
  | qhwy r => exact hdone (h.request r RingInv.qhwyBody)
  | qchan r => exact hdone (h.request r RingInv.qchanBody)
  | qslot r => exact hdone (h.request r RingInv.qslotBody)
  | qtime r => exact hdone (h.request r RingInv.qtimeBody)
  | resultWriteEnd e => exact hdone (h.resultWriteEnd e)
  | deviceFrameEvent o => exact hdone (h.frameEvent o)
  | apply o => exact hdone (h.eventIf _ o)
  | stopClearEvent o => exact hdone (h.eventIf _ o)
  | frameArrival x bytes since => exact hdone (h.arrival x bytes since)
  | hwySilence x o => exact hdone (h.eventIf _ o)
  | hwyLost x o => exact hdone (h.eventIf _ o)
  | referencePulse r => exact hdone (h : RingInv (s.pulse r))
  | referenceLoss r o => exact hdone (h.eventIf _ o)
  | driftWindowEnd src o => exact hdone (h.eventIf _ o)
  | candidateQualified src o => exact hdone (h.eventIf _ o)
  | selectLocked o => exact hdone (h.eventIf _ o)
  | holdoverValid o => exact hdone (h.eventIf _ o)
  | holdoverLimit o => exact hdone (h.eventIf _ o)
  | waitToRestore o => exact hdone (h.eventIf _ o)
  | operationTimeout id => exact hdone (h.failOp id true)
  | lateAnswer id e => exact ⟨s, rfl, h⟩
  | descriptorReadEnd id e => exact hdone (h.descriptorReadEnd id e)
  | dataReadEnd id e => exact hdone (h.dataReadEnd id e)
  | dataWriteEnd id e => exact hdone (h.dataWriteEnd id e)
  | writeBackEnd id e => exact hdone (h.writeBackEnd id e)
  | flushReadEnd id e => exact hdone (h.flushReadEnd id e)
  | staleOperationEnd id e => exact hdone (h.staleEnd id)
  | completionWriteEnd id e => exact hdone (h.completionWriteEnd id e)
  | writeBackIssue c => exact hdone (h.chanStepIf c _ _)
  | deferredLookaheadRead c => exact hdone (h.chanStepIf c _ _)
  | primingRead c => exact hdone (h.chanStepIf c _ _)
  | flushWalk c => exact hdone (h.chanStepIf c _ _)
  | chanClosed c => exact hdone (h.chanStepIf c _ _)
  | overflow ring => exact hdone (u := s.overflowStep ring) ((h.overflowStep ring).symm ▸ h)
  | heldRecordPlaced ring => exact hdone (u := s.heldStep ring) ((h.heldStep ring).symm ▸ h)
  | stoppingEnd => exact hdone (h.of_comp s.stoppingEnd_comp)
  | resettingEnd => exact hdone (h.of_comp s.resettingEnd_comp)

theorem RingInv.step {t : State} (hstep : step s = .next t) : RingInv t := by
  unfold Machine.step at hstep
  split at hstep
  · cases hstep
    exact h
  · next c rest _ =>
    have hrest : RingInv { s with pending := rest } := h
    obtain ⟨u, hexec, hu⟩ := hrest.exec c
    rw [hexec] at hstep
    cases hstep
    exact hu

end Steps

/-- Settles O57, command by command: a record is placed only in a ring with space and dropped or held only in a full one,
and the space a head write returns goes to what is owed before the ring is armed. -/
theorem ringsKept : Obligations.RingsKept := by
  unfold Obligations.RingsKept
  exact fun s t h hstep => h.step hstep

end Sys2Proof.Machine
end

section
/-! PROOFS. O11 and O12: RING_HEAD. -/

set_option Elab.async false

namespace Sys2Proof.Machine

/-! ### The tests (R173, R181, R198) -/

/-- The range of a head write: a ring of the layout, and no further than its unconsumed records (R173). -/
theorem State.headRefused_iff (n : RingId) (v : Word32) (s : State) :
    s.headRefused n v = true ↔ s.comp.ringCount ≤ n.val ∨
      (s.comp.rings[n].produced - s.comp.rings[n].head).toNat < (v.setWidth 16 - s.comp.rings[n].head).toNat := by
  simp only [State.headRefused, Bool.or_eq_true, decide_eq_true_eq]
  exact Iff.rfl

/-- The tests of a RING_HEAD write in their order (R173, R181). -/
theorem State.ringHeadWrite_eq (n : RingId) (v : Word32) (s : State) :
    s.ringHeadWrite n v =
      if s.dev.st = .resetting then withError .resetBusy s
      else if v &&& 0xFFFE0000 ≠ 0 then withError .writeReserved s
      else if s.dev.st ≠ .online then withError .headState s
      else if s.headRefused n v then withError .headRange s
      else s.takeHead n v := rfl

/-- A head write that passes every test (R174). -/
theorem State.ringHeadWrite_taken {n : RingId} {v : Word32} {s : State} (honline : s.dev.st = .online)
    (hbits : v &&& 0xFFFE0000 = 0) (hcount : n.val < s.comp.ringCount)
    (hrange : (v.setWidth 16 - s.comp.rings[n].head).toNat ≤ (s.comp.rings[n].produced - s.comp.rings[n].head).toNat) :
    s.ringHeadWrite n v = s.takeHead n v := by
  have hrefused : ¬s.headRefused n v = true := by
    rw [State.headRefused_iff, not_or, Nat.not_le, Nat.not_lt]
    exact ⟨hcount, hrange⟩
  rw [State.ringHeadWrite_eq, if_neg (by rw [honline]; decide), if_neg (not_not_intro hbits), if_neg (not_not_intro honline),
    if_neg hrefused]

/-! ### Arming (R175) -/

theorem State.setRing_setRing (n : RingId) (q r : Ring) (s : State) : (s.setRing n q).setRing n r = s.setRing n r := by
  simp [State.setRing]

theorem State.notify_eq (n : RingId) (s : State) :
    s.notify n = { s with link := { s.link with messages := s.link.messages ++ messagesOf s.cfg n } } := by
  unfold State.notify messagesOf
  split_ifs <;> simp

/-- The state once the ARM flag of a head write is judged in ONLINE: the ring armed with nothing unconsumed, and otherwise
its message sent (R175). -/
def armJudged (n : RingId) (v : Word32) (s : State) : State :=
  if v.getLsbD 16 = false then s
  else if s.comp.rings[n].unconsumed = 0 then s.setRing n { s.comp.rings[n] with armed := true }
  else { s.setRing n { s.comp.rings[n] with armed := false } with
    link := { s.link with messages := s.link.messages ++ messagesOf s.cfg n } }

theorem State.judgeArm_eq {n : RingId} {v : Word32} (h : v.getLsbD 16 = true) (s : State) :
    s.judgeArm n = armJudged n v s := by
  rw [armJudged, h, if_neg Bool.noConfusion, State.judgeArm, State.notify_eq]
  rfl

/-- A head write that is taken ends with its ARM flag, when the returned space has been filled in ONLINE (R174, R175). -/
theorem State.done_takeHead {n : RingId} {v : Word32} {s : State} (h : (s.headTaken n v).dev.st = .online) :
    done (s.takeHead n v) = .next (armJudged n v (s.headTaken n v)) := by
  have hjudged : s.takeHead n v = armJudged n v (s.headTaken n v) := by
    rw [State.takeHead_eq, isOnline_iff.2 h, Bool.and_true, headArm]
    split_ifs with harm
    · exact State.judgeArm_eq harm _
    · exact (if_pos (Bool.eq_false_iff.2 harm)).symm
  have hdev : (armJudged n v (s.headTaken n v)).dev = (s.headTaken n v).dev := by
    unfold armJudged
    split_ifs <;> rfl
  rw [hjudged, done_online _ (by rw [hdev]; exact h)]

/-! ### A ring with nothing dropped and nothing held -/

theorem State.fillSpace_of_clear {n : RingId} {s : State} (hmissed : (s.ring n).missed = 0)
    (hheld : (s.ring n).held = none) : s.fillSpace n = s := by
  have hoverflow : s.placeOverflow n = s := if_neg fun hopen => hopen.1.ne' hmissed
  rw [State.fillSpace, hoverflow, State.placeHeld, hheld]

theorem State.headTaken_of_clear {n : RingId} {v : Word32} {s : State} (hmissed : (s.ring n).missed = 0)
    (hheld : (s.ring n).held = none) : s.headTaken n v = s.setRing n ((s.ring n).headAt v) := by
  have hfill := State.fillSpace_of_clear (n := n) (s := s.setRing n ((s.ring n).headAt v))
    (by rw [State.ring_setRing_self]; exact hmissed) (by rw [State.ring_setRing_self]; exact hheld)
  rw [State.headTaken, hfill, ite_self]

/-- Counts that differ by nothing are the same (R165). -/
theorem Ring.unconsumed_eq_zero {r : Ring} : r.unconsumed = 0 ↔ r.produced = r.head := by
  unfold Ring.unconsumed
  constructor
  · intro h
    bv_omega
  · intro h
    rw [h]
    simp

/-- The ARM flag judged on a ring that has nothing but a new head count. -/
theorem armJudged_headAt (n : RingId) (v : Word32) (s : State) :
    armJudged n v (s.setRing n ((s.ring n).headAt v)) =
      if v.getLsbD 16 = false then s.setRing n ((s.ring n).headAt v)
      else if (s.ring n).produced = v.setWidth 16 then s.setRing n { (s.ring n).headAt v with armed := true }
      else { s.setRing n { (s.ring n).headAt v with armed := false } with
        link := { s.link with messages := s.link.messages ++ messagesOf s.cfg n } } := by
  have hring : (s.setRing n ((s.ring n).headAt v)).comp.rings[n] = (s.ring n).headAt v := State.ring_setRing_self n _ s
  simp only [armJudged, hring, State.setRing_setRing, Ring.unconsumed_eq_zero]
  rfl

/-- Settles O11: test by test, and what an accepted write does to a ring that owes nothing. -/
theorem ringHeadWrite : Obligations.RingHeadWrite := by
  unfold Obligations.RingHeadWrite
  refine ⟨fun n v s hsettled => ?tests, fun n v s honline hbits hcount hrange hmissed hheld => ?taken⟩
  case tests =>
    have hexec : exec (.ringHead n v) s = done (s.ringHeadWrite n v) := rfl
    rw [hexec, State.ringHeadWrite_eq]
    refine ⟨fun hst => ?_, fun hst hbits => ?_, fun hst hbits hoff => ?_, fun honline hbits hrange => ?_⟩
    · rw [if_pos hst, hsettled.done_withError]
    · rw [if_neg hst, if_pos hbits, hsettled.done_withError]
    · rw [if_neg hst, if_neg (not_not_intro hbits), if_pos hoff, hsettled.done_withError]
    · rw [if_neg (by rw [honline]; decide), if_neg (not_not_intro hbits), if_neg (not_not_intro honline),
        if_pos ((s.headRefused_iff n v).2 hrange), hsettled.done_withError]
  case taken =>
    have htaken := State.headTaken_of_clear (v := v) hmissed hheld
    show done (s.ringHeadWrite n v) = _
    rw [State.ringHeadWrite_taken honline hbits hcount hrange, State.done_takeHead (by rw [htaken]; exact honline), htaken,
      armJudged_headAt]
    rfl

/-! ### Returned space while operations are sent (R171) -/

/-- The rings after a head write and the OVERFLOW that takes the first returned position (R171, R174). -/
def overflowFilled (n : RingId) (v : Word32) (s : State) : State :=
  if 0 < (s.ring n).advance v ∧ 0 < (s.ring n).missed then
    afterPlace n (.overflow (s.ring n).missed s.tim.counter) (s.setRing n { (s.ring n).headAt v with missed := 0 })
  else s.setRing n ((s.ring n).headAt v)

/-- The state once a held REQUEST_DONE has taken the next position, if one is left for it (R171). -/
def heldFilled (n : RingId) (v : Word32) (s : State) : State :=
  match (s.ring n).held with
  | some d =>
    if (s.ring n).advance v = 0 ∨ (s.ring n).advance v = 1 ∧ 0 < (s.ring n).missed then overflowFilled n v s
    else afterRequest (afterPlace n (.requestDone d)
      ((overflowFilled n v s).setRing n { (overflowFilled n v s).ring n with held := none }))
  | none => overflowFilled n v s

section Filled

variable {n : RingId} {v : Word32} {s : State}

theorem overflowFilled_dev : (overflowFilled n v s).dev = s.dev := by
  unfold overflowFilled
  split_ifs <;> rfl

theorem overflowFilled_cfg : (overflowFilled n v s).cfg = s.cfg := by
  unfold overflowFilled
  split_ifs <;> rfl

theorem overflowFilled_ring : (overflowFilled n v s).ring n =
    if 0 < (s.ring n).advance v ∧ 0 < (s.ring n).missed then Ring.placed { (s.ring n).headAt v with missed := 0 }
    else (s.ring n).headAt v := by
  have hplace : ∀ rec (t : State), (afterPlace n rec t).ring n = (t.ring n).placed := fun rec t =>
    State.ring_setRing_self n (t.ring n).placed t
  unfold overflowFilled
  split_ifs
  · rw [hplace, State.ring_setRing_self]
  · rw [State.ring_setRing_self]

theorem heldFilled_dev : (heldFilled n v s).dev = s.dev := by
  unfold heldFilled
  split
  · split_ifs
    · exact overflowFilled_dev
    · exact (afterRequest_dev _).trans overflowFilled_dev
  · exact overflowFilled_dev

theorem heldFilled_cfg : (heldFilled n v s).cfg = s.cfg := by
  have hrequest : ∀ t : State, (afterRequest t).cfg = t.cfg := fun t => by
    unfold afterRequest
    split_ifs <;> rfl
  unfold heldFilled
  split
  · split_ifs
    · exact overflowFilled_cfg
    · exact (hrequest _).trans overflowFilled_cfg
  · exact overflowFilled_cfg

variable (hworking : Working s) (hok : (s.ring n).Ok) (hrange : (s.ring n).advance v ≤ (s.ring n).unconsumed)
  (hmoved : 0 < (s.ring n).advance v)

include hok hrange hmoved

theorem headAt_space : ((s.ring n).headAt v).full = false := by
  have hcount := Ring.headAt_unconsumed hrange
  have hroom : (s.ring n).unconsumed ≤ ((s.ring n).headAt v).size := hok.fits.unconsumed
  rw [Ring.full_iff]
  omega

/-- One returned position that goes to an OVERFLOW leaves none for the held record (R171). -/
theorem overflowFilled_full :
    ((overflowFilled n v s).ring n).full = true ↔ (s.ring n).advance v = 1 ∧ 0 < (s.ring n).missed := by
  rw [overflowFilled_ring]
  by_cases hmissed : 0 < (s.ring n).missed
  · have hcount : ((s.ring n).headAt v).unconsumed = _ := Ring.headAt_unconsumed hrange
    have hfull : (s.ring n).size ≤ (s.ring n).unconsumed :=
      (Ring.full_iff_le _).1 (((Ring.ok_iff _).1 hok).2 (.inl hmissed))
    have hsize := hok.fits.size
    have hroom := hok.fits.unconsumed
    have hplaced : (Ring.placed { (s.ring n).headAt v with missed := 0 }).unconsumed =
        ((s.ring n).headAt v).unconsumed + 1 :=
      Ring.placed_unconsumed (show ((s.ring n).headAt v).unconsumed < 65535 by omega)
    rw [if_pos ⟨hmoved, hmissed⟩, Ring.full_iff_le, hplaced, hcount]
    show (s.ring n).size ≤ _ ↔ _
    omega
  · rw [if_neg fun e => hmissed e.2, headAt_space hok hrange hmoved]
    simp [hmissed]

include hworking

theorem placeOverflow_eq_overflowFilled :
    (s.setRing n ((s.ring n).headAt v)).placeOverflow n = overflowFilled n v s := by
  have hspace := headAt_space hok hrange hmoved
  unfold State.placeOverflow overflowFilled
  rw [State.ring_setRing_self, State.setRing_setRing]
  by_cases hmissed : 0 < (s.ring n).missed
  · have hopen : 0 < ((s.ring n).headAt v).missed ∧ ((s.ring n).headAt v).full = false := ⟨hmissed, hspace⟩
    rw [if_pos hopen, if_pos ⟨hmoved, hmissed⟩]
    exact State.place_eq n _ (s.setRing n _) hworking.linked
  · have hclosed : ¬(0 < ((s.ring n).headAt v).missed ∧ ((s.ring n).headAt v).full = false) := fun e => hmissed e.1
    rw [if_neg hclosed, if_neg fun e => hmissed e.2]

theorem placeHeld_eq_heldFilled : (overflowFilled n v s).placeHeld n = heldFilled n v s := by
  have hheld : ((overflowFilled n v s).ring n).held = (s.ring n).held := by
    rw [overflowFilled_ring]
    split_ifs <;> rfl
  unfold State.placeHeld heldFilled
  rw [hheld]
  cases hsome : (s.ring n).held with
  | none => rfl
  | some d =>
    have hfull := overflowFilled_full hok hrange hmoved
    have hready : Working ((overflowFilled n v s).setRing n { (overflowFilled n v s).ring n with held := none }) :=
      ⟨(congrArg ConfigSpace.busMaster overflowFilled_cfg).trans hworking.linked,
        (congrArg Device.st overflowFilled_dev).trans hworking.online⟩
    dsimp only
    rw [hready.placeDone]
    exact if_congr (hfull.trans (or_iff_right hmoved.ne').symm) rfl rfl

end Filled

/-- The returned space of an accepted head write in ONLINE while operations are sent (R171, R174). -/
theorem Working.headTaken {s : State} (hs : Working s) {n : RingId} {v : Word32} (hok : (s.ring n).Ok)
    (hrange : (s.ring n).advance v ≤ (s.ring n).unconsumed) : s.headTaken n v = heldFilled n v s := by
  unfold State.headTaken
  split_ifs with hzero
  · have hoverflow : overflowFilled n v s = s.setRing n ((s.ring n).headAt v) := if_neg fun e => e.1.ne' hzero
    unfold heldFilled
    split
    · rw [if_pos (.inl hzero), hoverflow]
    · exact hoverflow.symm
  · have hmoved := Nat.pos_of_ne_zero hzero
    rw [State.fillSpace, placeOverflow_eq_overflowFilled hs hok hrange hmoved, placeHeld_eq_heldFilled hs hok hrange hmoved]

/-- Settles O12: the OVERFLOW, then the held record, then the ARM flag. -/
theorem ringHeadFillsSpace : Obligations.RingHeadFillsSpace := by
  unfold Obligations.RingHeadFillsSpace
  intro n v s hb honline hbits hcount hok hrange
  have htaken := Working.headTaken ⟨hb, honline⟩ hok hrange
  have hst : (heldFilled n v s).dev.st = .online := (congrArg Device.st heldFilled_dev).trans honline
  show done (s.ringHeadWrite n v) = _
  rw [State.ringHeadWrite_taken honline hbits hcount hrange, State.done_takeHead (by rw [htaken]; exact hst), htaken,
    armJudged, heldFilled_cfg]
  rfl

end Sys2Proof.Machine
end

section
/-! PROOFS. A layout whose fields rise is its fields one after another, with zeros between them; the layer under O33. -/

set_option Elab.async false

namespace Sys2Proof.Machine

/-! ### Runs of bytes -/

theorem le_zero_right (n : Nat) : le n 0 = List.replicate n 0 := by
  simp [le, List.map_const']

theorem le_zero_add (m n : Nat) : le (m + n) 0 = le m 0 ++ le n 0 := by
  simp only [le_zero_right, List.replicate_add]

/-- The byte of a layout at offset `i` (R199, R203). -/
def fieldByte (fields : List FieldVal) (i : Nat) : Byte :=
  match fields.find? fun f => f.1 ≤ i && i < f.1 + f.2.1 with
  | some f => BitVec.ofNat 8 (f.2.2 / 256 ^ (i - f.1))
  | none => 0

theorem layoutBytes_eq_map (n : Nat) (fields : List FieldVal) :
    layoutBytes n fields = (List.range' 0 n).map (fieldByte fields) := by
  rw [← List.range_eq_range']
  rfl

theorem fieldByte_nil (i : Nat) : fieldByte [] i = 0 := rfl

theorem fieldByte_inside {f : FieldVal} {fields : List FieldVal} {i : Nat} (h : i < f.2.1) :
    fieldByte (f :: fields) (f.1 + i) = BitVec.ofNat 8 (f.2.2 / 256 ^ i) := by
  simp [fieldByte, h]

theorem fieldByte_outside {f : FieldVal} {fields : List FieldVal} {i : Nat} (h : i < f.1 ∨ f.1 + f.2.1 ≤ i) :
    fieldByte (f :: fields) i = fieldByte fields i := by
  have hmiss : (decide (f.1 ≤ i) && decide (i < f.1 + f.2.1)) = false := by
    simp only [Bool.and_eq_false_iff, decide_eq_false_iff_not]
    omega
  unfold fieldByte
  rw [List.find?_cons_of_neg (by simp [hmiss])]

/-! ### Rising fields -/

/-- Fields that follow one another from offset `start` on, none past offset `stop`. -/
def Rise (stop : Nat) : Nat → List FieldVal → Prop
  | start, [] => start ≤ stop
  | start, f :: fields => start ≤ f.1 ∧ Rise stop (f.1 + f.2.1) fields

/-- The fields from offset `start` to offset `stop`, each low byte first, with zeros between them. -/
def packed (stop : Nat) : Nat → List FieldVal → List Byte
  | start, [] => le (stop - start) 0
  | start, f :: fields => le (f.1 - start) 0 ++ (le f.2.1 f.2.2 ++ packed stop (f.1 + f.2.1) fields)

theorem Rise.start_le {stop start : Nat} {fields : List FieldVal} (h : Rise stop start fields) : start ≤ stop := by
  induction fields generalizing start with
  | nil => exact h
  | cons f fields ih =>
    have := ih h.2
    have := h.1
    omega

theorem Rise.of_later {stop start later : Nat} {fields : List FieldVal} (h : Rise stop later fields)
    (hle : start ≤ later) : Rise stop start fields := by
  cases fields with
  | nil => exact hle.trans h
  | cons f fields => exact ⟨hle.trans h.1, h.2⟩

/-- Zeros up to a later offset from which the fields rise. -/
theorem Rise.packed_of_later {stop start later : Nat} {fields : List FieldVal} (h : Rise stop later fields)
    (hle : start ≤ later) : packed stop start fields = le (later - start) 0 ++ packed stop later fields := by
  have hgap : ∀ {n}, later ≤ n → le (n - start) 0 = le (later - start) 0 ++ le (n - later) 0 := fun {n} hn => by
    rw [← le_zero_add, show later - start + (n - later) = n - start by omega]
  cases fields with
  | nil => exact hgap h
  | cons f fields => rw [packed, packed, hgap h.1, List.append_assoc]

/-- Before its first field a layout is 0. -/
theorem Rise.fieldByte_before {stop start : Nat} {fields : List FieldVal} (h : Rise stop start fields) {i : Nat}
    (hi : i < start) : fieldByte fields i = 0 := by
  induction fields generalizing start with
  | nil => rfl
  | cons f fields ih =>
    obtain ⟨hstart, hrest⟩ := h
    rw [fieldByte_outside (.inl (by omega))]
    exact ih hrest (by omega)

theorem map_range'_zero {g : Nat → Byte} {start len : Nat} (h : ∀ i < len, g (start + i) = 0) :
    (List.range' start len).map g = le len 0 := by
  rw [List.range'_eq_map_range, List.map_map, le_zero_right, List.eq_replicate_iff]
  simpa using h

theorem Rise.map_fieldByte {stop start : Nat} {fields : List FieldVal} (h : Rise stop start fields) :
    (List.range' start (stop - start)).map (fieldByte fields) = packed stop start fields := by
  induction fields generalizing start with
  | nil => exact map_range'_zero fun i _ => fieldByte_nil _
  | cons f fields ih =>
    obtain ⟨hstart, hrest⟩ := h
    have hstop := hrest.start_le
    have hlen : stop - start = (f.1 - start) + (f.2.1 + (stop - (f.1 + f.2.1))) := by omega
    have hgap : (List.range' start (f.1 - start)).map (fieldByte (f :: fields)) = le (f.1 - start) 0 :=
      map_range'_zero fun i hi => by
        rw [fieldByte_outside (.inl (by omega))]
        exact hrest.fieldByte_before (by omega)
    have hfield : (List.range' f.1 f.2.1).map (fieldByte (f :: fields)) = le f.2.1 f.2.2 := by
      rw [List.range'_eq_map_range, List.map_map]
      exact List.map_congr_left fun i hi => fieldByte_inside (List.mem_range.1 hi)
    have hafter : (List.range' (f.1 + f.2.1) (stop - (f.1 + f.2.1))).map (fieldByte (f :: fields)) =
        packed stop (f.1 + f.2.1) fields := by
      rw [← ih hrest]
      exact List.map_congr_left fun i hi => fieldByte_outside (.inr (List.mem_range'_1.1 hi).1)
    rw [hlen, ← List.range'_append_1, Nat.add_sub_cancel' hstart, ← List.range'_append_1, List.map_append,
      List.map_append, hgap, hfield, hafter, packed]

/-- The bytes of a record whose fields rise (R199, R203). -/
theorem layoutBytes_eq_packed {n : Nat} {fields : List FieldVal} (h : Rise n 0 fields) :
    layoutBytes n fields = packed n 0 fields := by
  rw [layoutBytes_eq_map, ← h.map_fieldByte, Nat.sub_zero]

end Sys2Proof.Machine
end

section
/-! PROOFS. O33: the bytes of the records the part writes. -/

set_option Elab.async false

namespace Sys2Proof.Machine

/-! ### Flags and codes -/

theorem bit_eq (b : Bool) : bit b = if b then 1 else 0 := rfl

theorem mul_bit (k : Nat) (b : Bool) : k * bit b = if b then k else 0 := by
  cases b <;> simp [bit]

/-! ### Completion records (10.4) -/

theorem requestDone_bytes (p : Bool) (d : ReqDone) : (Record.requestDone d).bytes p =
    le 1 (1 + if p then 0x80 else 0) ++ le 1 d.status.code ++ le 2 d.consumed.toNat ++ le 4 d.tag.toNat ++ le 4 d.value ++
      le 4 d.frame.toNat := by
  rw [Record.bytes, layoutBytes_eq_packed (by simp [Rise, recordHead])]
  simp [packed, recordHead, le_zero_right, mul_bit]

theorem bufferDone_bytes (p : Bool) (c : ChanId) (i : Nat) (st : DescStatus) (k : BitVec 64) :
    (Record.bufferDone c i st k).bytes p =
      le 1 (2 + if p then 0x80 else 0) ++ le 1 st.code ++ le 1 c.val ++ le 1 0 ++ le 2 i ++ le 2 0 ++ le 8 k.toNat := by
  rw [Record.bytes, layoutBytes_eq_packed (by simp [Rise, recordHead])]
  simp [packed, recordHead, le_zero_right, mul_bit]

theorem overflow_bytes (p : Bool) (m : Nat) (f : Word32) : (Record.overflow m f).bytes p =
    le 1 (4 + if p then 0x80 else 0) ++ le 3 0 ++ le 2 m ++ le 2 0 ++ le 4 f.toNat ++ le 4 0 := by
  rw [Record.bytes, layoutBytes_eq_packed (by simp [Rise, recordHead])]
  simp [packed, recordHead, le_zero_right, mul_bit]

/-- The bytes of an event between a record's head and its frame number: kind, subject, sub-kind and detail. -/
def eventBytes : Event → List Byte
  | .hwyLost h => le 1 1 ++ le 1 h.val ++ le 2 0
  | .hwyRecovered h => le 1 2 ++ le 1 h.val ++ le 2 0
  | .hwySlip h => le 1 3 ++ le 1 h.val ++ le 2 0
  | .chanStarved c => le 1 4 ++ le 1 c.val ++ le 2 0
  | .chanFault c (.operation k timeout) => le 1 5 ++ le 1 c.val ++ le 1 0 ++
      le 1 ((match k with | .descriptorRead => 1 | .dataRead => 2 | .dataWrite => 3 | .writeBack => 4) +
        if timeout then 8 else 0)
  | .chanFault c .deviceHalted => le 1 5 ++ le 1 c.val ++ le 1 0 ++ le 1 5
  | .chanClosed c memoryError => le 1 6 ++ le 1 c.val ++ le 1 0 ++ le 1 (if memoryError then 1 else 0)
  | .timing (.candidateFailed src k) => le 1 7 ++ le 1 src.code ++ le 1 1 ++
      le 1 (match k with | .loss => 1 | .drift => 2)
  | .timing (.candidateGood src) => le 1 7 ++ le 1 src.code ++ le 1 2 ++ le 1 0
  | .timing (.selectAcquiring src) => le 1 7 ++ le 1 src.code ++ le 1 3 ++ le 1 0
  | .timing (.selectLocked src) => le 1 7 ++ le 1 src.code ++ le 1 4 ++ le 1 0
  | .timing .selectHoldover => le 1 7 ++ le 1 0 ++ le 1 5 ++ le 1 0
  | .timing .selectFreerun => le 1 7 ++ le 1 0 ++ le 1 6 ++ le 1 0

theorem eventCodes_bytes (e : Event) :
    le 1 e.codes.1 ++ (le 1 e.codes.2.1 ++ (le 1 e.codes.2.2.1 ++ le 1 e.codes.2.2.2)) = eventBytes e := by
  cases e with
  | chanFault c cause =>
    cases cause with
    | operation k timeout => cases k <;> cases timeout <;> rfl
    | deviceHalted => rfl
  | timing e => cases e <;> rfl
  | _ => simp [Event.codes, eventBytes, bit_eq, le_zero_right]

theorem event_bytes (p : Bool) (e : Event) (f : Word32) : (Record.event e f).bytes p =
    le 1 (3 + if p then 0x80 else 0) ++ eventBytes e ++ le 3 0 ++ le 4 f.toNat ++ le 4 0 := by
  rw [Record.bytes, layoutBytes_eq_packed (by simp [Rise, recordHead]), ← eventCodes_bytes]
  simp [packed, recordHead, le_zero_right, mul_bit]

/-- A write-back (10.5). -/
theorem writeBack_bytes (e : WbEntry) : e.bytes = le 1 (if e.desc.notify then 2 else 0) ++ le 1 e.status.code ++
    le 1 ((if e.late then 1 else 0) + if e.sourceLost then 2 else 0) ++ le 1 0 ++ le 4 e.actual ++
      le 4 e.firstFrame.toNat := by
  rw [WbEntry.bytes, layoutBytes_eq_packed (by simp [Rise])]
  simp [packed, le_zero_right, bit_eq]

/-! ### QHWY and QCHAN (10.6) -/

theorem Align.code_eq (a : Align) :
    a.code = match a with | .disabled => 0 | .searching => 1 | .aligned => 2 | .lost => 3 := rfl

theorem bit_hwyEnabled (s : State) (h : HwyId) : bit (s.hwyEnabled h) = if s.hwys[h].align = .disabled then 0 else 1 := by
  simp [bit, State.hwyEnabled, Highway.enabled]

theorem bit_isSome {α : Type} [DecidableEq α] (o : Option α) : bit o.isSome = if o = none then 0 else 1 := by
  cases o <;> rfl

theorem budgetUsed_eq (hs : Vector Highway 16) : budgetUsed hs =
    ((List.finRange 16).map fun g => if hs[g].align = .disabled then 0 else hs[g].slotCount).sum := by
  simp [budgetUsed, Highway.enabled]

theorem qhwyBytes_eq (s : State) (h : HwyId) : qhwyBytes s h =
    (let p := s.hwys[h]
     le 1 h.val ++ le 1 (if p.align = .disabled then 0 else 1) ++ le 1 p.slotCount ++
       le 1 (match p.align with | .disabled => 0 | .searching => 1 | .aligned => 2 | .lost => 3) ++
       le 4 s.tim.counter.toNat ++ le 1 p.subst.toNat ++ le 1 p.idle.toNat ++ le 1 p.correctRun ++ le 1 p.misRun ++
       le 1 p.silence ++ le 1 p.age ++ le 1 p.unread.length ++
       le 1 ((if p.last = none then 0 else 1) + if p.latch then 2 else 0) ++ le 2 p.deletes ++ le 2 p.repeats ++
       le 2 p.misframes ++
       le 2 ((List.finRange 16).map fun g =>
         if s.hwys[g].align = .disabled then 0 else s.hwys[g].slotCount).sum ++ le 40 0) := by
  rw [← budgetUsed_eq, qhwyBytes, layoutBytes_eq_packed (by simp [Rise])]
  simp only [bit_hwyEnabled, bit_isSome, mul_bit, Align.code_eq]
  simp [packed, le_zero_right, State.now]

/-- The operations of a channel in flight under a mark, as QCHAN counts them. -/
theorem State.opCount_eq (s : State) (c : ChanId) (m : OpMark) :
    s.opCount c m = (s.link.ops.filter fun o => o.kind.chan? = some c ∧ o.mark = m).length := by
  rw [State.opCount, List.countP_eq_length_filter]
  refine congrArg List.length (List.filter_congr fun o _ => ?_)
  rw [Bool.eq_iff_iff]
  simp

theorem entryCode_eq (e : Option ChanEntry) : entryCode e =
    match e with
    | none => 0 | some (.openEntry _) => 1 | some .closeEntry => 2 | some (.reslotEntry _ _) => 3 := by
  unfold entryCode
  split <;> rfl

theorem lookaheadCode_eq (l : Option Lookahead) : lookaheadCode l =
    match l with
    | none => 0 | some { index := _, owned := none } => 1 | some { index := _, owned := some _ } => 2 := by
  rcases l with _ | ⟨_, _ | _⟩ <;> rfl

theorem causeCode_eq (k : Option FaultCause) : causeCode k =
    match k with
    | none => 0
    | some .deviceHalted => 5
    | some (.operation k timeout) =>
      (match k with | .descriptorRead => 1 | .dataRead => 2 | .dataWrite => 3 | .writeBack => 4) +
        if timeout then 8 else 0 := by
  rcases k with _ | ⟨k, timeout⟩ | _
  · rfl
  · cases k <;> cases timeout <;> rfl
  · rfl

theorem qchanBytes_eq (s : State) (c : ChanId) : qchanBytes s c =
    (let ch := s.chans[c]
     let inFlight (m : OpMark) : Nat := (s.link.ops.filter fun o => o.kind.chan? = some c ∧ o.mark = m).length
     let cur (f : Current → Nat) : Nat := match ch.current with | some k => f k | none => 0
     le 1 (c.val + if ch.dir = .tx then 0x80 else 0) ++
       le 1 ((match ch.st with
           | .closed => 0 | .priming => 1 | .running => 2 | .starved => 3 | .closing => 4 | .faulted => 5) +
         8 * (match lookupKey c s.mc.entries with
           | none => 0 | some (.openEntry _) => 1 | some .closeEntry => 2 | some (.reslotEntry _ _) => 3) +
         32 * (match ch.lookahead with
           | none => 0 | some { index := _, owned := none } => 1 | some { index := _, owned := some _ } => 2)) ++
       le 1 ((if ch.current = none then 0 else 1) + 2 * cur (fun k => if k.late then 1 else 0) +
         4 * cur (fun k => if k.sourceLost then 1 else 0) + 8 * (if ch.latch then 1 else 0) +
         16 * (match ch.cause with
           | none => 0
           | some .deviceHalted => 5
           | some (.operation k timeout) =>
             (match k with | .descriptorRead => 1 | .dataRead => 2 | .dataWrite => 3 | .writeBack => 4) +
               if timeout then 8 else 0)) ++
       le 1 (ch.hwy.val + 16 * ch.complRing.val) ++ le 4 s.tim.counter.toNat ++ le 1 ch.idle.toNat ++
       le 1 (min 15 (inFlight .live) + 16 * min 15 (inFlight .stale)) ++
       le 2 (min 1023 ch.queue.length + 1024 * ch.slots.length) ++ le 2 ch.ringSize ++ le 2 ch.pos ++
       le 2 (cur fun k => k.desc.index) ++ le 2 (cur fun k => k.desc.frames) ++ le 2 (cur fun k => k.moved) ++
       le 2 (match ch.lookahead with | some l => l.index | none => 0) ++ le 4 ch.starved ++ le 4 ch.late ++
       (List.range 32).map fun k => BitVec.ofNat 8 (ch.slots.getD k 0)) := by
  have hcur : ∀ f, curField f s.chans[c].current = match s.chans[c].current with | some k => f k | none => 0 := fun f => by
    cases s.chans[c].current <;> rfl
  rw [qchanBytes, qchanFields, layoutBytes_eq_packed (by simp [Rise])]
  simp only [← entryCode_eq, ← lookaheadCode_eq, ← causeCode_eq, ← State.opCount_eq, ← hcur]
  simp [packed, le_zero_right, State.now, bit_isSome, mul_bit] <;> rfl

/-! ### QSLOT (10.6) -/

/-- A driver in a QSLOT result: its kind and its parameters A and B. -/
def driverBytes : Driver → List Byte
  | .none => le 3 0
  | .connection g k => le 1 1 ++ le 1 g.val ++ le 1 k
  | .constant b => le 1 2 ++ le 1 b.toNat ++ le 1 0
  | .channel c => le 1 3 ++ le 1 c.val ++ le 1 0

theorem driverCodes_bytes (d : Driver) : le 1 d.codes.1 ++ (le 1 d.codes.2.1 ++ le 1 d.codes.2.2) = driverBytes d := by
  cases d <;> simp [Driver.codes, driverBytes, le_zero_right]

theorem qslotBytes_eq (s : State) (h : HwyId) (n : Nat) : qslotBytes s h n =
    le 1 h.val ++ le 1 n ++
      le 1 (match (s.prospective none h n).2 with | .target => 1 | .claim => 2 | .release => 3 | .active => 4) ++
      le 1 0 ++ le 4 s.tim.counter.toNat ++ driverBytes ((s.map[h][n]?).getD .none) ++ le 1 0 ++
      driverBytes (s.prospective none h n).1 ++ le 1 0 ++ le 2 (entryCount s) ++ le 46 0 := by
  rw [qslotBytes, layoutBytes_eq_packed (by simp [Rise]), ← driverCodes_bytes, ← driverCodes_bytes]
  simp [packed, le_zero_right, State.now] <;> rfl

/-! ### QTIME (10.6) -/

/-- A candidate in the STATE view. -/
def candBytes (c : Cand) : List Byte :=
  le 1 (c.src.code + 64 * (match c.st with | .failed => 1 | .qualifying => 2 | .qualified => 3)) ++
    le 1 ((match c.src with | .hwy _ => 0 | .ref _ => c.gap) + (if c.drift then 4 else 0) +
      if c.window = none then 0 else 8) ++
    le 2 (c.window.elim 0 Window.events) ++ le 2 (c.window.elim 0 Window.arrivals) ++ le 3 c.qualCount ++ le 3 c.qualTime

/-- The fields of the candidates from an offset on. -/
def candsFields (off : Nat) (cs : List Cand) : List FieldVal :=
  (cs.mapIdx fun k c => candFields (off + 12 * k) c).flatten

theorem candsFields_cons (off : Nat) (c : Cand) (cs : List Cand) :
    candsFields off (c :: cs) = candFields off c ++ candsFields (off + 12) cs := by
  simp [candsFields, List.mapIdx_cons, Nat.mul_add, Nat.add_assoc, Nat.add_comm 12]

theorem candFields_packed (stop off : Nat) (c : Cand) (rest : List FieldVal) :
    packed stop off (candFields off c ++ rest) = candBytes c ++ packed stop (off + 12) rest := by
  have hwindow : ∀ w : Option Window, (w.getD { events := 0, arrivals := 0 }).events = w.elim 0 Window.events ∧
      (w.getD { events := 0, arrivals := 0 }).arrivals = w.elim 0 Window.arrivals := fun w => by
    cases w <;> exact ⟨rfl, rfl⟩
  simp [candFields, candBytes, packed, hwindow, le_zero_right, mul_bit, bit_isSome, Nat.add_assoc] <;> rfl

theorem candsFields_rise {stop off : Nat} {cs : List Cand} (h : off + 12 * cs.length ≤ stop) :
    Rise stop off (candsFields off cs) := by
  induction cs generalizing off with
  | nil => simpa [candsFields, Rise] using h
  | cons c cs ih =>
    have hrest := ih (off := off + 12) (by simp only [List.length_cons] at h; omega)
    rw [candsFields_cons]
    simpa [candFields, Rise, Nat.add_assoc] using hrest

theorem candsFields_packed (stop off : Nat) (cs : List Cand) :
    packed stop off (candsFields off cs) = cs.flatMap candBytes ++ le (stop - (off + 12 * cs.length)) 0 := by
  induction cs generalizing off with
  | nil => rfl
  | cons c cs ih =>
    rw [candsFields_cons, candFields_packed, ih, List.flatMap_cons, List.append_assoc, List.length_cons, Nat.add_assoc,
      Nat.mul_succ, Nat.add_comm 12]

theorem qtimeStateBytes_eq {t : Timing} (h : t.cands.length ≤ 4) : qtimeStateBytes t =
    (let source (sel : Selector) : Nat := match sel with
       | .freerun => 0 | .acquiring src => src.code | .locked src => src.code | .holdover => 0
     (le 1 1 ++ le 1 (match t.sel with | .freerun => 0 | .acquiring _ => 1 | .locked _ => 2 | .holdover => 3) ++
       le 1 (source t.sel) ++ le 1 (t.cands.length + if t.valid then 0x80 else 0) ++ le 4 t.counter.toNat ++
       le 2 t.acquire ++ le 2 t.lockedRun ++ le 4 t.elapsed ++ t.cands.flatMap candBytes ++
       le (12 * (4 - t.cands.length)) 0)) := by
  have hrise := candsFields_rise (stop := 64) (off := 16) (cs := t.cands) (by omega)
  have hpacked := candsFields_packed 64 16 t.cands
  have hrest : 64 - (16 + 12 * t.cands.length) = 12 * (4 - t.cands.length) := by omega
  have hsel : t.sel.codes = (match t.sel with | .freerun => 0 | .acquiring _ => 1 | .locked _ => 2 | .holdover => 3,
      match t.sel with | .freerun => 0 | .acquiring src => src.code | .locked src => src.code | .holdover => 0) := by
    cases t.sel <;> rfl
  have hfields : qtimeStateBytes t = layoutBytes 64 (_ ++ candsFields 16 t.cands) := rfl
  rw [hfields, layoutBytes_eq_packed (by simpa [Rise] using hrise), hsel]
  simp [packed, hpacked, hrest, le_zero_right, mul_bit]

/-- The source codes of the candidates from an offset on. -/
def codeFields (off : Nat) (cs : List Cand) : List FieldVal := cs.mapIdx fun k c => (off + k, 1, c.src.code)

theorem codeFields_cons (off : Nat) (c : Cand) (cs : List Cand) :
    codeFields off (c :: cs) = (off, 1, c.src.code) :: codeFields (off + 1) cs := by
  simp [codeFields, List.mapIdx_cons, Nat.add_assoc, Nat.add_comm 1]

theorem codeFields_rise {stop off : Nat} {cs : List Cand} (h : off + cs.length ≤ stop) :
    Rise stop off (codeFields off cs) := by
  induction cs generalizing off with
  | nil => simpa [codeFields, Rise] using h
  | cons c cs ih =>
    rw [codeFields_cons]
    exact ⟨le_rfl, ih (by rw [List.length_cons] at h; dsimp only; omega)⟩

theorem codeFields_packed (stop off : Nat) (cs : List Cand) :
    packed stop off (codeFields off cs) = (cs.flatMap fun c => le 1 c.src.code) ++ le (stop - (off + cs.length)) 0 := by
  induction cs generalizing off with
  | nil => rfl
  | cons c cs ih =>
    rw [codeFields_cons, packed, ih, List.flatMap_cons, List.append_assoc, List.length_cons, Nat.add_assoc, Nat.add_comm 1,
      Nat.sub_self]
    rfl

theorem qtimeConfigBytes_eq {t : Timing} (h : t.cands.length ≤ 4) : qtimeConfigBytes t =
    le 1 2 ++ le 1 t.cands.length ++ le 1 (if t.revertive then 1 else 0) ++ le 1 0 ++ le 4 t.counter.toNat ++
      le 1 t.qualifyTime ++ le 1 t.wtr ++ le 2 t.holdLimit ++ le 1 t.driftLimit ++
      (match t.exportSel with
       | .none => le 2 0
       | .device => le 1 1 ++ le 1 0
       | .source src => le 1 2 ++ le 1 src.code) ++ le 1 0 ++
      (t.cands.flatMap fun c => le 1 c.src.code) ++ le (48 - t.cands.length) 0 := by
  have hrise := codeFields_rise (stop := 64) (off := 16) (cs := t.cands) (by omega)
  have hpacked := (hrise.packed_of_later (Nat.le_succ 15)).trans
    (congrArg (le 1 0 ++ ·) (codeFields_packed 64 16 t.cands))
  have hrest : 64 - (16 + t.cands.length) = 48 - t.cands.length := by omega
  have hexport : (match t.exportSel with
       | .none => le 2 0
       | .device => le 1 1 ++ le 1 0
       | .source src => le 1 2 ++ le 1 src.code) = le 1 t.exportSel.codes.1 ++ le 1 t.exportSel.codes.2 := by
    cases t.exportSel <;> simp [ExportSel.codes, le_zero_right]
  have hfields : qtimeConfigBytes t = layoutBytes 64 (_ ++ codeFields 16 t.cands) := rfl
  rw [hfields, layoutBytes_eq_packed (by simpa [Rise] using hrise.of_later (Nat.le_succ 15)), hexport]
  simp [packed, hpacked, hrest, le_zero_right, bit_eq]

/-- Settles O33, record by record: the fields of each layout rise. -/
theorem recordLayouts : Obligations.RecordLayouts := by
  unfold Obligations.RecordLayouts
  exact ⟨requestDone_bytes, bufferDone_bytes, event_bytes, overflow_bytes, writeBack_bytes,
    ⟨rfl, rfl, fun _ => rfl, rfl, rfl⟩, qhwyBytes_eq, qchanBytes_eq, qslotBytes_eq,
    fun _ ht => ⟨qtimeStateBytes_eq ht, qtimeConfigBytes_eq ht⟩⟩

end Sys2Proof.Machine
end

section
/-! PROOFS. O55: what a step can do to the link interface: operations issued, ended and re-marked, messages sent. -/

set_option Elab.async false

namespace Sys2Proof.Machine

/-! ### The changes of the link interface -/

/-- The link interface has come from `l` by changes of its own kind: operations issued, ended (R195), made stale (R69,
R192) and dropped (R196), messages sent (R198), and power-on reset (R185). -/
inductive Link.From (l : Link) : Link → Prop
  | refl : Link.From l l
  | issue {m : Link} (h : Link.From l m) (k : OpKind) (a : Addr) (n : Nat) (d : List Byte) : Link.From l (m.issue k a n d)
  | ended {m : Link} (h : Link.From l m) (id : Nat) : Link.From l { m with ops := m.ops.filter fun o => o.id != id }
  | mark {m : Link} (h : Link.From l m) (x : OpMark) (p : OpKind → Bool) : Link.From l (m.mark x p)
  | drop {m : Link} (h : Link.From l m) : Link.From l m.drop
  | message {m : Link} (h : Link.From l m) (v : List Nat) : Link.From l { m with messages := m.messages ++ v }
  | powerOn : Link.From l .reset

/-- The operations in flight have identifiers of their own, all of them given out already: `LinkInv` as a predicate of the
link interface alone (R195). -/
abbrev Link.Ok (l : Link) : Prop := (l.ops.map Op.id).Nodup ∧ ∀ o ∈ l.ops, o.id < l.nextId

theorem linkInv_iff {s : State} : LinkInv s ↔ s.link.Ok := Iff.rfl

section Kept

variable {l : Link} (h : l.Ok)

include h

/-- The identifier of an operation issued is above those of all in flight. -/
theorem Link.Ok.issue (k : OpKind) (a : Addr) (n : Nat) (d : List Byte) : (l.issue k a n d).Ok := by
  obtain ⟨hnodup, hbelow⟩ := h
  refine ⟨?_, fun o ho => ?_⟩
  · have hnew : l.nextId ∉ l.ops.map Op.id := fun hmem => by
      obtain ⟨o, ho, hid⟩ := List.mem_map.1 hmem
      exact (hbelow o ho).ne hid
    simpa [Link.issue, List.nodup_append] using ⟨hnodup, fun o ho e => hnew (List.mem_map.2 ⟨o, ho, e⟩)⟩
  · rcases List.mem_append.1 ho with ho | ho
    · exact Nat.lt_succ_of_lt (hbelow o ho)
    · rw [List.mem_singleton.1 ho]
      exact Nat.lt_succ_self _

/-- Taking operations out of flight leaves the others' identifiers distinct. -/
theorem Link.Ok.filter (p : Op → Bool) : Link.Ok { l with ops := l.ops.filter p } :=
  ⟨h.1.sublist (List.filter_sublist.map Op.id), fun o ho => h.2 o (List.mem_of_mem_filter ho)⟩

/-- Changes of operations in place that keep their identifiers. -/
theorem Link.Ok.map {f : Op → Op} (hf : ∀ o, (f o).id = o.id) : Link.Ok { l with ops := l.ops.map f } := by
  refine ⟨?_, List.forall_mem_map.2 fun o ho => ?_⟩
  · rw [List.map_map, show Op.id ∘ f = Op.id from funext hf]
    exact h.1
  · rw [hf]
    exact h.2 o ho

/-- Every change of the link interface keeps its invariant. -/
theorem Link.From.ok {m : Link} (hm : Link.From l m) : m.Ok := by
  induction hm with
  | refl => exact h
  | issue _ k a n d ih => exact ih.issue k a n d
  | ended _ id ih => exact ih.filter _
  | mark _ x p ih => exact ih.map fun o => by split <;> rfl
  | drop _ ih => exact ih.map fun _ => rfl
  | message _ v ih => exact ih
  | powerOn => exact linkInv_reset

end Kept

section Shared

variable {l : Link} {s : State} (h : Link.From l s.link)

include h

/-- What leaves the link interface as it is. -/
theorem Link.From.of_link {t : State} (e : t.link = s.link) : Link.From l t.link := e ▸ h

/-! ### Records and the request processor -/

/-- At entry to HALTED everything in flight turns stale (R192). -/
theorem Link.From.halt (k : Cause) : Link.From l (s.halt k).link := h.mark .stale fun _ => true

theorem Link.From.notify (n : RingId) : Link.From l (s.notify n).link := by
  rw [State.notify_eq]
  exact h.message _

/-- A record's write, and its message (R164, R175). -/
theorem Link.From.place (n : RingId) (rec : Record) : Link.From l (s.place n rec).link := by
  by_cases hb : s.cfg.busMaster = true
  · rw [State.place_eq n rec s hb]
    exact (h.issue _ _ _ _).message _
  · have hset : Link.From l (s.setRing n (s.ring n).placed).link := h
    rw [show s.place n rec = (s.setRing n (s.ring n).placed).halt .completionWrite from if_neg hb]
    exact hset.halt _

theorem Link.From.offer (n : RingId) (rec : Record) : Link.From l (s.offer n rec).link := by
  unfold State.offer
  split_ifs
  · exact h
  · exact h.place n rec
  · exact h

theorem Link.From.fetch : Link.From l s.fetch.link := by
  unfold State.fetch
  split_ifs
  · exact h.issue _ _ _ _
  · exact h.halt _

theorem Link.From.procNext : Link.From l s.procNext.link := by
  unfold State.procNext
  split_ifs
  · exact h
  · exact h
  · exact h.fetch

theorem Link.From.placeDone (n : RingId) (d : ReqDone) : Link.From l (s.placeDone n d).link := by
  have hplaced := h.place n (.requestDone d)
  unfold State.placeDone
  dsimp only
  split_ifs
  · exact hplaced.procNext
  · exact hplaced

theorem Link.From.handDone (n : RingId) (d : ReqDone) : Link.From l (s.handDone n d).link := by
  have hmiss : Link.From l (s.miss n).link := h
  unfold State.handDone
  split_ifs
  · exact h
  · exact h.placeDone n d
  · exact hmiss.procNext
  · exact h

theorem Link.From.finishRequest (hand : Hand) (st : Status) (v : Nat) (f : Word32) :
    Link.From l (s.finishRequest hand st v f).link := h.handDone _ _

theorem Link.From.failRequest (hand : Hand) (st : Status) : Link.From l (s.failRequest hand st).link :=
  h.finishRequest hand st 0 0

theorem Link.From.takePosts (ps : List Post) : Link.From l (s.takePosts ps).link := by
  induction ps generalizing s with
  | nil => exact h
  | cons p ps ih =>
    refine ih ?_
    cases p with
    | record ring rec => exact h.offer _ rec
    | done hand st v f => exact h.finishRequest hand st v f

/-! ### Channels -/

theorem Link.From.issueReq (r : OpReq) : Link.From l (s.issueReq r).link := by
  cases r with
  | read k a n => exact h.issue k a n []
  | write k a d => exact h.issue k a d.length d

/-- A channel's step makes operations stale, and then issues its own (R69). -/
theorem Link.From.chanStep (c : ChanId) (o : ChanOut) : Link.From l (s.chanStep c o).link := by
  have hstale : Link.From l (s.link.staleChan c o.stales) := by
    unfold Link.staleChan
    split
    · exact h
    · exact h.mark _ _
    · exact h.mark _ _
  exact List.foldlRecOn (motive := fun t : State => Link.From l t.link) o.ops _ hstale fun _ ht r _ => ht.issueReq r

theorem Link.From.chanAct (c : ChanId) (o : ChanOut) : Link.From l (s.chanAct c o).1.link :=
  (h.chanStep c o).chanStep c _

theorem Link.From.actAll {α : Type} (key : α → ChanId) (out : α → Chan → ChanEnv → ChanOut) (as : List α) :
    Link.From l (actAll key out as s).link :=
  List.foldlRecOn (motive := fun t : State => Link.From l t.link) as _ h fun _ ht a _ => ht.chanAct (key a) _

theorem Link.From.chanEvent (c : ChanId) (o : ChanOut) : Link.From l (s.chanEvent c o).link :=
  (h.chanAct c o).takePosts _

theorem Link.From.chanStepIf (c : ChanId) (can : Chan → ChanEnv → Bool) (step : Chan → ChanEnv → ChanOut) :
    Link.From l (s.chanStepIf c can step).link := by
  unfold State.chanStepIf
  split_ifs
  · exact h.chanEvent c _
  · exact h

/-! ### Arrivals and the device frame event -/

theorem Link.From.withTiming (r : Timing × List TimOcc) : Link.From l (s.withTiming r).link := by
  have htim : Link.From l { s with tim := r.1 }.link := h
  exact htim.takePosts _

theorem Link.From.arrival (x : HwyId) (f : Frame) (since : Bool) : Link.From l (s.arrival x f since).link := by
  have hport : ∀ p, Link.From l (s.setHwy x p).link := fun _ => h
  unfold State.arrival
  split_ifs
  · exact ((hport _).takePosts _).withTiming _
  · exact h

theorem Link.From.changeHwy (x : HwyId) (r : ReqRecord) (k : HwyChange) : Link.From l (s.changeHwy x r k).link := by
  have hchanged : Link.From l { s with
      hwys := s.hwys.set x (s.hwys[x].change r k)
      map := s.map.set x (changeDrivers (reqByte r 0x0A) s.map[x] k) }.link := h
  unfold State.changeHwy
  dsimp only
  split_ifs
  · exact hchanged.withTiming _
  · exact hchanged

theorem Link.From.beginEvent : Link.From l s.beginEvent.link := by
  unfold State.beginEvent
  dsimp only
  split_ifs
  · have hcleared : Link.From l s.advanceCounter.stopCleared.link := h
    rw [State.stopClear_eq]
    exact hcleared.actAll _ _ _
  · exact h

/-- The channel entries of an apply issue operations and make them stale (R34 to R36). -/
theorem Link.From.applied (o : FrameOrder) : Link.From l (s.applied o).link := by
  unfold State.applied
  split_ifs
  · have hswitched : Link.From l { s.ticked o with map := (s.ticked o).prospectiveMap }.link := h
    rw [State.applySet_link, State.applyEntries_eq]
    exact hswitched.actAll _ _ _
  · exact h

theorem Link.From.frameEvent (o : FrameOrder) : Link.From l (s.frameEvent o).link := by
  have hsent : Link.From l (s.beginEvent.switched o).link := h.beginEvent.applied o
  have hmoved : Link.From l (s.beginEvent.moved o).1.link := by
    rw [State.moved, State.moveChans_eq]
    exact hsent.actAll _ _ _
  rw [State.frameEvent, State.runEvent_eq]
  exact hmoved.takePosts _

theorem Link.From.eventIf (due : Bool) (o : FrameOrder) : Link.From l (s.eventIf due o).link := by
  unfold State.eventIf
  split_ifs
  · exact h.frameEvent o
  · exact h

end Shared

end Sys2Proof.Machine
end

section
/-! PROOFS. O55: the link interface through the requests and the registers. -/

set_option Elab.async false

namespace Sys2Proof.Machine

section Requests

variable {l : Link} {s : State} (h : Link.From l s.link)

include h

/-! ### The meanings of the requests -/

/-- A staging request that has changed the set (R30, R38). -/
theorem Link.From.stagingDone (hand : Hand) (immediate : Bool) (st : Status) :
    Link.From l (s.stagingDone hand immediate st).link := by
  unfold State.stagingDone
  split_ifs
  · exact h
  · exact h.finishRequest hand st _ _

/-- A query that has taken its snapshot issues its result write (R152). -/
theorem Link.From.writeResult (r : ReqRecord) (hand : Hand) (bytes : List Byte) :
    Link.From l (s.writeResult r hand bytes).link := by
  unfold State.writeResult
  split_ifs
  · exact h.issue _ _ _ _
  · exact h.failRequest hand _

/-- A staging request is refused by its checks, or changes the set and is done. -/
theorem Link.From.stagesUnless (check : Option Status) {t : State} (e : t.link = s.link) (hand : Hand) (immediate : Bool)
    (st : Status) :
    Link.From l (match check with
      | some refusal => s.failRequest hand refusal
      | none => t.stagingDone hand immediate st).link := by
  cases check with
  | some refusal => exact h.failRequest hand refusal
  | none => exact (h.of_link e).stagingDone hand immediate st

variable (r : ReqRecord) (hand : Hand)

theorem Link.From.nopBody : Link.From l (nopBody r hand s).link := by
  unfold Machine.nopBody
  split_ifs
  · exact h.finishRequest hand _ _ _
  · exact h.failRequest hand _

theorem Link.From.sethwyBody : Link.From l (sethwyBody r hand s).link := by
  unfold Machine.sethwyBody
  dsimp only
  split_ifs
  · split
    · exact h.failRequest hand _
    · exact (h.changeHwy _ r _).finishRequest hand _ _ _
  · exact h.failRequest hand _

theorem Link.From.connectBody : Link.From l (connectBody r hand s).link := by
  unfold Machine.connectBody
  split_ifs
  · exact h.stagesUnless _ (State.stageTarget_link _ _ _ s) hand _ _
  · exact h.failRequest hand _

theorem Link.From.disconnectBody : Link.From l (disconnectBody r hand s).link := by
  unfold Machine.disconnectBody
  split_ifs
  · exact h.stagesUnless _ (State.stageTarget_link _ _ _ s) hand _ _
  · exact h.failRequest hand _

theorem Link.From.openBody : Link.From l (openBody r hand s).link := by
  unfold Machine.openBody
  split_ifs
  · exact h.stagesUnless _ (State.stageSlots_link _ _ _ _ _ s) hand _ _
  · exact h.failRequest hand _

theorem Link.From.closeChan (c : ChanId) (immediate : Bool) : Link.From l (s.closeChan c hand immediate).link := by
  have hstage : ∀ e, Link.From l (s.stageChan c e).link := fun _ => h
  have herased : Link.From l { s with mc := { s.mc with entries := eraseKey c s.mc.entries } }.link := h
  unfold State.closeChan
  split
  · exact herased.stagingDone hand _ _
  · exact (hstage _).stagingDone hand _ _
  · exact h.failRequest hand _
  · split_ifs
    · exact h.stagesUnless _ (State.stageChan_link c _ s) hand _ _
    · exact h.failRequest hand _

theorem Link.From.closeBody : Link.From l (closeBody r hand s).link := by
  unfold Machine.closeBody
  split_ifs
  · exact h.closeChan hand _ _
  · exact h.failRequest hand _

theorem Link.From.reslotChan (c : ChanId) (x : HwyId) (slots : List Nat) (immediate : Bool) :
    Link.From l (s.reslotChan c x slots hand immediate).link := by
  unfold State.reslotChan
  split
  · exact h.stagesUnless _ (State.stageSlots_link _ _ _ _ _ s) hand _ _
  · exact h.stagesUnless _ (State.stageSlots_link _ _ _ _ _ s) hand _ _
  · exact h.failRequest hand _
  · split
    · exact h.failRequest hand _
    · exact h.failRequest hand _
    · exact h.failRequest hand _
    all_goals exact h.stagesUnless _ (State.stageSlots_link _ _ _ _ _ s) hand _ _

theorem Link.From.reslotBody : Link.From l (reslotBody r hand s).link := by
  unfold Machine.reslotBody
  split_ifs
  · exact h.reslotChan hand _ _ _ _
  · exact h.failRequest hand _

theorem Link.From.commitBody : Link.From l (commitBody r hand s).link := by
  unfold Machine.commitBody
  split_ifs
  · exact h.finishRequest hand _ _ _
  · exact h
  · exact h.failRequest hand _

theorem Link.From.discardBody : Link.From l (discardBody r hand s).link := by
  have hempty : Link.From l { s with mc := s.mc.emptied }.link := h
  unfold Machine.discardBody
  split_ifs
  · exact hempty.finishRequest hand _ _ _
  · exact h.failRequest hand _

theorem Link.From.setrefBody : Link.From l (setrefBody r hand s).link := by
  unfold Machine.setrefBody
  split_ifs
  · exact (h.withTiming _).finishRequest hand _ _ _
  · exact h.failRequest hand _

theorem Link.From.qhwyBody : Link.From l (qhwyBody r hand s).link := by
  have hcleared : ∀ x p, Link.From l (s.setHwy x p).link := fun _ _ => h
  unfold Machine.qhwyBody
  dsimp only
  split_ifs
  · exact (hcleared _ _).writeResult r hand _
  · exact h.writeResult r hand _
  · exact h.failRequest hand _

theorem Link.From.qchanBody : Link.From l (qchanBody r hand s).link := by
  have hcleared : ∀ c ch, Link.From l (s.setChan c ch).link := fun _ _ => h
  unfold Machine.qchanBody
  dsimp only
  split_ifs
  · exact (hcleared _ _).writeResult r hand _
  · exact h.writeResult r hand _
  · exact h.failRequest hand _

theorem Link.From.qslotBody : Link.From l (qslotBody r hand s).link := by
  unfold Machine.qslotBody
  split_ifs
  · split
    · exact h.failRequest hand _
    · exact h.writeResult r hand _
  · exact h.failRequest hand _

theorem Link.From.qtimeBody : Link.From l (qtimeBody r hand s).link := by
  unfold Machine.qtimeBody
  split_ifs
  · exact h.writeResult r hand _
  · exact h.writeResult r hand _
  · exact h.failRequest hand _

/-! ### The end of a fetch -/

theorem Link.From.fetched {t : State} (hfetched : s.fetched = some t) : Link.From l t.link := by
  unfold State.fetched at hfetched
  split at hfetched
  · split_ifs at hfetched
    rw [← Option.some.inj hfetched]
    exact h.ended _
  · cases hfetched

/-- A fetched request: its fetch has ended, and its kind's own meaning follows. -/
theorem Link.From.request {body : ReqRecord → Hand → State → State}
    (hbody : ∀ {u : State}, Link.From l u.link → ∀ r hand, Link.From l (body r hand u).link) :
    Link.From l (s.request r body).link := by
  unfold State.request
  split
  · exact h
  · next hfetched =>
    split_ifs
    · exact hbody (h.fetched hfetched) _ _
    · exact (h.fetched hfetched).failRequest _ _

theorem Link.From.unknownKind (k : Byte) : Link.From l (s.unknownKind k r).link := by
  unfold State.unknownKind
  split_ifs
  · exact h
  · split
    · exact h
    · next hfetched => exact (h.fetched hfetched).failRequest _ _

end Requests

section Registers

variable {l : Link} {s : State} (h : Link.From l s.link)

include h

/-! ### The registers -/

/-- START issues the setup read, or takes its error at once (R187, R195). -/
theorem Link.From.startRule : Link.From l s.startRule.link := by
  unfold State.startRule
  dsimp only
  split_ifs
  · exact h
  · exact h.issue _ _ _ _
  · exact h.of_link (State.startFails_link _ _)
  · exact h

theorem Link.From.regWrite (legal v : Word32) {rule : State → State} (hrule : Link.From l (rule s).link) :
    Link.From l (s.regWrite legal v rule).link := by
  unfold State.regWrite
  split_ifs
  · exact h
  · exact h
  · exact hrule

theorem Link.From.setupWrite (high : Bool) (v : Word32) : Link.From l (s.setupWrite high v).link := by
  refine h.regWrite _ _ ?_
  unfold State.setupRule
  split_ifs <;> exact h

theorem Link.From.fetchStep : Link.From l s.fetchStep.link := by
  unfold State.fetchStep
  split_ifs
  · exact h.fetch
  · exact h

theorem Link.From.tailWrite (v : Word32) : Link.From l (s.tailWrite v).link := by
  have htail : ∀ x, Link.From l { s with proc := { s.proc with tail := x } }.link := fun _ => h
  refine h.regWrite _ _ ?_
  unfold State.tailRule
  split_ifs
  · exact h
  · exact h
  · exact (htail _).fetchStep

theorem Link.From.placeOverflow (n : RingId) : Link.From l (s.placeOverflow n).link := by
  have hring : ∀ r, Link.From l (s.setRing n r).link := fun _ => h
  unfold State.placeOverflow
  split_ifs
  · exact (hring _).place n _
  · exact h

theorem Link.From.placeHeld (n : RingId) : Link.From l (s.placeHeld n).link := by
  have hring : ∀ r, Link.From l (s.setRing n r).link := fun _ => h
  unfold State.placeHeld
  split
  · split_ifs
    · exact h
    · exact (hring _).placeDone n _
  · exact h

theorem Link.From.overflowStep (n : RingId) : Link.From l (s.overflowStep n).link := by
  unfold State.overflowStep
  split_ifs
  · exact h.placeOverflow n
  · exact h

theorem Link.From.heldStep (n : RingId) : Link.From l (s.heldStep n).link := by
  unfold State.heldStep
  split_ifs
  · exact h.placeHeld n
  · exact h

theorem Link.From.judgeArm (n : RingId) : Link.From l (s.judgeArm n).link := by
  have hring : ∀ r, Link.From l (s.setRing n r).link := fun _ => h
  unfold State.judgeArm
  split_ifs
  · exact h
  · exact (hring _).notify n

theorem Link.From.takeHead (n : RingId) (v : Word32) : Link.From l (s.takeHead n v).link := by
  have hhead : Link.From l (s.setRing n ((s.ring n).headAt v)).link := h
  have htaken : Link.From l (s.headTaken n v).link := by
    unfold State.headTaken
    split_ifs
    · exact hhead
    · exact (hhead.placeOverflow n).placeHeld n
  rw [State.takeHead_eq]
  split_ifs
  · exact htaken.judgeArm n
  · exact htaken

theorem Link.From.ringHeadWrite (n : RingId) (v : Word32) : Link.From l (s.ringHeadWrite n v).link := by
  refine h.regWrite _ _ ?_
  unfold State.headRule
  split_ifs
  · exact h
  · exact h
  · exact h.takeHead n v

theorem Link.From.controlWrite (v : Word32) : Link.From l (s.controlWrite v).link := by
  unfold State.controlWrite
  split_ifs
  · exact h.startRule
  · exact h.of_link s.stopRule_link
  · exact h.drop
  · exact h

theorem Link.From.windowWrite (offset len : Nat) (v : Word32) : Link.From l (s.windowWrite offset len v).link := by
  unfold State.windowWrite
  split_ifs
  · exact h
  · exact h
  · exact h
  · exact h
  · exact h.controlWrite v
  · exact h.setupWrite false v
  · exact h.setupWrite true v
  · exact h.tailWrite v
  · exact h.ringHeadWrite _ v

end Registers

end Sys2Proof.Machine
end

section
/-! PROOFS. O55: the ends of host memory operations, every step, and the invariant of the link interface. -/

set_option Elab.async false

namespace Sys2Proof.Machine

section Steps

variable {l : Link} {s : State} (h : Link.From l s.link)

include h

/-! ### The ends of host memory operations -/

theorem Link.From.endOp (id : Nat) : Link.From l (s.endOp id).link := h.ended id

theorem Link.From.resultEnd (accepted : Bool) : Link.From l (s.resultEnd accepted).link := by
  unfold State.resultEnd
  split
  · split_ifs
    · exact h.finishRequest _ _ _ _
    · exact h.failRequest _ _
  · exact h

theorem Link.From.fails (k : OpKind) (timeout : Bool) : Link.From l (s.fails k timeout).link := by
  cases k with
  | setupRead => exact h.of_link (State.startFails_link _ s)
  | requestFetch => exact h.halt _
  | resultWrite => exact h.resultEnd false
  | recordWrite n => exact h.halt _
  | descRead c i => exact h.chanEvent c _
  | dataRead c i => exact h.chanEvent c _
  | dataWrite c i => exact h.chanEvent c _
  | writeBack c e f => exact h.chanEvent c _
  | flushRead c i => exact h.chanEvent c _

theorem Link.From.discarded (o : Op) : Link.From l (s.discarded o).link := by
  unfold State.discarded
  split
  · exact (h.chanStep _ _).takePosts _
  all_goals exact h

theorem Link.From.failOp (id : Nat) (timeout : Bool) : Link.From l (s.failOp id timeout).link := by
  unfold State.failOp
  split
  · split
    · exact (h.endOp id).fails _ timeout
    · exact (h.endOp id).discarded _
    · exact (h.endOp id).discarded _
  · exact h

theorem Link.From.staleEnd (id : Nat) : Link.From l (s.staleEnd id).link := by
  unfold State.staleEnd
  split
  · split
    · exact h
    · exact (h.endOp id).discarded _
    · exact (h.endOp id).discarded _
  · exact h

theorem Link.From.fetchFails (timeout : Bool) : Link.From l (s.fetchFails timeout).link := by
  unfold State.fetchFails
  split
  · exact h.failOp _ _
  · exact h

/-- An end of a read: its data are taken by `t`, an error or a timeout by the issuer (R195). -/
theorem Link.From.readEnd (e : ReadEnd) (id : Nat) {t : List Byte → State} (ht : ∀ bytes, Link.From l (t bytes).link) :
    Link.From l (match e with
      | .data bytes => t bytes
      | .error => s.failOp id false
      | .timeout => s.failOp id true).link := by
  cases e with
  | data bytes => exact ht bytes
  | error => exact h.failOp _ _
  | timeout => exact h.failOp _ _

/-- An end of a write: its acceptance is taken by `t`, an error or a timeout by the issuer (R195). -/
theorem Link.From.writeEnd (e : WriteEnd) (id : Nat) {t : State} (ht : Link.From l t.link) :
    Link.From l (match e with
      | .accepted => t
      | .error => s.failOp id false
      | .timeout => s.failOp id true).link := by
  cases e with
  | accepted => exact ht
  | error => exact h.failOp _ _
  | timeout => exact h.failOp _ _

theorem Link.From.setupReadEnd (e : ReadEnd) : Link.From l (s.setupReadEnd e).link := by
  unfold State.setupReadEnd
  split
  · exact h.readEnd e _ fun bytes => (h.endOp _).of_link (State.setupData_link bytes _)
  · exact h

theorem Link.From.resultWriteEnd (e : WriteEnd) : Link.From l (s.resultWriteEnd e).link := by
  unfold State.resultWriteEnd
  split
  · exact h.writeEnd e _ ((h.endOp _).resultEnd true)
  · exact h

theorem Link.From.completionWriteEnd (id : Nat) (e : WriteEnd) : Link.From l (s.completionWriteEnd id e).link := by
  unfold State.completionWriteEnd
  split
  · exact h.writeEnd e _ (h.endOp id)
  · exact h

theorem Link.From.chanReadEnd (id : Nat) (c : ChanId) (e : ReadEnd) (take : Chan → ChanEnv → List Byte → ChanOut) :
    Link.From l (s.chanReadEnd id c e take).link :=
  h.readEnd e id fun _ => (h.endOp id).chanEvent c _

theorem Link.From.chanWriteEnd (id : Nat) (c : ChanId) (e : WriteEnd) (take : Chan → ChanEnv → ChanOut) :
    Link.From l (s.chanWriteEnd id c e take).link :=
  h.writeEnd e id ((h.endOp id).chanEvent c _)

theorem Link.From.descriptorReadEnd (id : Nat) (e : ReadEnd) : Link.From l (s.descriptorReadEnd id e).link := by
  unfold State.descriptorReadEnd
  split
  · exact h.chanReadEnd id _ e _
  · exact h

theorem Link.From.dataReadEnd (id : Nat) (e : ReadEnd) : Link.From l (s.dataReadEnd id e).link := by
  unfold State.dataReadEnd
  split
  · exact h.chanReadEnd id _ e _
  · exact h

theorem Link.From.dataWriteEnd (id : Nat) (e : WriteEnd) : Link.From l (s.dataWriteEnd id e).link := by
  unfold State.dataWriteEnd
  split
  · exact h.chanWriteEnd id _ e _
  · exact h

theorem Link.From.writeBackEnd (id : Nat) (e : WriteEnd) : Link.From l (s.writeBackEnd id e).link := by
  unfold State.writeBackEnd
  split
  · exact h.chanWriteEnd id _ e _
  · exact h

theorem Link.From.flushReadEnd (id : Nat) (e : ReadEnd) : Link.From l (s.flushReadEnd id e).link := by
  unfold State.flushReadEnd
  split
  · exact h.chanReadEnd id _ e _
  · exact h

/-! ### Every step -/

/-- Every command does to the link interface what `Link.From` lists. -/
theorem Link.From.exec (i : Instr) : ∃ t, exec i s = .next t ∧ Link.From l t.link := by
  have hdone : ∀ {u : State}, Link.From l u.link → ∃ t, done u = .next t ∧ Link.From l t.link :=
    fun {u} hu => ⟨u.finish, rfl, hu.of_link u.finish_link⟩
  cases i with
  | powerOnReset => exact hdone (u := s.powerOn) .powerOn
  | configurationSpaceWrite busMaster messages vectors => exact hdone (u := s.configWrite _ _ _) h
  | start => exact hdone h.startRule
  | stop => exact hdone (h.of_link s.stopRule_link)
  | reset => exact hdone (u := s.deviceReset) h.drop
  | setupAddressWrite high value => exact hdone (h.setupWrite high value)
  | requestTail value => exact hdone (h.tailWrite value)
  | ringHead ring value => exact hdone (h.ringHeadWrite ring value)
  | registerWrite offset len value => exact hdone (h.windowWrite offset len value)
  | setupReadEnd e => exact hdone (h.setupReadEnd e)
  | requestFetch => exact hdone h.fetchStep
  | requestFetchError timeout => exact hdone (h.fetchFails timeout)
  | badKind kind r => exact hdone (h.unknownKind r kind)
  | nop r => exact hdone (h.request r Link.From.nopBody)
  | sethwy r => exact hdone (h.request r Link.From.sethwyBody)
  | connect r => exact hdone (h.request r Link.From.connectBody)
  | disconnect r => exact hdone (h.request r Link.From.disconnectBody)
  | openChannel r => exact hdone (h.request r Link.From.openBody)
  | closeChannel r => exact hdone (h.request r Link.From.closeBody)
  | reslot r => exact hdone (h.request r Link.From.reslotBody)
  | commit r => exact hdone (h.request r Link.From.commitBody)
  | discard r => exact hdone (h.request r Link.From.discardBody)
  | setref r => exact hdone (h.request r Link.From.setrefBody)
  | qhwy r => exact hdone (h.request r Link.From.qhwyBody)
  | qchan r => exact hdone (h.request r Link.From.qchanBody)
  | qslot r => exact hdone (h.request r Link.From.qslotBody)
  | qtime r => exact hdone (h.request r Link.From.qtimeBody)
  | resultWriteEnd e => exact hdone (h.resultWriteEnd e)
  | deviceFrameEvent o => exact hdone (h.frameEvent o)
  | apply o => exact hdone (h.eventIf _ o)
  | stopClearEvent o => exact hdone (h.eventIf _ o)
  | frameArrival x bytes since => exact hdone (h.arrival x bytes since)
  | hwySilence x o => exact hdone (h.eventIf _ o)
  | hwyLost x o => exact hdone (h.eventIf _ o)
  | referencePulse r => exact hdone (u := s.pulse r) h
  | referenceLoss r o => exact hdone (h.eventIf _ o)
  | driftWindowEnd src o => exact hdone (h.eventIf _ o)
  | candidateQualified src o => exact hdone (h.eventIf _ o)
  | selectLocked o => exact hdone (h.eventIf _ o)
  | holdoverValid o => exact hdone (h.eventIf _ o)
  | holdoverLimit o => exact hdone (h.eventIf _ o)
  | waitToRestore o => exact hdone (h.eventIf _ o)
  | operationTimeout id => exact hdone (h.failOp id true)
  | lateAnswer id e => exact ⟨s, rfl, h⟩
  | descriptorReadEnd id e => exact hdone (h.descriptorReadEnd id e)
  | dataReadEnd id e => exact hdone (h.dataReadEnd id e)
  | dataWriteEnd id e => exact hdone (h.dataWriteEnd id e)
  | writeBackEnd id e => exact hdone (h.writeBackEnd id e)
  | flushReadEnd id e => exact hdone (h.flushReadEnd id e)
  | staleOperationEnd id e => exact hdone (h.staleEnd id)
  | completionWriteEnd id e => exact hdone (h.completionWriteEnd id e)
  | writeBackIssue c => exact hdone (h.chanStepIf c _ _)
  | deferredLookaheadRead c => exact hdone (h.chanStepIf c _ _)
  | primingRead c => exact hdone (h.chanStepIf c _ _)
  | flushWalk c => exact hdone (h.chanStepIf c _ _)
  | chanClosed c => exact hdone (h.chanStepIf c _ _)
  | overflow ring => exact hdone (h.overflowStep ring)
  | heldRecordPlaced ring => exact hdone (h.heldStep ring)
  | stoppingEnd => exact hdone (h.of_link s.stoppingEnd_link)
  | resettingEnd => exact hdone (h.of_link s.resettingEnd_link)

end Steps

/-! ### Moments that are over -/

/-- A command's work ends with the ends of STOPPING and RESETTING: OFFLINE is neither (R190, R194). -/
theorem State.finish_settled (s : State) : Settled s.finish := by
  rw [State.finish_eq, ended]
  split_ifs with hends
  · exact ⟨fun h => DeviceState.noConfusion h.1, fun h => DeviceState.noConfusion h.1⟩
  · exact not_or.1 hends

/-- Every command ends with the ends it brings about, but LATE_ANSWER, which does nothing (R195). -/
theorem exec_eq_done (i : Instr) (s : State) : exec i s = .next s ∨ ∃ u, exec i s = done u := by
  cases i with
  | lateAnswer id e => exact .inl rfl
  | _ => exact .inr ⟨_, rfl⟩

theorem exec_settled {s t : State} (h : Settled s) {i : Instr} (hexec : exec i s = .next t) : Settled t := by
  rcases exec_eq_done i s with e | ⟨u, e⟩
  · rw [e] at hexec
    cases hexec
    exact h
  · rw [e] at hexec
    cases hexec
    exact u.finish_settled

/-- Settles O55: a step runs one command, which changes the link interface as `Link.From` lists, and each such change
keeps the identifiers distinct. -/
theorem linkKept : Obligations.LinkKept := by
  unfold Obligations.LinkKept
  intro s t hlink hsettled hstep
  unfold step at hstep
  split at hstep
  · cases hstep
    exact ⟨hlink, hsettled⟩
  · next c rest _ =>
    have hrest : Settled { s with pending := rest } := hsettled
    obtain ⟨u, hexec, hfrom⟩ := Link.From.exec (s := { s with pending := rest }) .refl c
    have hu : u = t := Host.Outcome.next.inj (hexec.symm.trans hstep)
    exact ⟨linkInv_iff.2 (hu ▸ hfrom.ok (linkInv_iff.1 hlink)), exec_settled hrest hstep⟩

end Sys2Proof.Machine
end

section
/-! PROOFS. O4, O6, O8 and O9: power-on reset, configuration space, START, CONTROL, and the setup address. -/

set_option Elab.async false

namespace Sys2Proof.Machine

/-- In a settled state nothing more comes about within the moment. -/
theorem done_of_settled {s : State} (h : Settled s) : done s = .next s := congrArg _ h.finish

/-- Settles O4: neither command leaves anything to come about. -/
theorem powerOnAndConfiguration : Obligations.PowerOnAndConfiguration := by
  unfold Obligations.PowerOnAndConfiguration
  refine ⟨fun s => done_offline (t := s.powerOn) rfl, fun busMaster messages vectors s h => ?_⟩
  exact done_of_settled (s := s.configWrite busMaster messages vectors) h

/-! ### START (R184, R187, R195) -/

/-- START, by the device state, the setup address and bus mastering. -/
theorem State.startRule_eq (s : State) :
    s.startRule =
      if s.dev.st ≠ .offline then withError .startState s
      else if (s.dev.setupHigh ++ s.dev.setupLow).toNat % 64 = 0 then
        if s.cfg.busMaster = true then
          { s with
            dev := { s.dev with st := .starting, cause := .none, lastError := .none }
            link := s.link.issue .setupRead (s.dev.setupHigh ++ s.dev.setupLow) 64 [] }
        else { s with dev := { s.dev with cause := .setupError, lastError := .none } }
      else { s with dev := { s.dev with cause := .setupInvalid, lastError := .none } } := by
  unfold State.startRule Device.setupAddr
  split_ifs with hst haddr hbus
  · rfl
  · rfl
  · have hoffline : s.dev.st = .offline := not_not.1 hst
    simp [State.startFails, hoffline]
  · rfl

/-- STARTING is no state that ends by itself. -/
theorem done_starting {t : State} (h : t.dev.st = .starting) : done t = .next t :=
  congrArg _ (t.finish_eq_self (by simp [h]) (by simp [h]))

section Start

variable {s : State}

theorem exec_start_ignored (h : Settled s) (hst : s.dev.st ≠ .offline) :
    exec .start s = .next (withError .startState s) := by
  show done s.startRule = _
  rw [State.startRule_eq, if_pos hst]
  exact h.done_withError _

variable (hst : s.dev.st = .offline)

include hst

theorem exec_start_sent (haddr : (s.dev.setupHigh ++ s.dev.setupLow).toNat % 64 = 0) (hb : s.cfg.busMaster = true) :
    exec .start s = .next { s with
      dev := { s.dev with st := .starting, cause := .none, lastError := .none }
      link := s.link.issue .setupRead (s.dev.setupHigh ++ s.dev.setupLow) 64 [] } := by
  show done s.startRule = _
  rw [State.startRule_eq, if_neg (not_not_intro hst), if_pos haddr, if_pos hb]
  exact done_starting rfl

theorem exec_start_unsent (haddr : (s.dev.setupHigh ++ s.dev.setupLow).toNat % 64 = 0) (hb : ¬s.cfg.busMaster = true) :
    exec .start s = .next { s with dev := { s.dev with cause := .setupError, lastError := .none } } := by
  show done s.startRule = _
  rw [State.startRule_eq, if_neg (not_not_intro hst), if_pos haddr, if_neg hb]
  exact done_offline hst

theorem exec_start_invalid (haddr : (s.dev.setupHigh ++ s.dev.setupLow).toNat % 64 ≠ 0) :
    exec .start s = .next { s with dev := { s.dev with cause := .setupInvalid, lastError := .none } } := by
  show done s.startRule = _
  rw [State.startRule_eq, if_neg (not_not_intro hst), if_neg haddr]
  exact done_offline hst

/-- A START taken in OFFLINE clears the last error, and makes the device STARTING where it issues its read (R184,
R187). -/
theorem exec_start_offline :
    ∃ t, exec .start s = .next t ∧ t.dev.lastError = .none ∧
      (s.cfg.busMaster = true → (s.dev.setupHigh ++ s.dev.setupLow).toNat % 64 = 0 → t.dev.st = .starting) := by
  by_cases haddr : (s.dev.setupHigh ++ s.dev.setupLow).toNat % 64 = 0
  · by_cases hb : s.cfg.busMaster = true
    · exact ⟨_, exec_start_sent hst haddr hb, rfl, fun _ _ => rfl⟩
    · exact ⟨_, exec_start_unsent hst haddr hb, rfl, fun hbus => absurd hbus hb⟩
  · exact ⟨_, exec_start_invalid hst haddr, rfl, fun _ hzero => absurd hzero haddr⟩

end Start

/-- Settles O6, one lemma for each outcome. -/
theorem startTaken : Obligations.StartTaken := by
  unfold Obligations.StartTaken
  exact ⟨fun _ hb hst haddr => exec_start_sent hst haddr hb, fun _ h =>
    ⟨fun hst haddr => exec_start_invalid hst haddr,
      fun hst haddr hb _ => exec_start_unsent hst haddr (Bool.eq_false_iff.1 hb), exec_start_ignored h⟩⟩

/-! ### STOP and RESET (R184, R189, R193) -/

/-- Outside ONLINE and HALTED, and while stop pending is set, a STOP is ignored (R184). -/
theorem State.stopRule_ignored {s : State}
    (h : s.dev.st ≠ .online ∧ s.dev.st ≠ .halted ∨ s.dev.st = .online ∧ s.dev.stopPending = true) :
    s.stopRule = withError .stopState s := by
  rcases h with ⟨honline, hhalted⟩ | ⟨honline, hpending⟩
  · unfold State.stopRule
    cases hst : s.dev.st with
    | online => exact absurd hst honline
    | halted => exact absurd hst hhalted
    | _ => rfl
  · simp only [State.stopRule, honline, hpending]
    rfl

@[simp] theorem State.stopOnline_dev (s : State) : s.stopOnline.dev = { s.dev with stopPending := true } :=
  State.stopProcessor_dev _

/-- A RESET is over at once exactly when nothing is in flight (R193, R194). -/
theorem State.deviceReset_finish_dev (s : State) :
    s.deviceReset.finish.dev = { s.dev with
      st := if s.link.ops = [] then .offline else .resetting
      stopPending := false, cause := .none, lastError := .none } := by
  have hends : (s.deviceReset.dev.st = .stopping ∧ (∀ c : ChanId, s.deviceReset.chans[c].st = .closed) ∧
      s.deviceReset.link.ops = [] ∨ s.deviceReset.dev.st = .resetting ∧ s.deviceReset.link.ops = []) ↔
      s.link.ops = [] := by
    simp [State.deviceReset, Link.drop]
  rw [State.finish_eq, ended]
  simp only [hends]
  split_ifs <;> rfl

/-! ### CONTROL (R184) -/

/-- A CONTROL write passes the tests of the window in every device state (R181). -/
theorem State.windowWrite_control (v : Word32) (s : State) : s.windowWrite 0x004 4 v = s.controlWrite v := by
  simp [State.windowWrite, controlOnly, coversRegister]

/-- A CONTROL write is the one command it sets, and otherwise CONTROL_INVALID (R184). -/
theorem Settled.controlWrite {s : State} (h : Settled s) (v : Word32) :
    exec (.registerWrite 0x004 4 v) s =
      if v = 1 then exec .start s
      else if v = 2 then exec .stop s
      else if v = 4 then exec .reset s
      else .next (withError .controlInvalid s) := by
  show done (s.windowWrite 0x004 4 v) = _
  rw [State.windowWrite_control, State.controlWrite]
  split_ifs
  · rfl
  · rfl
  · rfl
  · exact h.done_withError _

/-- Settles O8, row by row of R184's table. -/
theorem controlTable : Obligations.ControlTable := by
  unfold Obligations.ControlTable
  intro v s h
  refine ⟨h.controlWrite v, exec_start_ignored h, exec_start_offline, fun hignored => ?stopIgnored,
    fun honline hpending => ?stopOnline, fun hhalted => ⟨_, stopTaken.2 s hhalted, rfl⟩, ⟨s.deviceReset.finish, rfl, ?reset⟩,
    fun hresetting => ⟨s.deviceReset.finish, rfl, ?resetAgain⟩⟩
  case stopIgnored =>
    show done s.stopRule = _
    rw [State.stopRule_ignored hignored]
    exact h.done_withError _
  case stopOnline =>
    have hrule : s.stopRule = s.stopOnline := by simp [State.stopRule, honline, hpending]
    refine ⟨s.stopOnline, ?_, by rw [State.stopOnline_dev]⟩
    show done s.stopRule = _
    rw [hrule]
    exact done_online _ (by rw [State.stopOnline_dev]; exact honline)
  case reset =>
    rw [State.deviceReset_finish_dev]
    exact ⟨rfl, rfl⟩
  case resetAgain =>
    have hflying : s.link.ops ≠ [] := fun hops => h.2 ⟨hresetting, hops⟩
    rw [State.deviceReset_finish_dev, State.finish_link, if_neg hflying]
    exact ⟨rfl, List.length_map _⟩

/-! ### The setup address (R183) -/

/-- A write of half the setup address: no bit of it is marked zero (R181, R183). -/
theorem State.setupWrite_eq (high : Bool) (v : Word32) (s : State) :
    s.setupWrite high v =
      if s.dev.st = .resetting then withError .resetBusy s
      else if s.dev.st ≠ .offline then withError .setupState s
      else if high then { s with dev := { s.dev with setupHigh := v } }
      else { s with dev := { s.dev with setupLow := v } } := by
  have hlegal : v &&& ~~~0xFFFFFFFF = 0 := by
    rw [show ~~~(0xFFFFFFFF : Word32) = 0 by decide]
    exact BitVec.and_zero
  rw [State.setupWrite, State.regWrite, if_neg (not_not_intro hlegal)]
  rfl

/-- A command's end leaves the setup address. -/
theorem State.finish_setupAddr (s : State) :
    s.finish.dev.setupLow = s.dev.setupLow ∧ s.finish.dev.setupHigh = s.dev.setupHigh := by
  rw [State.finish_eq, ended]
  split_ifs <;> exact ⟨rfl, rfl⟩

theorem State.startRule_setupAddr (s : State) :
    s.startRule.dev.setupLow = s.dev.setupLow ∧ s.startRule.dev.setupHigh = s.dev.setupHigh := by
  rw [State.startRule_eq]
  split_ifs <;> exact ⟨rfl, rfl⟩

theorem State.stopRule_setupAddr (s : State) :
    s.stopRule.dev.setupLow = s.dev.setupLow ∧ s.stopRule.dev.setupHigh = s.dev.setupHigh := by
  unfold State.stopRule
  split
  · split_ifs
    · exact ⟨rfl, rfl⟩
    · rw [State.stopOnline_dev]
      exact ⟨rfl, rfl⟩
  all_goals exact ⟨rfl, rfl⟩

/-- A command whose own work leaves the setup address leaves it. -/
theorem setupAddr_of_done {s t u : State} (hdone : done u = .next t)
    (hu : u.dev.setupLow = s.dev.setupLow ∧ u.dev.setupHigh = s.dev.setupHigh) :
    t.dev.setupLow = s.dev.setupLow ∧ t.dev.setupHigh = s.dev.setupHigh := by
  cases hdone
  exact ⟨u.finish_setupAddr.1.trans hu.1, u.finish_setupAddr.2.trans hu.2⟩

/-- Settles O9: the writes test by test, the reads by computation, and each of the three commands. -/
theorem setupAddress : Obligations.SetupAddress := by
  unfold Obligations.SetupAddress
  refine ⟨fun high v s h => ?_, fun s => ⟨rfl, rfl, rfl⟩, rfl, rfl, fun c s t hc hexec => ?_⟩
  · show done (s.setupWrite high v) = _
    rw [State.setupWrite_eq]
    split_ifs with hresetting hoff hhigh
    · exact h.done_withError _
    · exact h.done_withError _
    · exact done_offline (not_not.1 hoff)
    · exact done_offline (not_not.1 hoff)
  · rcases hc with rfl | rfl | rfl
    · exact setupAddr_of_done hexec s.startRule_setupAddr
    · exact setupAddr_of_done hexec s.stopRule_setupAddr
    · exact setupAddr_of_done (u := s.deviceReset) hexec ⟨rfl, rfl⟩

end Sys2Proof.Machine
end

section
/-! PROOFS. O13 and O14: the tests of a register write, and what the window reads as. -/

set_option Elab.async false

namespace Sys2Proof.Machine

/-! ### The five tests (R181) -/

theorem controlOnly_eq_false {offset len : Nat} : controlOnly offset len = false ↔ offset < 4 ∨ 8 < offset + len := by
  simp only [controlOnly, Bool.and_eq_false_iff, decide_eq_false_iff_not, Nat.not_le]

theorem coversRegister_eq_false {offset len : Nat} : coversRegister offset len = false ↔ len ≠ 4 ∨ offset % 4 ≠ 0 := by
  simp [coversRegister, imp_iff_not_or]

/-- In RESETTING only CONTROL is taken (test 1). -/
theorem State.windowWrite_resetting {s : State} (hst : s.dev.st = .resetting) {offset len : Nat}
    (hout : offset < 4 ∨ 8 < offset + len) (v : Word32) : s.windowWrite offset len v = withError .resetBusy s :=
  if_pos ⟨hst, controlOnly_eq_false.2 hout⟩

/-- Outside RESETTING the first test passes. -/
theorem State.windowWrite_width {s : State} (hst : s.dev.st ≠ .resetting) {offset len : Nat}
    (hwidth : len ≠ 4 ∨ offset % 4 ≠ 0) (v : Word32) : s.windowWrite offset len v = withError .writeWidth s := by
  rw [State.windowWrite, if_neg fun h => hst h.1, if_pos (coversRegister_eq_false.2 hwidth)]
  rfl

theorem State.windowWrite_unmapped {s : State} (hst : s.dev.st ≠ .resetting) {offset : Nat} (hpast : 0x024 < offset)
    (haligned : offset % 4 = 0) (v : Word32) : s.windowWrite offset 4 v = withError .writeUnmapped s := by
  have hcovers : ¬coversRegister offset 4 = false := by simp [coversRegister_eq_false, haligned]
  rw [State.windowWrite, if_neg fun h => hst h.1, if_neg hcovers, if_pos hpast]
  rfl

theorem State.windowWrite_readOnly {s : State} (hst : s.dev.st ≠ .resetting) {offset : Nat}
    (hread : offset = 0x000 ∨ offset = 0x008) (v : Word32) : s.windowWrite offset 4 v = withError .writeReadOnly s := by
  have hcovers : ¬coversRegister offset 4 = false := by
    rw [coversRegister_eq_false]
    omega
  rw [State.windowWrite, if_neg fun h => hst h.1, if_neg hcovers, if_neg (by omega), if_pos hread]
  rfl

/-- A write of a register other than CONTROL is its register's own, whose first test is the window's (R181). -/
theorem State.windowWrite_eq_regWrite {s : State} {offset : Nat} {legal v : Word32} {rule : State → State}
    (hout : offset < 4 ∨ 8 < offset + 4)
    (hpass : s.dev.st ≠ .resetting → s.windowWrite offset 4 v = s.regWrite legal v rule) :
    s.windowWrite offset 4 v = s.regWrite legal v rule := by
  by_cases hst : s.dev.st = .resetting
  · rw [State.windowWrite_resetting hst hout, State.regWrite, if_pos hst]
    rfl
  · exact hpass hst

theorem State.windowWrite_setupLow (v : Word32) (s : State) : s.windowWrite 0x00C 4 v = s.setupWrite false v :=
  State.windowWrite_eq_regWrite (by decide) fun hst => by simp [State.windowWrite, State.setupWrite, coversRegister, hst]

theorem State.windowWrite_setupHigh (v : Word32) (s : State) : s.windowWrite 0x010 4 v = s.setupWrite true v :=
  State.windowWrite_eq_regWrite (by decide) fun hst => by simp [State.windowWrite, State.setupWrite, coversRegister, hst]

theorem State.windowWrite_tail (v : Word32) (s : State) : s.windowWrite 0x014 4 v = s.tailWrite v :=
  State.windowWrite_eq_regWrite (by decide) fun hst => by simp [State.windowWrite, State.tailWrite, coversRegister, hst]

/-- The four RING_HEAD registers follow REQUEST_TAIL (section 9.1). -/
theorem State.windowWrite_ringHead (n : RingId) (v : Word32) (s : State) :
    s.windowWrite (0x018 + 4 * n.val) 4 v = s.ringHeadWrite n v := by
  refine State.windowWrite_eq_regWrite (by omega) fun hst => ?_
  have hn : Fin.ofNat 4 ((0x018 + 4 * n.val - 0x018) / 4) = n := by
    ext
    simp
  have hcovers : ¬coversRegister (0x018 + 4 * n.val) 4 = false := by
    rw [coversRegister_eq_false]
    omega
  rw [State.windowWrite, if_neg fun h => hst h.1, if_neg hcovers, hn]
  repeat rw [if_neg (by omega)]
  rfl

/-- Settles O13, test by test and register by register. -/
theorem registerWriteTests : Obligations.RegisterWriteTests := by
  unfold Obligations.RegisterWriteTests
  have hdone : ∀ {s u : State} {e : RegError}, Settled s → u = withError e s → done u = .next (withError e s) :=
    fun h hu => hu ▸ h.done_withError _
  exact fun offset len v s h =>
    ⟨fun hst hout => hdone h (State.windowWrite_resetting hst hout v),
      fun hst hwidth => hdone h (State.windowWrite_width hst hwidth v),
      fun hst hpast haligned => hdone h (State.windowWrite_unmapped hst hpast haligned v),
      fun hst hread => hdone h (State.windowWrite_readOnly hst hread v),
      congrArg done (s.windowWrite_setupLow v), congrArg done (s.windowWrite_setupHigh v),
      congrArg done (s.windowWrite_tail v), fun n => congrArg done (s.windowWrite_ringHead n v)⟩

/-! ### STATUS (section 9.1, R182) -/

theorem DeviceState.code_lt (d : DeviceState) : d.code < 8 := by cases d <;> decide

theorem ProcState.code_lt (p : ProcState) : p.code < 8 := by cases p <;> decide

theorem Cause.code_lt (k : Cause) : k.code < 8 := by cases k <;> decide

theorem RegError.code_lt (e : RegError) : e.code < 16 := by cases e <;> decide

/-- STATUS as a number: its fields do not overlap, and fill no more than 32 bits. -/
theorem State.statusReg_toNat (s : State) :
    s.statusReg.toNat = s.dev.st.code + 0x8 * bit s.dev.stopPending + 0x10 * s.proc.st.code + 0x80 * s.dev.cause.code +
      0x400 * s.dev.lastError.code + 0x10000 * s.proc.consumed.toNat := by
  have hst := s.dev.st.code_lt
  have hproc := s.proc.st.code_lt
  have hcause := s.dev.cause.code_lt
  have herror := s.dev.lastError.code_lt
  have hconsumed := s.proc.consumed.isLt
  have hpending : bit s.dev.stopPending ≤ 1 := by cases s.dev.stopPending <;> decide
  rw [State.statusReg, BitVec.toNat_ofNat]
  omega

theorem State.statusReg_fields (s : State) :
    s.statusReg.toNat % 8 = s.dev.st.code ∧ s.statusReg.getLsbD 3 = s.dev.stopPending ∧
      s.statusReg.toNat / 0x10 % 8 = s.proc.st.code ∧ s.statusReg.toNat / 0x80 % 8 = s.dev.cause.code ∧
      s.statusReg.toNat / 0x400 % 16 = s.dev.lastError.code ∧ s.statusReg.toNat / 0x4000 % 4 = 0 ∧
      s.statusReg.toNat / 0x10000 = s.proc.consumed.toNat := by
  have hst := s.dev.st.code_lt
  have hproc := s.proc.st.code_lt
  have hcause := s.dev.cause.code_lt
  have herror := s.dev.lastError.code_lt
  have hpending : bit s.dev.stopPending ≤ 1 := by cases s.dev.stopPending <;> decide
  have hbit : s.statusReg.getLsbD 3 = decide (bit s.dev.stopPending = 1) := by
    rw [BitVec.getLsbD, Nat.testBit_eq_decide_div_mod_eq, State.statusReg_toNat]
    exact decide_eq_decide.2 (by omega)
  refine ⟨?_, hbit.trans (by cases s.dev.stopPending <;> rfl), ?_, ?_, ?_, ?_, ?_⟩
  all_goals
    rw [State.statusReg_toNat]
    omega

/-! ### Reads of the window (R181, R183) -/

/-- CONTROL and what follows SETUP_HIGH read as 0. -/
theorem State.readReg_zero (s : State) {offset : Nat} (h : offset = 0x004 ∨ 0x014 ≤ offset) : s.readReg offset = 0 := by
  rw [State.readReg, if_neg (by omega), if_neg (by omega), if_neg (by omega), if_neg (by omega)]

/-- Byte `k` of a register. -/
theorem byte_eq_extractLsb' (x : Word32) (k : Nat) : BitVec.ofNat 8 (x.toNat / 256 ^ k) = x.extractLsb' (8 * k) 8 := by
  rw [BitVec.extractLsb', Nat.shiftRight_eq_div_pow, Nat.pow_mul]

theorem State.readWindow_getElem? (s : State) (offset : Nat) {i len : Nat} (hi : i < len) :
    (s.readWindow offset len)[i]? =
      some ((s.readReg (4 * ((offset + i) / 4))).extractLsb' (8 * ((offset + i) % 4)) 8) := by
  rw [State.readWindow, List.getElem?_map, List.getElem?_range hi, Option.map_some, byte_eq_extractLsb']

/-- Settles O14: the fields of STATUS, the registers that read 0, and the bytes of any read. -/
theorem statusFields : Obligations.StatusFields := by
  unfold Obligations.StatusFields
  exact ⟨State.statusReg_fields, fun s _ => s.readReg_zero,
    fun s offset len => ⟨by simp [State.readWindow], fun _ hi => s.readWindow_getElem? offset hi⟩⟩

end Sys2Proof.Machine
end

section
/-! PROOFS. O1 and O2: a step runs the command at the front of the queue, and no command touches the queue. -/

set_option Elab.async false

namespace Sys2Proof.Machine

/-! ### The registers -/

/-- A register write that its tests refuse only notes the error, so the queue is as the register's own rule leaves it
(R181). -/
theorem State.regWrite_pending (legal v : Word32) {rule : State → State} {s : State}
    (hrule : (rule s).pending = s.pending) : (s.regWrite legal v rule).pending = s.pending := by
  unfold State.regWrite
  split_ifs
  · exact s.regError_pending _
  · exact s.regError_pending _
  · exact hrule

@[simp] theorem State.powerOn_pending (s : State) : s.powerOn.pending = s.pending := rfl

@[simp] theorem State.setupWrite_pending (high : Bool) (v : Word32) (s : State) :
    (s.setupWrite high v).pending = s.pending := by
  refine State.regWrite_pending _ _ ?_
  unfold State.setupRule
  split_ifs <;> rfl

@[simp] theorem State.tailWrite_pending (v : Word32) (s : State) : (s.tailWrite v).pending = s.pending := by
  refine State.regWrite_pending _ _ ?_
  unfold State.tailRule
  split_ifs <;> simp

@[simp] theorem State.ringHeadWrite_pending (n : RingId) (v : Word32) (s : State) :
    (s.ringHeadWrite n v).pending = s.pending := by
  refine State.regWrite_pending _ _ ?_
  unfold State.headRule
  split_ifs <;> simp

@[simp] theorem State.controlWrite_pending (v : Word32) (s : State) : (s.controlWrite v).pending = s.pending := by
  unfold State.controlWrite
  split_ifs <;> simp

@[simp] theorem State.windowWrite_pending (offset len : Nat) (v : Word32) (s : State) :
    (s.windowWrite offset len v).pending = s.pending := by
  unfold State.windowWrite
  split_ifs <;> simp

/-! ### The meanings of the requests -/

section Bodies

variable (r : ReqRecord) (hand : Hand) (s : State)

@[simp] theorem nopBody_pending : (nopBody r hand s).pending = s.pending := by
  unfold nopBody
  split <;> simp

@[simp] theorem sethwyBody_pending : (sethwyBody r hand s).pending = s.pending := by
  unfold sethwyBody
  dsimp only
  split
  · split <;> simp
  · simp

@[simp] theorem connectBody_pending : (connectBody r hand s).pending = s.pending := by
  unfold connectBody
  split
  · split <;> simp
  · simp

@[simp] theorem disconnectBody_pending : (disconnectBody r hand s).pending = s.pending := by
  unfold disconnectBody
  split
  · split <;> simp
  · simp

@[simp] theorem openBody_pending : (openBody r hand s).pending = s.pending := by
  unfold openBody
  dsimp only
  split
  · split <;> simp
  · simp

@[simp] theorem State.closeChan_pending (c : ChanId) (immediate : Bool) :
    (s.closeChan c hand immediate).pending = s.pending := by
  unfold State.closeChan
  split
  case h_4 =>
    split
    · split <;> simp
    · simp
  all_goals simp

@[simp] theorem closeBody_pending : (closeBody r hand s).pending = s.pending := by
  unfold closeBody
  split <;> simp

@[simp] theorem State.reslotOpen_pending (c : ChanId) (x : HwyId) (l : List Nat) (immediate : Bool) :
    (s.reslotOpen c x l hand immediate).pending = s.pending := by
  unfold State.reslotOpen
  split <;> simp

@[simp] theorem State.reslotChan_pending (c : ChanId) (x : HwyId) (l : List Nat) (immediate : Bool) :
    (s.reslotChan c x l hand immediate).pending = s.pending := by
  unfold State.reslotChan
  split
  · split <;> simp
  · split <;> simp
  · simp
  · split <;> simp

@[simp] theorem reslotBody_pending : (reslotBody r hand s).pending = s.pending := by
  unfold reslotBody
  split <;> simp

@[simp] theorem commitBody_pending : (commitBody r hand s).pending = s.pending := by
  unfold commitBody
  split
  · split <;> simp
  · simp

@[simp] theorem discardBody_pending : (discardBody r hand s).pending = s.pending := by
  unfold discardBody
  split <;> simp

@[simp] theorem setrefBody_pending : (setrefBody r hand s).pending = s.pending := by
  unfold setrefBody
  split <;> simp

@[simp] theorem qhwyBody_pending : (qhwyBody r hand s).pending = s.pending := by
  unfold qhwyBody
  dsimp only
  split_ifs <;> simp

@[simp] theorem qchanBody_pending : (qchanBody r hand s).pending = s.pending := by
  unfold qchanBody
  dsimp only
  split_ifs <;> simp

@[simp] theorem qslotBody_pending : (qslotBody r hand s).pending = s.pending := by
  unfold qslotBody
  split
  · split <;> simp
  · simp

@[simp] theorem qtimeBody_pending : (qtimeBody r hand s).pending = s.pending := by
  unfold qtimeBody
  split <;> simp

end Bodies

/-! ### The end of a fetch -/

theorem State.fetched_pending {s t : State} (ht : s.fetched = some t) : t.pending = s.pending := by
  unfold State.fetched at ht
  split at ht
  · split_ifs at ht
    rw [← Option.some.inj ht]
    rfl
  · cases ht

/-- A fetched request leaves the queue when its kind's own meaning does. -/
theorem State.request_pending {body : ReqRecord → Hand → State → State}
    (hbody : ∀ r hand u, (body r hand u).pending = u.pending) (r : ReqRecord) (s : State) :
    (s.request r body).pending = s.pending := by
  unfold State.request
  split
  · rfl
  · next u hfetched =>
    rw [← State.fetched_pending hfetched]
    split
    · exact hbody _ _ u
    · exact u.failRequest_pending _ _

@[simp] theorem State.unknownKind_pending (kind : Byte) (r : ReqRecord) (s : State) :
    (s.unknownKind kind r).pending = s.pending := by
  unfold State.unknownKind
  split
  · rfl
  · split
    · rfl
    · next u hfetched => exact (u.failRequest_pending _ _).trans (State.fetched_pending hfetched)

@[simp] theorem State.fetchFails_pending (timeout : Bool) (s : State) : (s.fetchFails timeout).pending = s.pending := by
  unfold State.fetchFails
  split <;> simp

/-! ### The ends of host memory operations -/

@[simp] theorem State.setupReadEnd_pending (e : ReadEnd) (s : State) : (s.setupReadEnd e).pending = s.pending := by
  unfold State.setupReadEnd
  split
  · cases e <;> simp
  · rfl

@[simp] theorem State.resultWriteEnd_pending (e : WriteEnd) (s : State) :
    (s.resultWriteEnd e).pending = s.pending := by
  unfold State.resultWriteEnd
  split
  · cases e <;> simp
  · rfl

@[simp] theorem State.completionWriteEnd_pending (id : Nat) (e : WriteEnd) (s : State) :
    (s.completionWriteEnd id e).pending = s.pending := by
  unfold State.completionWriteEnd
  split
  · cases e <;> simp
  · rfl

@[simp] theorem State.chanReadEnd_pending (id : Nat) (c : ChanId) (e : ReadEnd)
    (take : Chan → ChanEnv → List Byte → ChanOut) (s : State) :
    (s.chanReadEnd id c e take).pending = s.pending := by
  cases e <;> simp [State.chanReadEnd]

@[simp] theorem State.chanWriteEnd_pending (id : Nat) (c : ChanId) (e : WriteEnd) (take : Chan → ChanEnv → ChanOut)
    (s : State) : (s.chanWriteEnd id c e take).pending = s.pending := by
  cases e <;> simp [State.chanWriteEnd]

@[simp] theorem State.descriptorReadEnd_pending (id : Nat) (e : ReadEnd) (s : State) :
    (s.descriptorReadEnd id e).pending = s.pending := by
  unfold State.descriptorReadEnd
  split <;> simp

@[simp] theorem State.dataReadEnd_pending (id : Nat) (e : ReadEnd) (s : State) :
    (s.dataReadEnd id e).pending = s.pending := by
  unfold State.dataReadEnd
  split <;> simp

@[simp] theorem State.dataWriteEnd_pending (id : Nat) (e : WriteEnd) (s : State) :
    (s.dataWriteEnd id e).pending = s.pending := by
  unfold State.dataWriteEnd
  split <;> simp

@[simp] theorem State.writeBackEnd_pending (id : Nat) (e : WriteEnd) (s : State) :
    (s.writeBackEnd id e).pending = s.pending := by
  unfold State.writeBackEnd
  split <;> simp

@[simp] theorem State.flushReadEnd_pending (id : Nat) (e : ReadEnd) (s : State) :
    (s.flushReadEnd id e).pending = s.pending := by
  unfold State.flushReadEnd
  split <;> simp

/-! ### Events and own steps that the state may give no place (log entries 3 to 5) -/

theorem State.eventIf_pending (due : Bool) (o : FrameOrder) (s : State) : (s.eventIf due o).pending = s.pending := by
  unfold State.eventIf
  split <;> simp

theorem State.chanStepIf_pending (c : ChanId) (can : Chan → ChanEnv → Bool) (step : Chan → ChanEnv → ChanOut)
    (s : State) : (s.chanStepIf c can step).pending = s.pending := by
  unfold State.chanStepIf
  split <;> simp

@[simp] theorem State.overflowStep_pending (n : RingId) (s : State) : (s.overflowStep n).pending = s.pending := by
  unfold State.overflowStep
  split <;> simp

@[simp] theorem State.heldStep_pending (n : RingId) (s : State) : (s.heldStep n).pending = s.pending := by
  unfold State.heldStep
  split <;> simp

/-! ### Every command, and the step -/

/-- Every command gives a next state with the same queue: the requests by their kinds' meanings, the named occurrences and
the channels' own steps as the event or step that may not be due, and every other command by its own law. -/
theorem exec_pending (i : Instr) (s : State) : ∃ t, exec i s = .next t ∧ t.pending = s.pending := by
  have hdone : ∀ {u : State}, u.pending = s.pending → ∃ t, done u = .next t ∧ t.pending = s.pending :=
    fun {u} hu => ⟨u.finish, rfl, u.finish_pending.trans hu⟩
  cases i with
  | lateAnswer id e => exact ⟨s, rfl, rfl⟩
  | nop r => exact hdone (State.request_pending nopBody_pending r s)
  | sethwy r => exact hdone (State.request_pending sethwyBody_pending r s)
  | connect r => exact hdone (State.request_pending connectBody_pending r s)
  | disconnect r => exact hdone (State.request_pending disconnectBody_pending r s)
  | openChannel r => exact hdone (State.request_pending openBody_pending r s)
  | closeChannel r => exact hdone (State.request_pending closeBody_pending r s)
  | reslot r => exact hdone (State.request_pending reslotBody_pending r s)
  | commit r => exact hdone (State.request_pending commitBody_pending r s)
  | discard r => exact hdone (State.request_pending discardBody_pending r s)
  | setref r => exact hdone (State.request_pending setrefBody_pending r s)
  | qhwy r => exact hdone (State.request_pending qhwyBody_pending r s)
  | qchan r => exact hdone (State.request_pending qchanBody_pending r s)
  | qslot r => exact hdone (State.request_pending qslotBody_pending r s)
  | qtime r => exact hdone (State.request_pending qtimeBody_pending r s)
  | apply | stopClearEvent | hwySilence | hwyLost | referenceLoss | driftWindowEnd | candidateQualified | selectLocked
  | holdoverValid | holdoverLimit | waitToRestore => exact hdone (State.eventIf_pending _ _ s)
  | writeBackIssue c | deferredLookaheadRead c | primingRead c | flushWalk c | chanClosed c =>
    exact hdone (State.chanStepIf_pending c _ _ s)
  | _ => exact hdone (by simp)

/-- Settles O2: the law of every command. -/
theorem commandsComplete : Obligations.CommandsComplete := by
  unfold Obligations.CommandsComplete
  exact exec_pending

/-- A step with a command waiting (log entry 1). -/
theorem step_of_pending {c : Instr} {rest : List Instr} {s : State} (h : s.pending = c :: rest) :
    step s = exec c { s with pending := rest } := by
  rw [step, h]

/-- Settles O1: the branch of the step for a queue that is not empty. -/
theorem stepRunsFront : Obligations.StepRunsFront := by
  unfold Obligations.StepRunsFront
  exact fun c rest s h => step_of_pending h

end Sys2Proof.Machine
end
